-- ==== Sys2Proof/Word.lean ====
section
/-! DEFINITION. Word.lean: the word types of the module (R11: register words are 32 bits wide, structures are made of bytes). -/
namespace Sys2Proof

/-- A register word of BAR0 or BAR2 (R11). -/
abbrev Word := BitVec 32

/-- One byte of host memory, cell data or engine memory. -/
abbrev Byte := BitVec 8

end Sys2Proof
end

