-- ==== Sys2Proof/Syntax/Types.lean ====
section
/-! DEFINITION. Syntax/Types.lean: the operand types of the commands: who makes an access, what arrives on a port, and what a
mailbox slot carries. Every type here is plain data. -/
namespace Sys2Proof

/-- The two parties that access BAR0 (R33, R38). -/
inductive Party | manager | cc
  deriving DecidableEq, Repr

/-- The frame forms of R101. -/
inductive FrameForm
  /-- Layer-2 sampled values, EtherType 0x88BA. -/
  | sv
  /-- Layer-2 GOOSE, EtherType 0x88B8. -/
  | goose
  /-- Routed R-SV and R-GOOSE over IPv4 and IPv6. -/
  | rsv4 | rsv6 | rgoose4 | rgoose6
  /-- PRP and HSR supervision, EtherType 0x88FB. -/
  | supervision
  /-- PTP, EtherType 0x88F7. -/
  | ptp
  /-- Any other EtherType (R102). -/
  | other
  /-- EtherType 0x88BA or 0x88B8 in no accepted form, or a routed form that cannot be decoded (R101). -/
  | undecodable
  deriving DecidableEq, Repr

/-- The IEC 62351-6 security extension, or the security fields of a routed frame, as parsed (R103, R104). -/
structure SecExt where
  /-- The algorithm the extension names, in the encoding of CTX_CTRL.ALG. -/
  alg : Nat
  /-- The 32-bit key identifier. -/
  keyId : Nat
  /-- The 64-bit invocation field; 0 where the algorithm has none. -/
  iv : Nat
  /-- Every field recognised, with the lengths of the table for the algorithm named. -/
  wellFormed : Bool
  deriving DecidableEq, Repr

/-- A frame as the port and its parser see it (R54, R101). -/
structure Frame where
  form : FrameForm
  dstMac : Nat
  srcMac : Nat
  /-- IEEE 802.1Q tags carried, and the VLAN ID of the first (0 for untagged and priority-tagged frames). -/
  vlanTags : Nat
  vlanId : Nat
  appId : Nat
  /-- The frame is an IP fragment (R5). -/
  fragment : Bool
  dstAddr : Nat
  srcAddr : Nat
  udpPort : Nat
  /-- svID or goCBRef. -/
  ident : List Byte
  /-- smpCnt of each ASDU, first to last (sampled values). -/
  smpCnts : List Nat
  smpSynch : Nat
  /-- Channel values of each ASDU. -/
  samples : List (List Int)
  stNum : Nat
  sqNum : Nat
  /-- t of the GOOSE state: seconds and 24-bit FractionOfSecond. -/
  tSec : Nat
  tFrac : Nat
  /-- timeAllowedtoLive, ms. -/
  ttl : Nat
  simulation : Bool
  /-- Quality word of each channel: [1:0] validity, [11] test. -/
  quality : List Nat
  ext : Option SecExt
  /-- PRP trailer or HSR tag: the sequence number. -/
  redSeq : Option Nat
  hsrTagged : Bool
  /-- The PTP residence or supervision content and every other byte: the frame from its destination MAC, without the FCS. -/
  bytes : List Byte
  deriving DecidableEq, Repr

/-- The kinds of PTP message that reach the time unit (R122). -/
inductive PtpKind | announce | sync | followUp | pdelayReq | pdelayResp | pdelayRespFollowUp | management
  deriving DecidableEq, Repr

/-- A received PTP message, with what the time unit derives from its timestamps. -/
structure PtpMsg where
  kind : PtpKind
  domain : Nat
  /-- The message relies only on options of R122. -/
  optionOk : Bool
  /-- The announced data set as a rank: lower is better (the default algorithm of IEEE 1588-2019). -/
  rank : Nat
  /-- Offset of the source from the time unit's clock, ns, when this message completes a sync. -/
  offset : Option Int
  /-- Mean link delay, ns, when this message completes a peer-delay exchange: a one-step response or a follow-up. -/
  delay : Option Nat
  /-- Ingress timestamp, ns since the PTP epoch. -/
  rxTs : Nat
  bytes : List Byte
  deriving DecidableEq, Repr

/-- A decoded IRIG-B frame (R126). -/
structure IrigFrame where
  /-- Position markers good and every BCD digit at most 9. -/
  wellFormed : Bool
  /-- The UTC second that the frame names, counted from the beginning of its year. -/
  second : Nat
  /-- The year that the frame names (B004 to B007 or IEEE 1344). -/
  year : Option Nat
  /-- TAI − UTC from IEEE 1344 fields, when present. -/
  taiUtc : Option Nat
  /-- Offset of the frame's on-time mark from the time unit's clock, ns. -/
  offset : Int
  deriving DecidableEq, Repr

/-- What PBP_LINK reports of a port's receive side (R130, R131). -/
structure LinkReport where
  up : Bool
  fecAligned : Bool
  los : Bool
  deriving DecidableEq, Repr

/-- The part of a mailbox command slot that every command carries (R324). -/
structure Slot where
  tag : Nat
  raddr : Nat
  rlen : Nat
  deriving DecidableEq, Repr

/-- What a PHY's SGMII control word reports (R99). -/
inductive PhySpeed | m10 | m100 | m1000
  deriving DecidableEq, Repr

/-- The inputs whose loss ends a time source (R118, R119). -/
inductive TimeSource
  /-- The announces that arrive on a port. -/
  | ptp (port : Fin 4)
  | irig | pps
  deriving DecidableEq, Repr

/-- What needs a key that is not resident (R162): the lane request at an arbiter position, or a staging load. -/
inductive NeedSrc
  | request (pillow : Fin 16) (position : Fin 33)
  | load (ctx : Nat)
  deriving DecidableEq, Repr

/-- The operands of an LIU command word beside its OP (R202), and what the control cluster wrote to the public window since the last
command (R201): register and value, each written with 64-bit accesses. -/
structure LiuWord where
  pub : List (Fin 32 × Nat)
  dst : Fin 64
  srcA : Fin 64
  srcB : Fin 64
  release : Bool
  lenM1 : Fin 128
  deriving DecidableEq, Repr

/-- The two units that idle gating switches (R437). -/
inductive IdleUnit | ltu | liu
  deriving DecidableEq, Repr

/-- A Pypian-2 word beside its MAJOR (R248). -/
structure OpWord where
  guard : BitVec 3
  n : Bool
  ops : BitVec 22
  deriving DecidableEq, Repr

/-- What starts a quarantine (R228, R417). -/
inductive QuarCause | selfTest | minority | ramError | parity
  deriving DecidableEq, Repr

/-- Where a transmit fetch goes (R315, R323). -/
inductive FetchSrc
  /-- The slice rotation. -/
  | slices
  /-- Manager ring 2 (management transmit) or 3 (raw transmit). -/
  | mgmtRing | rawRing
  deriving DecidableEq, Repr

/-- The reads that can end in an error (R320): for a slice or for the manager's rings. -/
inductive ReadOwner
  | slice (s : Fin 1024)
  | manager
  deriving DecidableEq, Repr

/-- The ring a failing read belongs to (R329, SLS_ERRINFO.RING). -/
inductive ReadRing | transmit | buffers | frame
  deriving DecidableEq, Repr

/-- How a read ended (R320). -/
inductive ReadError | unsupported | abort | poisoned
  deriving DecidableEq, Repr

/-- A transmit descriptor as read (R314). -/
structure TxDescIn where
  addr : Nat
  len : Nat
  ctx : Nat
  tck : Nat
  tnk : Nat
  tag : Nat
  /-- A reserved bit is set. -/
  rsvd : Bool
  deriving DecidableEq, Repr

/-- The events of R307. -/
inductive PcieReset | flr | linkDown | l2
  deriving DecidableEq, Repr

/-- A tree-node definition (R165). -/
structure NodeDef where
  index : Nat
  /-- The parent node, or the blob of a root. -/
  parent : Option Nat
  rootBlob : Nat
  slice : Nat
  attr : Nat
  ktype : Nat
  kid : Nat
  label : List Byte
  deriving DecidableEq, Repr

/-- The curves of the LIU's library (R207). -/
inductive LibCurve | p256 | p384 | other
  deriving DecidableEq, Repr

/-- A service of the library above the LIU with the values that its input checks look at, and whether its lengths are consistent (R207). -/
inductive LibCall
  /-- Modulus, and signature or input. -/
  | rsaVerify (n x : Nat) (lengthsOk : Bool)
  | rsaPublic (n x : Nat) (lengthsOk : Bool)
  /-- Modulus and message representative. -/
  | rsaSign (n m : Nat) (lengthsOk : Bool)
  /-- r, s and the public key's coordinates. -/
  | ecdsaVerify (curve : LibCurve) (r s x y : Nat) (lengthsOk : Bool)
  /-- The peer's point, and whether the shared point is the point at infinity. -/
  | ecdh (curve : LibCurve) (x y : Nat) (infinity : Bool) (lengthsOk : Bool)
  /-- The nonces that have given r or s equal to 0. -/
  | ecdsaSign (curve : LibCurve) (zeros : Nat) (lengthsOk : Bool)
  deriving DecidableEq, Repr

/-- One relayed GDOI message as the control cluster decodes it (R181, R182). -/
structure GdoiIn where
  /-- The relay asks for the module's next message instead of bringing one. -/
  outward : Bool
  /-- The message belongs to registration, whose phase 1 needs randomness. -/
  registration : Bool
  group : Nat
  /-- The sequence of a GROUPKEY-PUSH. -/
  seq : Nat
  /-- The message decodes, and its authentication holds. -/
  authentic : Bool
  /-- A traffic key: key identifier, KTYPE, activation time and the protected key bytes. -/
  kid : Option Nat
  ktype : Nat
  activate : Nat
  key : List Byte
  /-- A group KEK that the message carries, protected. -/
  kek : Option (List Byte)
  /-- The services of the LIU's library that the message needs, in their order (R207). -/
  lib : List LibCall
  deriving DecidableEq, Repr

/-- The algorithm of a certificate signature (R207). -/
inductive CertAlg | rsa | ecdsaP256 | ecdsaP384 | otherCurve | unsupported
  deriving DecidableEq, Repr

/-- A certificate and its issuer key, as CERT_CHECK carries them (R207, R208). -/
structure CertIn where
  alg : CertAlg
  /-- RSA modulus and exponent, or the key's affine coordinates. -/
  n : Nat
  e : Nat
  x : Nat
  y : Nat
  /-- Signature: the RSA value, or r and s. -/
  sigR : Nat
  sigS : Nat
  /-- The lengths of the encoding are consistent. -/
  lengthsOk : Bool
  tbs : List Byte
  deriving DecidableEq, Repr

/-- How programming an OTP group ends (R385): every bit reads back, some bits fail after their retries, or no bit took. -/
inductive OtpOutcome | done | startPart | startNone | donePart
  deriving DecidableEq, Repr

/-- What the boot finds on reading words and images (R421, R195, R425). -/
structure BootEnv where
  /-- The digest computed over the DRAM copy of image A, of image B, matches (R421). -/
  copyA : Bool
  copyB : Bool
  /-- DIEID, MFGKEYHASH and the device root key read where the state requires them. -/
  otpOk : Bool
  /-- The battery domain kept its content (R431). -/
  batteryOk : Bool
  /-- Flurry's known-answer tests pass (R401). -/
  katOk : Bool
  /-- Seconds and ns counted by the battery domain since the last power failure (R423). -/
  elapsedSec : Nat
  elapsedNs : Nat
  /-- The power failed while the STAGED master-key record was being written as ACTIVE: its STATE is the new one and its CRC the old (R176). -/
  torn : Bool
  deriving DecidableEq, Repr

/-- A firmware image (R194): the fields of its header, with the reserved bytes in their order, and its body. Keys, digests and signatures
are numbers. -/
structure FwImage where
  magic : Nat
  version : Nat
  kind : Nat
  fwVer : Nat
  svn : Nat
  length : Nat
  keyIdx : Nat
  bodyDigest : Nat
  pubKey : Nat
  sig : Nat
  /-- The reserved bytes before SIG: 1 at 0x0007, 11 at 0x0015, 32 at 0x0060. -/
  rsvd : List Byte
  /-- The 845 reserved bytes after SIG. -/
  tail : List Byte
  body : List Byte
  deriving DecidableEq, Repr

/-- The end of a firmware recovery (R426): the image as the boot ROM read it, or a write to NAND that failed. -/
inductive RecoveryOutcome
  | image (m : FwImage)
  | nandFail
  deriving DecidableEq, Repr

/-- Operations through JTAG (R380, R391). -/
inductive JtagOp
  | idcode | bypass | boundaryScan
  | memoryTest
  /-- A read through the debug view of this bit. -/
  | view (bit : Fin 5)
  /-- A halt of a bobbin through the view HALT. -/
  | halt (b : Fin 512)
  deriving DecidableEq, Repr

/-- A mirrored record of the partner (R335). -/
inductive MirrorItem
  /-- Creation of a context: its index and the block of CTX_CREATE. -/
  | ctx (index : Nat) (block : List Byte)
  /-- Modification of a context: its new CTRL, RATE, SUPV, PLAUS and PLIM words and its declared rate. -/
  | ctxModify (index : Nat) (ctrl rate supv plaus plim : Word) (declRate : Nat)
  | ctxRemove (index : Nat)
  | keyWords (index : Nat) (nstate kidCur kidNext ovlEnd : Nat)
  /-- A paired commit: T_c in ns since the PTP epoch, and CTX_OVLEND (R348). -/
  | commitAt (index : Nat) (tc ovlEnd : Nat)
  | balDefine (group pillow channels tolAbs tolRel persist balWait smpRate : Nat)
  | balRemove (group : Nat)
  | assign (pillow : Nat) (entries : List (Nat × Nat))
  | drain (pillow mask : Nat)
  | giveBack (pillow : Nat)
  | durable (mirrorSeq : Nat)
  /-- The final record of a switchover with the exact publisher counters: next invocation values by context, and sequence numbers by
  port pair (R346). -/
  | final (ivs seqs : List (Nat × Nat))
  deriving DecidableEq, Repr

/-- The partner's state in its heartbeat (R339). -/
inductive PeerState | single | binding | active | standby | alone | detached | held
  deriving DecidableEq, Repr

/-- A publish record as received (R335). -/
structure PubRecIn where
  ctx : Nat
  first : Nat
  last : Nat
  iv : Nat
  seqNo : Nat
  digest : Nat
  deriving DecidableEq, Repr

/-- What the station side samples for a frame of the isolated link towards the logic side (R20): the comparators. -/
structure StnFrame where
  raw : BitVec 8
  deriving DecidableEq, Repr

/-- The operations of the LTU (R209, LTU_STATE.OP). -/
inductive LtuOp
  | dsaKeygen | dsaSign | dsaVerify | kemKeygen | kemEncaps | kemDecaps | sha3 | selfTest
  /-- SHAKE128 and SHAKE256 with an output length in bytes (R186). -/
  | shake128 (n : Nat)
  | shake256 (n : Nat)
  deriving DecidableEq, Repr

end Sys2Proof
end

