-- ==== Sys2Proof/Syntax.lean ====
section
/-! DEFINITION. Syntax.lean: the commands the module takes, one constructor per row of the opcode table. -/
namespace Sys2Proof

/-- The commands and events of the KX5120: each row of the table of operations and events, with its operands. -/
inductive Instr
  /-- REGISTER_WRITE (R16). -/
  | regWrite (by_ : Party) (size addr : Nat) (v : Word)
  /-- REFUSED_READ (R53). -/
  | refusedRead (by_ : Party) (size addr : Nat)
  /-- BLK_STCLR (R43). -/
  | blkStclr (by_ : Party) (page : Nat) (v : Word)
  /-- BLK_UNLK (R46). -/
  | blkUnlk (by_ : Party) (page : Nat) (v : Word)
  /-- UNLOCK_LAPSE (R47). -/
  | unlockLapse (by_ : Party) (page : Nat)
  /-- CFG_CRC_PASS (R49). -/
  | cfgCrcPass (page : Nat)
  /-- CFGHOLD_TIMEOUT (R52). -/
  | cfgholdTimeout (page : Nat)
  /-- FRAME_ARRIVAL (R54). -/
  | frameArrival (port : Fin 4) (f : Frame)
  /-- FRAME_LAST_BYTE (R100). -/
  | frameLastByte (port : Fin 4) (len : Nat) (fcsOk : Bool)
  /-- DUP_ENTRY_EXPIRY (R108). -/
  | dupEntryExpiry (pair : Fin 2) (mac seq : Nat)
  /-- HSR_PASS_THROUGH (R110). -/
  | hsrPassThrough (port : Fin 4)
  /-- MGMT_FRAME_RECEIVE (R127). -/
  | mgmtFrameReceive (bytes : List Byte)
  /-- LINK_CHANGE (R130). -/
  | linkChange (port : Fin 4) (r : LinkReport)
  /-- PHY_SPEED_REPORT (R99). -/
  | phySpeedReport (port : Fin 4) (speed : PhySpeed)
  /-- PAIR_MODE_CHANGE (R107). -/
  | pairModeChange (by_ : Party) (pair : Fin 2) (v : Word)
  /-- FRAME_DISPATCH (R213). -/
  | frameDispatch (pillow : Fin 16)
  /-- STREAM_LOST (R67). -/
  | streamLost (ctx : Nat)
  /-- EPOCH_END (R317). -/
  | epochEnd (ctx : Nat)
  /-- HEAD_WORD_WRITE (R73). -/
  | headWordWrite (handle : Nat)
  /-- EGRESS_START (R115). -/
  | egressStart (port : Fin 4)
  /-- EGRESS_END (R282). -/
  | egressEnd (port : Fin 4)
  /-- PTP_MESSAGE (R122). -/
  | ptpMessage (port : Fin 4) (m : PtpMsg)
  /-- IRIGB_FRAME (R126). -/
  | irigbFrame (f : IrigFrame)
  /-- PPS_IN_EDGE (R125). -/
  | ppsInEdge (offset : Int)
  /-- PPS_OUT (R125). -/
  | ppsOut
  /-- SOURCE_LOSS (R119). -/
  | sourceLoss (src : TimeSource)
  /-- HOLDOVER_EXPIRY (R119). -/
  | holdoverExpiry
  /-- TIME_SOURCE_COMPARE (R121). -/
  | timeSourceCompare
  /-- PTP_TNS_READ (R132). -/
  | ptpTnsRead (by_ : Party)
  /-- PTP_STEPSEC_READ (R472). -/
  | ptpStepsecRead (by_ : Party)
  /-- LANE_ADMISSION (R144). -/
  | laneAdmission (pillow : Fin 16)
  /-- VERIFY (R139). -/
  | verify (lane : Fin 32)
  /-- GENERATE (R139). -/
  | generate (lane : Fin 32)
  /-- DECRYPT (R139). -/
  | decrypt (lane : Fin 32)
  /-- ENCRYPT (R139). -/
  | encrypt (lane : Fin 32)
  /-- UNWRAP (R162). -/
  | unwrap (lane : Fin 32)
  /-- WRAP (R136). -/
  | wrap (lane : Fin 32) (slot : Nat) (key : Nat)
  /-- DERIVE (R166). -/
  | derive (lane : Fin 32)
  /-- KCV (R158). -/
  | kcv (lane : Fin 32)
  /-- KMAC (R136). -/
  | kmac (lane : Fin 32) (slot : Nat) (x : List Byte)
  /-- HASH3 (R136). -/
  | hash3 (lane : Fin 32) (x : List Byte)
  /-- LANE_SELFTEST (R151). -/
  | laneSelftest (lane : Fin 32)
  /-- SERVICE_SELFTEST_INSERT (R151). -/
  | serviceSelftestInsert (lane : Fin 32)
  /-- LANE_SUSPEND (R147). -/
  | laneSuspend (lane : Fin 32)
  /-- LANE_RESUME (R148). -/
  | laneResume (lane : Fin 32)
  /-- SERVICE_PROMOTION (R149). -/
  | servicePromotion (lane : Fin 32) (id : Nat)
  /-- LANE_RESULT (R140). -/
  | laneResult (lane : Fin 32)
  /-- LANE_FAULT (R152). -/
  | laneFault (lane : Fin 32) (engine : Fin 8) (cause : Fin 4)
  /-- LANE_FAULT_POWEROFF (R152). -/
  | laneFaultPoweroff (lane : Fin 32)
  /-- LANE_SELFTEST_DONE (R151). -/
  | laneSelftestDone (lane : Fin 32) (pass : Bool) (engine : Fin 8)
  /-- CPL_SELFTEST (R155). -/
  | cplSelftest (by_ : Party) (lane : Fin 32) (insvc : Bool)
  /-- CPL_INSVC (R155). -/
  | cplInsvc (by_ : Party) (lane : Fin 32) (insvc : Bool)
  /-- FIRN_NEED (R162). -/
  | firnNeed (src : NeedSrc)
  /-- BLOB_READ_DONE (R162). -/
  | blobReadDone (blob : Nat) (dramOk nandOk : Bool)
  /-- JOURNAL_DURABLE (R172). -/
  | journalDurable
  /-- SCHEDULED_COMMIT (R169). -/
  | scheduledCommit
  /-- MMK_REWRAP_DONE (R176). -/
  | mmkRewrapDone
  /-- BUNDLE_LOAD (R179). -/
  | bundleLoad (sl : Slot) (b : List Byte)
  /-- KEY_STAGE (R168). -/
  | keyStage (sl : Slot) (ctx ksrc kidx kcv overlap : Nat)
  /-- KEY_COMMIT (R169). -/
  | keyCommit (sl : Slot) (ctxs : List Nat) (activate overlap : Nat)
  /-- KEY_ABORT (R169). -/
  | keyAbort (sl : Slot) (ctx : Nat)
  /-- BLOB_PIN (R159). -/
  | blobPin (sl : Slot) (slice blob : Nat) (pin : Bool)
  /-- NODE_DEFINE (R165). -/
  | nodeDefine (sl : Slot) (d : NodeDef)
  /-- KEM_GENERATE (R471). -/
  | kemGenerate (sl : Slot)
  /-- KEY_STATUS (R167). -/
  | keyStatus (sl : Slot) (ctx : Nat)
  /-- GDOI_MAP (R182). -/
  | gdoiMap (sl : Slot) (group kid : Nat) (ctxs : List Nat) (overlap : Nat)
  /-- GDOI_MSG (R181). -/
  | gdoiMsg (sl : Slot) (m : GdoiIn)
  /-- ID_READ (R193). -/
  | idRead (sl : Slot)
  /-- ATTEST (R197). -/
  | attest (sl : Slot) (nonce : List Byte)
  /-- SVN_ADVANCE (R196). -/
  | svnAdvance (sl : Slot) (target : Nat)
  /-- CERT_CHECK (R208). -/
  | certCheck (sl : Slot) (c : CertIn)
  /-- LTU_OPERATION (R186). -/
  | ltuOperation (op : LtuOp) (input : List Byte)
  /-- LTU_OPERATION_DONE (R188). -/
  | ltuOperationDone (iters : Nat) (fault : Bool)
  /-- SETMOD (R202). -/
  | setmod (w : LiuWord)
  /-- MONTMUL (R202). -/
  | montmul (w : LiuWord)
  /-- MODADD (R202). -/
  | modadd (w : LiuWord)
  /-- MODSUB (R202). -/
  | modsub (w : LiuWord)
  /-- TOMONT (R202). -/
  | tomont (w : LiuWord)
  /-- FROMMONT (R202). -/
  | frommont (w : LiuWord)
  /-- MUL (R202). -/
  | mul (w : LiuWord)
  /-- COPY (R202). -/
  | copy (w : LiuWord)
  /-- ZERO (R202). -/
  | zero (w : LiuWord)
  /-- LIU_CMP (R202). -/
  | liuCmp (w : LiuWord)
  /-- EXPPUB (R202). -/
  | exppub (w : LiuWord)
  /-- EXPSEC (R202). -/
  | expsec (w : LiuWord)
  /-- KEYIN (R202). -/
  | keyin (w : LiuWord) (blob : Nat)
  /-- LIU_ABORT (R205). -/
  | liuAbort
  /-- LIU_SELFTEST (R202). -/
  | liuSelftest
  /-- LIU_COMMAND_DONE (R204). -/
  | liuCommandDone (residueOk : Bool)
  /-- UNIT_IDLE_GATE (R437). -/
  | unitIdleGate (u : IdleUnit)
  /-- CP_IDLE_GATE (R437). -/
  | cpIdleGate (cp : Fin 2)
  /-- INIT (R218). -/
  | init (ctx : Nat)
  /-- BG_ITEM (R214). -/
  | bgItem (b : Fin 512)
  /-- BALWAIT_EXPIRY (R86). -/
  | balwaitExpiry (group smpCnt : Nat)
  /-- FG_LIMIT (R219). -/
  | fgLimit (b : Fin 512)
  /-- BG_ITEM_LIMIT (R219). -/
  | bgItemLimit (b : Fin 512)
  /-- SPARE_ROTATION (R223). -/
  | spareRotation (pillow : Fin 16)
  /-- BOBBIN_SELFTEST_DONE (R224). -/
  | bobbinSelftestDone (b : Fin 512) (pass : Bool)
  /-- SHADOW_COMPARE (R225): of a scheduled bobbin's run with its shadow run on a spare; a third run has none, whatever bobbin is named. -/
  | shadowCompare (b : Fin 512) (shadow : Fin 512)
  /-- BOBBIN_QUARANTINE (R228). -/
  | bobbinQuarantine (b : Fin 512) (cause : QuarCause)
  /-- SHARED_RAM_ECC (R210). -/
  | sharedRamEcc (pillow : Fin 16) (offset : Nat)
  /-- CTX_ECC (R210). -/
  | ctxEcc (ctx : Nat)
  /-- CONTEXT_MOVE (R233). -/
  | contextMove (ctx : Nat) (dest : Fin 16)
  /-- STORE_DRAIN (R265). -/
  | storeDrain (b : Fin 512)
  /-- ALU (R253). -/
  | alu (b : Fin 512) (w : OpWord)
  /-- ADDI (R254). -/
  | addi (b : Fin 512) (w : OpWord)
  /-- ANDI (R254). -/
  | andi (b : Fin 512) (w : OpWord)
  /-- ORI (R254). -/
  | ori (b : Fin 512) (w : OpWord)
  /-- XORI (R254). -/
  | xori (b : Fin 512) (w : OpWord)
  /-- MOVHI (R254). -/
  | movhi (b : Fin 512) (w : OpWord)
  /-- MOVLO (R254). -/
  | movlo (b : Fin 512) (w : OpWord)
  /-- MULDIV (R255). -/
  | muldiv (b : Fin 512) (w : OpWord)
  /-- MAC (R259). -/
  | mac (b : Fin 512) (w : OpWord)
  /-- ACCRD (R260). -/
  | accrd (b : Fin 512) (w : OpWord)
  /-- ACCWR (R260). -/
  | accwr (b : Fin 512) (w : OpWord)
  /-- SHIFT (R256). -/
  | shift (b : Fin 512) (w : OpWord)
  /-- SHIFTI (R256). -/
  | shifti (b : Fin 512) (w : OpWord)
  /-- BFX (R257). -/
  | bfx (b : Fin 512) (w : OpWord)
  /-- BFI (R257). -/
  | bfi (b : Fin 512) (w : OpWord)
  /-- CLZ (R258). -/
  | clz (b : Fin 512) (w : OpWord)
  /-- PERM (R258). -/
  | perm (b : Fin 512) (w : OpWord)
  /-- LD (R263). -/
  | ld (b : Fin 512) (w : OpWord)
  /-- ST (R263). -/
  | st (b : Fin 512) (w : OpWord)
  /-- AGSET (R261). -/
  | agset (b : Fin 512) (w : OpWord)
  /-- AGGET (R261). -/
  | agget (b : Fin 512) (w : OpWord)
  /-- CMP (R266). -/
  | cmp (b : Fin 512) (w : OpWord)
  /-- CMPI (R266). -/
  | cmpi (b : Fin 512) (w : OpWord)
  /-- BR (R267). -/
  | br (b : Fin 512) (w : OpWord)
  /-- CALL (R267). -/
  | call (b : Fin 512) (w : OpWord)
  /-- JR (R267). -/
  | jr (b : Fin 512) (w : OpWord)
  /-- RET (R267). -/
  | ret (b : Fin 512) (w : OpWord)
  /-- ERET (R273). -/
  | eret (b : Fin 512) (w : OpWord)
  /-- EXIT (R267). -/
  | exit (b : Fin 512) (w : OpWord)
  /-- TRAP (R273). -/
  | trap (b : Fin 512) (w : OpWord)
  /-- BGPOST (R277). -/
  | bgpost (b : Fin 512)
  /-- FLAGPOST (R277). -/
  | flagpost (b : Fin 512)
  /-- TIME (R277). -/
  | time (b : Fin 512)
  /-- FENCE (R265). -/
  | fence (b : Fin 512) (w : OpWord)
  /-- MFS (R247). -/
  | mfs (b : Fin 512) (w : OpWord)
  /-- MTS (R247). -/
  | mts (b : Fin 512) (w : OpWord)
  /-- FRAME_GET (R268). -/
  | frameGet (b : Fin 512) (w : OpWord)
  /-- LANE_REQ (R270). -/
  | laneReq (b : Fin 512) (w : OpWord)
  /-- VERDICT_PUT (R271). -/
  | verdictPut (b : Fin 512) (w : OpWord)
  /-- CTX_LD (R269). -/
  | ctxLd (b : Fin 512) (w : OpWord)
  /-- CTX_ST (R269). -/
  | ctxSt (b : Fin 512) (w : OpWord)
  /-- MAC40 (R278). -/
  | mac40 (b : Fin 512) (w : OpWord)
  /-- LDX (R278). -/
  | ldx (b : Fin 512) (w : OpWord)
  /-- STX (R278). -/
  | stx (b : Fin 512) (w : OpWord)
  /-- CRC16 (R278). -/
  | crc16 (b : Fin 512) (w : OpWord)
  /-- SWAPH (R278). -/
  | swaph (b : Fin 512) (w : OpWord)
  /-- DIVSTEP (R278). -/
  | divstep (b : Fin 512) (w : OpWord)
  /-- PGM_LOAD (R216). -/
  | pgmLoad (sl : Slot) (img : List Byte)
  /-- PGM_ASSIGN (R235). -/
  | pgmAssign (sl : Slot) (pillow : Nat) (entries : List (Nat × Nat)) (fails : List Nat)
  /-- PILLOW_DRAIN (R234). -/
  | pillowDrain (sl : Slot) (pillow mask : Nat)
  /-- PILLOW_RETURN (R236). -/
  | pillowReturn (sl : Slot) (pillow : Nat)
  /-- BOBBIN_RETEST (R232). -/
  | bobbinRetest (sl : Slot) (b : Fin 512) (pass : Bool)
  /-- PGM_REMOVE (R235). -/
  | pgmRemove (sl : Slot) (pgmId pgmVer : Nat)
  /-- PILLOW_STATUS (R237). -/
  | pillowStatus (sl : Slot) (pillow : Nat)
  /-- CELL_DATA_ECC (R288). -/
  | cellDataEcc (handle : Nat)
  /-- LINK_WORD_ECC (R288). -/
  | linkWordEcc (both : Bool)
  /-- POOL_RESTART_DONE (R288). -/
  | poolRestartDone
  /-- DRAM_ECC_ERROR (R294). -/
  | dramEccError (ctrl : Fin 2) (repeated : Bool)
  /-- DRAM_TRAINING_DONE (R294). -/
  | dramTrainingDone (ctrl : Fin 2) (ok : Bool)
  /-- FABRIC_ACCESS (R298). -/
  | fabricAccess (master : BitVec 8) (addr : Nat) (write : Bool) (len : Nat) (data : List Byte)
  /-- FWL_COMMIT (R301). -/
  | fwlCommit (by_ : Party) (v : Word)
  /-- FWL_DRAIN_END (R301). -/
  | fwlDrainEnd
  /-- FWL_VPOP (R303). -/
  | fwlVpop (by_ : Party) (v : Word)
  /-- DRF_QSEL (R290). -/
  | drfQsel (by_ : Party) (v : Word)
  /-- DB_TXTAIL (R318). -/
  | dbTxtail (slice : Fin 1024) (v : Word)
  /-- DB_RXTAIL (R318). -/
  | dbRxtail (slice : Fin 1024) (v : Word)
  /-- DB_CQHEAD (R319). -/
  | dbCqhead (slice : Fin 1024) (v : Word)
  /-- SLICE_IRQ_DELAY (R319). -/
  | sliceIrqDelay (slice : Fin 1024)
  /-- DESCRIPTOR_FETCH (R315). -/
  | descriptorFetch (src : FetchSrc) (d : TxDescIn)
  /-- TX_FRAME_RECEIVED (R88). -/
  | txFrameReceived (src : FetchSrc) (slice : Fin 1024) (f : Frame)
  /-- HOST_READ_ERROR (R320). -/
  | hostReadError (owner : ReadOwner) (ring : ReadRing) (err : ReadError)
  /-- COMPLETION_TIMEOUT (R304). -/
  | completionTimeout (owner : ReadOwner) (ring : ReadRing)
  /-- PCIE_FUNCTION_RESET (R307). -/
  | pcieFunctionReset (kind : PcieReset)
  /-- PCIE_PERST (R420). -/
  | pciePerst (asserted : Bool)
  /-- MBX_CRTAIL (R324). -/
  | mbxCrtail (by_ : Party) (v : Word) (other : Option (Nat × Slot))
  /-- MBX_CCHEAD (R324). -/
  | mbxCchead (by_ : Party) (v : Word)
  /-- MANAGER_RING_INDEX (R328). -/
  | managerRingIndex (by_ : Party) (ring : Fin 5) (v : Word)
  /-- SLICE_CREATE (R313). -/
  | sliceCreate (sl : Slot) (block : List Byte)
  /-- SLICE_QUIESCE (R311). -/
  | sliceQuiesce (sl : Slot) (slice : Nat)
  /-- SLICE_DRAIN_COMPLETE (R311). -/
  | sliceDrainComplete (slice : Nat)
  /-- QUIESCE_ABANDON (R311). -/
  | quiesceAbandon (slice : Nat)
  /-- SLICE_RESUME (R309). -/
  | sliceResume (sl : Slot) (slice : Nat)
  /-- SLICE_RESET (R313). -/
  | sliceReset (sl : Slot) (block : List Byte)
  /-- SLICE_REMOVE (R312). -/
  | sliceRemove (sl : Slot) (slice : Nat)
  /-- SLICE_DIRTYLOG (R321). -/
  | sliceDirtylog (sl : Slot) (slice : Nat) (enable : Bool) (wbase pages bmaddr : Nat)
  /-- DIRTY_HARVEST (R322). -/
  | dirtyHarvest (sl : Slot) (slice : Nat)
  /-- SLICE_STATUS (R325). -/
  | sliceStatus (sl : Slot) (slice : Nat)
  /-- CTX_CREATE (R474). -/
  | ctxCreate (sl : Slot) (block : List Byte)
  /-- CTX_MODIFY (R327). -/
  | ctxModify (sl : Slot) (ctx : Nat) (ctrl rate supv plaus plim : Word) (declRate : Nat)
  /-- CTX_REMOVE (R61). -/
  | ctxRemove (sl : Slot) (ctx : Nat)
  /-- CTX_READ (R325). -/
  | ctxRead (sl : Slot) (ctx : Nat)
  /-- BAL_DEFINE (R327). -/
  | balDefine (sl : Slot) (group pillow channels tolAbs tolRel persist balWait smpRate : Nat)
  /-- BAL_REMOVE (R327). -/
  | balRemove (sl : Slot) (group : Nat)
  /-- HEARTBEAT_SEND (R339). -/
  | heartbeatSend
  /-- HEARTBEAT_RECEIVE (R339). -/
  | heartbeatReceive (lane : Fin 2) (peer : PeerState) (mirrorSeq : Nat)
  /-- HEARTBEAT_LOSS (R341). -/
  | heartbeatLoss
  /-- PAIR_SENSE_CHANGE (R340). -/
  | pairSenseChange (sense : Fin 4)
  /-- PAIR_SENSE_FAULT (R341). -/
  | pairSenseFault
  /-- MIRROR_RECORD (R335). -/
  | mirrorRecord (lag : Nat) (item : MirrorItem)
  /-- PUBLISH_RECORD (R337). -/
  | publishRecord (r : PubRecIn)
  /-- HOLDBACK_EXPIRY (R337). -/
  | holdbackExpiry (handle : Nat)
  /-- BRIDE_AUTH_DONE (R331). -/
  | brideAuthDone (fingerprint : Nat) (ok : Bool)
  /-- FULL_COPY_APPLIED (R332). -/
  | fullCopyApplied
  /-- BRIDE_REKEY (R334). -/
  | brideRekey
  /-- BRIDE_BATCH (R334). -/
  | brideBatch (valid : Bool)
  /-- BRIDE_LANE_CHANGE (R334). -/
  | brideLaneChange (lane : Fin 2) (up : Bool)
  /-- KEYSPLIT (R349). -/
  | keysplit (ctx : Nat)
  /-- RECOVERY_WINDOW_END (R351). -/
  | recoveryWindowEnd
  /-- PAIR_BIND (R331). -/
  | pairBind (sl : Slot) (fingerprint member pref : Nat)
  /-- PAIR_SWITCH (R346). -/
  | pairSwitch (sl : Slot)
  /-- PAIR_LEAVE (R342). -/
  | pairLeave (sl : Slot)
  /-- PAIR_FORCE (R354). -/
  | pairForce (sl : Slot)
  /-- PAIR_STATUS (R354). -/
  | pairStatus (sl : Slot)
  /-- BLKCLR (R352). -/
  | blkclr (by_ : Party) (v : Word)
  /-- TAMPER_DETECT (R361). -/
  | tamperDetect (sources : BitVec 12)
  /-- MESH_MEASUREMENT (R357). -/
  | meshMeasurement (source : Fin 4) (ok : Bool)
  /-- MESH_SEED_REFRESH (R357). -/
  | meshSeedRefresh
  /-- CEREMONY_OPEN (R372). -/
  | ceremonyOpen (sl : Slot) (inner id : Nat) (block : List Byte)
  /-- CEREMONY_AUTH (R372). -/
  | ceremonyAuth (sl : Slot) (token : List Byte)
  /-- CEREMONY_EXEC (R373). -/
  | ceremonyExec (sl : Slot) (id : Nat) (otp : OtpOutcome)
  /-- CEREMONY_CANCEL (R371). -/
  | ceremonyCancel (sl : Slot) (id : Nat)
  /-- CEREMONY_EXPIRY (R371). -/
  | ceremonyExpiry
  /-- OFFICER_INIT (R368). -/
  | officerInit (sl : Slot) (block : List Byte)
  /-- LC_STATUS (R393). -/
  | lcStatus (sl : Slot)
  /-- LC_FIELD (R385). -/
  | lcField (sl : Slot) (otp : OtpOutcome)
  /-- DEBUG_LOCK (R392). -/
  | debugLock (sl : Slot)
  /-- DEBUG_EXPIRY (R392). -/
  | debugExpiry
  /-- LC_COMPLETE (R389). -/
  | lcComplete (sl : Slot) (otp : OtpOutcome)
  /-- LC_ZEROISE (R388). -/
  | lcZeroise (sl : Slot)
  /-- LC_MFG (R386). -/
  | lcMfg (sl : Slot) (token : List Byte) (target : Nat) (otp : OtpOutcome)
  /-- CERT_STORE (R387). -/
  | certStore (sl : Slot) (chain : List Byte)
  /-- TRANSITION_RESET (R385). -/
  | transitionReset
  /-- RNG_BLOCK (R395). -/
  | rngBlock (src : Fin 8) (block : List Bool)
  /-- RNG_SOURCE_RESTARTED (R402). -/
  | rngSourceRestarted (src : Fin 8)
  /-- RNG_GENERATE (R397). -/
  | rngGenerate
  /-- RNG_READY (R401). -/
  | rngReady
  /-- RNG_REQUEST (R398). -/
  | rngRequest (port : Fin 5) (bytes : Nat)
  /-- RNG_REQUEST_TIMEOUT (R399). -/
  | rngRequestTimeout (port : Fin 5)
  /-- DRAM_KEY_RETRY (R399). -/
  | dramKeyRetry (ctrl : Fin 2)
  /-- RNG_TEST_RAW (R405). -/
  | rngTestRaw (by_ : Party) (src : Fin 8)
  /-- RNG_TEST_PATTERN (R405). -/
  | rngTestPattern (by_ : Party)
  /-- RNG_TEST_OFF (R400). -/
  | rngTestOff (by_ : Party)
  /-- RNG_RAW_READ (R405). -/
  | rngRawRead (by_ : Party) (raw : Word)
  /-- MORAINE_OFFER (R410). -/
  | moraineOffer (code source : Nat) (payload : List Nat)
  /-- TOKEN_REFILL (R411). -/
  | tokenRefill (code : Nat)
  /-- ARCHIVE_RECORD (R413). -/
  | archiveRecord (nandOk : Bool) (nandStatus : Nat)
  /-- MOR_RSEQ (R414). -/
  | morRseq (by_ : Party) (v : Word)
  /-- LOG_READ (R415). -/
  | logRead (sl : Slot) (first count : Nat) (nandOk : Bool)
  /-- LOG_CHECK (R415). -/
  | logCheck (sl : Slot) (first last : Nat) (nandOk : Bool)
  /-- LOG_SEAL (R415). -/
  | logSeal (sl : Slot) (first last : Nat) (nandOk : Bool)
  /-- LOG_LIMIT (R415). -/
  | logLimit (sl : Slot) (code rate burst : Nat)
  /-- RESET_N (R419). -/
  | resetN
  /-- RESET_RELEASE (R419). -/
  | resetRelease (env : BootEnv)
  /-- FIRMWARE_ENTRY (R421). -/
  | firmwareEntry
  /-- HOST_ACCESS_OPEN (R422). -/
  | hostAccessOpen (ms : Nat)
  /-- PORT_HOLD_RELEASE (R422). -/
  | portHoldRelease
  /-- TEMP_HOLD (R425). -/
  | tempHold (tj : BitVec 16)
  /-- POWER_FAIL_WARNING (R428). -/
  | powerFailWarning
  /-- CLOCK_FAULT (R433). -/
  | clockFault (clk : Fin 6) (period : Word)
  /-- CLOCK_FAULT_END (R433). -/
  | clockFaultEnd (clk : Fin 6)
  /-- RECOVERY_GO (R426). -/
  | recoveryGo (by_ : Party) (slot : Bool)
  /-- RECOVERY_DONE (R426). -/
  | recoveryDone (o : RecoveryOutcome)
  /-- RECOVERY_RESET (R426). -/
  | recoveryReset
  /-- OFF (R435). -/
  | off (by_ : Party) (group : BitVec 4) (index : BitVec 10)
  /-- ON (R435). -/
  | on (by_ : Party) (group : BitVec 4) (index : BitVec 10)
  /-- LPHOLD_ENTER (R438). -/
  | lpholdEnter (by_ : Party)
  /-- LPHOLD_EXIT (R438). -/
  | lpholdExit (by_ : Party)
  /-- PWC_REQUEST_DONE (R435). -/
  | pwcRequestDone (came : Bool)
  /-- STATION_LINK_FRAME (R20). -/
  | stationLinkFrame (f : StnFrame)
  /-- SI_CHANGE (R458). -/
  | siChange (input : Fin 8) (level : Bool) (time : Nat)
  /-- STATION_LINK_LOSS (R459). -/
  | stationLinkLoss
  /-- SO_OVERLOAD (R460). -/
  | soOverload (out : Fin 4)
  /-- STN_OUT_WRITE (R460). -/
  | stnOutWrite (by_ : Party) (v : Word)
  /-- STN_EVPOP (R464). -/
  | stnEvpop (by_ : Party) (v : Word)
  /-- CRYPTO_OK_HEALTH_TIMEOUT (R462). -/
  | cryptoOkHealthTimeout
  /-- CAPTURE_READ (R470). -/
  | captureRead (sl : Slot) (pillow first count : Nat)
  /-- WATCHDOG_EXPIRY (R340). -/
  | watchdogExpiry
  /-- JTAG_ACCESS (R380). -/
  | jtagAccess (op : JtagOp)
  /-- PEER_DELAY_REQUEST (R122). -/
  | peerDelayRequest
  /-- PCIE_LINK_CHANGE (R328). -/
  | pcieLinkChange (up : Bool) (gen width : Nat) (recovery : Bool)
  /-- THERMAL_WARNING (R439). -/
  | thermalWarning (tj : BitVec 16)
  /-- TAMPER_SOURCE_EVENT (R359). -/
  | tamperSourceEvent (src : Fin 12) (tripped : Bool)
  /-- TAMPER_TEMP_MEASUREMENT (R378). -/
  | tamperTempMeasurement (temp : BitVec 16)
  /-- VBAT_LOW_WARNING (R364). -/
  | vbatLowWarning (mv : Nat)
  deriving DecidableEq, Repr

end Sys2Proof
end

