-- ==== Sys2Proof/Decode.lean ====
section
/-! DEFINITION. Decode.lean: the commands that words spell. The table of operations and events gives no row any bits, so no word
spells a command (log entry 10). -/
namespace Sys2Proof

/-- The command that a word of nbits bits spells: none, as no row of the table has bits. -/
def decodeTableWord (_nbits _w : Nat) : Option Instr := none

end Sys2Proof
end

