-- ==== Sys2Proof/Config.lean ====
section
/-! DEFINITION. Config.lean: what the spec leaves to outside standards or leaves open. Every constant here is opaque: nothing can
be proved of its values, so a statement holds for all of them. Keys, digests and signatures are numbers. -/
namespace Sys2Proof.Config

/-- The open value number n: random bytes, nonces, seeds, and values that the spec does not state (log entry 9). -/
opaque freeValue : Nat → Nat

/-- The device root key of one-time-programmable memory (R382, R408). -/
opaque deviceRootKey : Nat

/-- The OTP word DIEID as 8 bytes (R386). -/
opaque dieId : List Byte

/-- The outcome of an RSA or ECDSA certificate signature (R208): algorithm, the list n, e, x, y and signature values, signed bytes. -/
opaque certVerify : Nat → List Nat → List Byte → Bool

/-- KMAC256 with key, data, output bits and customisation (R6, R408). -/
opaque kmac256 : Nat → List Byte → Nat → String → Nat

/-- SHA3-512 of a byte list (R6). -/
opaque sha3 : List Byte → Nat

/-- SHAKE128 and SHAKE256 (R186): strength, input and output length in bytes. -/
opaque shake : Nat → List Byte → Nat → List Byte

/-- The authentication tag of an algorithm of CTX_CTRL.ALG 1 to 5 as a number: algorithm, key, IV bytes (GMAC), data (R103, R133). -/
opaque mac : Nat → Nat → List Byte → List Byte → Nat

/-- Byte i of the AES-256-GCM key stream of a key and an IV (ALG 6, R139). -/
opaque gcmStream : Nat → List Byte → Nat → Byte

/-- The AES-256-GCM tag of a key, IV, AAD and ciphertext (R139). -/
opaque gcmTag : Nat → List Byte → List Byte → List Byte → Nat

/-- KWP of SP 800-38F: wrapping of a key value under a key, and unwrap with its integrity check (R161). -/
opaque kwpWrap : Nat → Nat → List Byte
opaque kwpUnwrap : Nat → List Byte → Option Nat

/-- ML-DSA-87 (R6, R187): the public key of a 32-byte seed; the signature by the key whose public key is given, over a digest with a random
value; the checks of Verify. -/
opaque mldsaPub : Nat → Nat
opaque mldsaSign : Nat → Nat → Nat → Nat
opaque mldsaChecks : Nat → Nat → Nat → Bool

/-- ML-DSA.Verify of FIPS 204 under a public key of a digest and a signature (R187): one that Sign made, here with the random value 0, verifies;
of every other one the model knows nothing. -/
def mldsaVerify (pub digest sig : Nat) : Bool := mldsaChecks pub digest sig || decide (sig = mldsaSign pub digest 0)

/-- ML-KEM-1024 from a seed (R178, R471): shared secret of a ciphertext, encapsulation key, and its 32-byte fingerprint. -/
opaque kemDecaps : Nat → Nat → Nat
opaque kemPub : Nat → Nat
opaque kemFp : Nat → Nat

/-- The result bytes of KEY_STATUS, whose layout the spec does not give (log entry 21): NSTATE, KIDCUR, KIDNEXT, EPOCH and the partner's
NSTATE. -/
opaque keyStatus : Nat → Nat → Nat → Nat → Nat → List Byte

/-- The key value that a GDOI message carries, as its encryption under the group's KEK or the registration's own key yields it (R182,
RFC 6407). -/
opaque gdoiKey : Nat → List Byte → Nat

/-- The next GDOI message that the module sends to a group (R181, RFC 6407): group, private member key and the random value of the exchange. -/
opaque gdoiOut : Nat → Nat → Nat → List Byte

/-- Lane cycles of the operations whose count R473 does not give: operation and input length in bytes (log entry 18). -/
opaque laneCycles : Nat → Nat → Nat

/-- Where IEC 61850 puts them in a layer-2 frame (R103): the two bytes of the header length field, and the end of the APDU, where the
security extension goes. -/
opaque lengthAt : List Byte → Nat
opaque apduEnd : List Byte → Nat

/-- The security extension of an algorithm for its key identifier and invocation bytes, the tag still zero (R103: the type and length
fields around them are those of IEC 62351-6). -/
opaque extBytes : Nat → List Byte → List Byte

/-- The security algorithm field of a session header for CTX_CTRL.ALG, and the type and length bytes that open the signature field (R104:
the codes are those of IEC 61850-90-5). -/
opaque sessionAlg : Nat → Nat
opaque sigHead : Nat → List Byte

/-- The session-header length, UDP length, IP length and IPv4 checksum bytes of a routed frame that has grown, by position (R104: where
they lie is for IEC 61850-90-5 and the IP standards to say). -/
opaque routedFix : List Byte → List (Nat × Byte)

/-- A frame's bytes with the PRP trailer (mode 1) or the HSR tag (mode 2) of a sequence number, as it leaves a port (R105: the encodings
are those of IEC 62439-3), and a received frame's bytes without the trailer or the tag it came with. -/
opaque redundant : List Byte → Nat → Nat → Nat → List Byte
opaque bare : List Byte → List Byte

/-- The 64-bit digest of a frame as sent, with its sequence number (R335: which digest it is, the spec does not say). -/
opaque frameDigest : List Byte → Nat → Nat

/-- PTP messages the module sends: a peer-delay request, and the two messages of a response (R122). -/
opaque pdelayRequest : Nat → List Byte
opaque pdelayResponse : List Byte → Nat → List Byte

/-- Word n of the DRBG output that PATTERN gives (R405). -/
opaque patternWord : Nat → BitVec 32

/-- Byte offsets that the parser finds in a frame's bytes (R268): of the APDU or session header, of the security extension or session
security field, of the first ASDU's seqData contents, and the stride between ASDUs. -/
opaque apduOffset : List Byte → Nat
opaque extOffset : List Byte → Nat
opaque asduOffset : List Byte → Nat
opaque asduStride : List Byte → Nat

/-- Code, data section, and entry offsets of Aethorana's default program images (R217, R475): which they are, the spec does not say. -/
opaque defaultCode : Nat → List Byte
opaque defaultData : Nat → List Byte
opaque defaultEntry : Nat → Nat → Nat

/-- The bytes of a default program image as signed and loaded, the signature included (R197). -/
opaque defaultWhole : Nat → List Byte

/-- The words RBASE, RLIM, RMAST and RCTL of the rules 0 to 63 that the boot firmware commits, and how many of them are enabled: the spec
summarises their grants and does not state them (R297, R303). -/
opaque bootRule : Nat → Nat → BitVec 32
opaque bootRuleCount : Nat

/-- The Aethorana stream-program key that the running firmware image carries (R216). -/
opaque streamKey : Nat

/-- The result bytes of PILLOW_STATUS, whose layout the spec does not give: assignment words, background owners, guest count. -/
opaque pillowStatus : List Nat → List Nat → Nat → List Byte

/-- What AES-256-XTS under a controller's key pair makes of a byte at a fabric address, as the value that an exclusive-or adds (R293, log entry
140): of two key pairs the model knows nothing but that each one decrypts what it encrypted. -/
opaque xtsPad : Nat → Nat → BitVec 8

/-- Aethorana's firmware signing key 0, whose hash FWKEYHASH_0 of a delivered module holds (R195, log entry 138). -/
opaque fwKey : Nat

/-- The public key of Aethorana's manufacturing authority, whose hash the OTP words hold (R386, log entry 6). -/
opaque mfgKey : Nat

end Sys2Proof.Config
end

