-- ==== Sys2Proof/Machine/Bits.lean ====
section
/-! DEFINITION. Machine/Bits.lean: bit fields (R10), byte order (R11), saturating counters and the CRC-32C of R48. -/
namespace Sys2Proof.Machine

/-- The word of a number, modulo 2^32. -/
def w32 (n : Nat) : Word := BitVec.ofNat 32 n

/-- The byte of a number, modulo 256. -/
def b8 (n : Nat) : Byte := BitVec.ofNat 8 n

/-- Bits [hi:lo] of a number (R10). -/
def bits (x hi lo : Nat) : Nat := x / 2 ^ lo % 2 ^ (hi + 1 - lo)

/-- Bit [i] of a number (R10). -/
def bit (x i : Nat) : Bool := x / 2 ^ i % 2 == 1

/-- A truth value as a bit. -/
def bnat (b : Bool) : Nat := if b then 1 else 0

/-- Bits [hi:lo] of a register word. -/
def fld (x : Word) (hi lo : Nat) : Nat := bits x.toNat hi lo

/-- A register word put together from (value, lowest bit) pairs. -/
def pack (fs : List (Nat × Nat)) : Word := w32 (fs.foldl (fun a f => a + f.1 * 2 ^ f.2) 0)

/-- A counter that holds at 0xFFFF_FFFF. -/
def satInc (x : Word) : Word := if x = 0xFFFFFFFF#32 then x else x + 1

/-- A counter that holds at 0xFFFF_FFFF, raised by n. -/
def satAdd (x : Word) (n : Nat) : Word := w32 (min (x.toNat + n) 0xFFFFFFFF)

/-- A number that holds at a maximum. -/
def natSat (m n : Nat) : Nat := min m n

/-- The n low bytes of a number, least significant first (R11). -/
def leBytes : Nat → Nat → List Byte
  | 0, _ => []
  | n + 1, x => b8 x :: leBytes n (x / 256)

/-- The n low bytes of a number, most significant first (R11: fields on the wire and in the bundle). -/
def beBytes (n x : Nat) : List Byte := (leBytes n x).reverse

/-- The number that a little-endian byte list spells. -/
def ofLe : List Byte → Nat
  | [] => 0
  | b :: bs => b.toNat + 256 * ofLe bs

/-- The number that a big-endian byte list spells. -/
def ofBe (bs : List Byte) : Nat := ofLe bs.reverse

/-- One bit step of the reflected CRC-32C, polynomial 0x82F6_3B78 (R48). -/
def crcBit (c : Nat) : Nat := if c % 2 = 1 then (c / 2) ^^^ 0x82F63B78 else c / 2

/-- Eight bit steps after one byte is fed. -/
def crcByte (c : Nat) (b : Byte) : Nat :=
  crcBit (crcBit (crcBit (crcBit (crcBit (crcBit (crcBit (crcBit (c ^^^ b.toNat))))))))

/-- CRC-32C of a byte list: initial value 0xFFFF_FFFF, final exclusive-or with 0xFFFF_FFFF (R48). -/
def crc32c (bs : List Byte) : Nat := bs.foldl crcByte 0xFFFFFFFF ^^^ 0xFFFFFFFF

/-- A signed reading of the n low bits. -/
def sgn (n x : Nat) : Int :=
  let y := x % 2 ^ n
  if y < 2 ^ (n - 1) then (y : Int) else (y : Int) - (2 ^ n : Nat)

/-- The n-bit two's-complement pattern of an integer. -/
def unsgn (n : Nat) (x : Int) : Nat := (x % (2 ^ n : Nat)).toNat

/-- The first element of a list that meets a test, and the list without it. -/
def takeFirst {α : Type} (p : α → Bool) : List α → Option (α × List α)
  | [] => none
  | a :: as =>
    if p a then some (a, as)
    else match takeFirst p as with
      | some (b, bs) => some (b, a :: bs)
      | none => none

/-- The list with its element at index n replaced (unchanged beyond its end). -/
def setAt {α : Type} : List α → Nat → α → List α
  | [], _, _ => []
  | _ :: as, 0, b => b :: as
  | a :: as, n + 1, b => a :: setAt as n b

end Sys2Proof.Machine
end

