-- ==== Sys2Proof/Machine/RegTable.lean ====
section
/-! DEFINITION. Machine/RegTable.lean: the BAR0 pages (R33) and, for every register, which bits may be written, which are defined,
which carry LK and CF (R14), and the reset value (R15). -/
namespace Sys2Proof.Machine

/-- Access masks and reset value of a register. A whole-RO register has rw = 0 and every bit defined: a write to it is
discarded (R14, R53). -/
structure RegDesc where
  rw : Nat
  defd : Nat
  lk : Nat
  cf : Nat
  rst : Nat
  deriving DecidableEq, Repr

def allBits : Nat := 0xFFFFFFFF

/-- A read-only register. -/
def rRO (rst : Nat := 0) : Option RegDesc := some ⟨0, allBits, 0, 0, rst⟩

/-- A read-write register without LK and CF; the other bits are reserved. -/
def rRW (m : Nat) (rst : Nat := 0) : Option RegDesc := some ⟨m, m, 0, 0, rst⟩

/-- RW+CF. -/
def rCF (m : Nat) (rst : Nat := 0) : Option RegDesc := some ⟨m, m, 0, m, rst⟩

/-- RW+LK+CF. -/
def rLKCF (m : Nat) (rst : Nat := 0) : Option RegDesc := some ⟨m, m, m, m, rst⟩

/-- The block code, instance and page index of a page number (BAR0 offset / 0x1000), none outside every page (R33, R41). -/
def pageBlock (p : Nat) : Option (Nat × Nat × Nat) :=
  if p < 2 then some (0x1, 0, p)
  else if 0x10 ≤ p ∧ p < 0x14 then some (0x2, 0, p - 0x10)
  else if 0x20 ≤ p ∧ p < 0x22 then some (0x3, 0, p - 0x20)
  else if 0x40 ≤ p ∧ p < 0x50 then some (0x4, p - 0x40, 0)
  else if 0x60 ≤ p ∧ p < 0x80 then some (0x5, p - 0x60, 0)
  else if 0x80 ≤ p ∧ p < 0x84 then some (0x6, 0, p - 0x80)
  else if p = 0x90 then some (0x7, 0, 0)
  else if 0x91 ≤ p ∧ p < 0x93 then some (0x8, 0, p - 0x91)
  else if 0xA0 ≤ p ∧ p < 0xA2 then some (0x9, 0, p - 0xA0)
  else if 0xB0 ≤ p ∧ p < 0xB2 then some (0xA, 0, p - 0xB0)
  else if 0xC0 ≤ p ∧ p < 0xD0 then some (0xB, 0, p - 0xC0)
  else if p = 0xD0 then some (0xC, 0, 0)
  else if 0xE0 ≤ p ∧ p < 0xE2 then some (0xD, 0, p - 0xE0)
  else if p = 0xF0 then some (0xE, 0, 0)
  else if 0x100 ≤ p ∧ p < 0x102 then some (0xF, 0, p - 0x100)
  else if p = 0x110 then some (0x10, 0, 0)
  else if 0x120 ≤ p ∧ p < 0x122 then some (0x11, 0, p - 0x120)
  else if 0x130 ≤ p ∧ p < 0x132 then some (0x12, 0, p - 0x130)
  else if 0x140 ≤ p ∧ p < 0x142 then some (0x13, 0, p - 0x140)
  else none

/-- The manager reaches every page but the secret views of FRN, LIU and TMP (R33). -/
def managerReaches (p : Nat) : Bool :=
  match pageBlock p with
  | some (0x6, _, i) => i == 0
  | some (0x8, _, i) => i == 0
  | some (0xD, _, i) => i == 0
  | some _ => true
  | none => false

/-- An offset from lo to hi, a multiple of 4. -/
def within (o lo hi : Nat) : Bool := decide (lo ≤ o ∧ o ≤ hi) && o % 4 == 0

/-- The eight common words (R40). -/
def commonDesc (o : Nat) : Option RegDesc :=
  if o = 0x0C then some ⟨allBits, allBits, 0, 0, 0⟩
  else if o = 0x10 then some ⟨allBits, allBits, 0, 0, 0⟩
  else if o = 0x18 then some ⟨allBits, allBits, allBits, 0, 0⟩
  else if o = 0x1C then some ⟨7, 7, 2, 0, 4⟩
  else rRO

/-- Page n of PBP (R131). -/
def pbpDesc (n o : Nat) : Option RegDesc :=
  if o = 0x20 then rLKCF 0xBF
  else if o = 0x24 then (if n % 2 = 0 then rLKCF 0x0FFF00E3 0x01900080 else none)
  else if o = 0x2C then rCF allBits
  else if within o 0x28 0x4C then rRO else none

/-- A PIL page (R96, R241). -/
def pilDesc (o : Nat) : Option RegDesc :=
  if o = 0x28 then rLKCF 0xFFF0 0x580
  else if o = 0x2C then rCF 0xFFFFF 0x4E20
  else if within o 0x20 0x50 then rRO
  else if o = 0x100 then rLKCF 0x3FFFF 0x1F00
  else if o = 0x104 then rCF 0x3FFFF 0x1740
  else if o = 0x108 then rCF 0xFF 0x20
  else if within o 0x10C 0x118 then rRO else none

/-- A CPL page (R155). -/
def cplDesc (o : Nat) : Option RegDesc :=
  if o = 0x20 then some ⟨3, 3, 3, 1, 1⟩
  else if o = 0x24 then rRO 0x20000000
  else if within o 0x28 0x44 then rRO else none

/-- DRF page 0 (R289) and page 1 (R290). -/
def drfDesc (i o : Nat) : Option RegDesc :=
  if i = 0 then
    if o = 0x20 then rLKCF 0x3FFFF 0x1000
    else if o = 0x24 ∨ o = 0x2C then rRO 0x20000
    else if o = 0x28 then rRO 0x1000
    else if within o 0x30 0x48 then rRO else none
  else
    if o = 0x20 then rRW 0x1FFF
    else if o = 0x24 then rRO 0x80000000
    else if within o 0x28 0x34 then rRO else none

/-- FWL page 0 and page 1 (R303). -/
def fwlDesc (i o : Nat) : Option RegDesc :=
  if i = 0 then
    if o = 0x34 then rRW allBits
    else if within o 0x20 0x40 then rRO else none
  else
    if o = 0x20 then rRW 0xFF 0x40
    else if o = 0x24 ∨ o = 0x28 then rRW 0x3FFFFFFF
    else if o = 0x2C then rRW 0xFFFF
    else if o = 0x30 then rRW 0xF8000000
    else if o = 0x34 then some ⟨allBits, allBits, allBits, 0, 0⟩
    else none

/-- SLM pages (R328, R329, R35). -/
def slmDesc (i o : Nat) : Option RegDesc :=
  if i = 0 then
    if within o 0x20 0x2C then rRO
    else if o = 0x30 then rCF 0xFFF 0x800
    else if within o 0x40 0x8C then
      match o % 0x10 with
      | 0 => rCF 0xFFFFFFC0
      | 4 => rCF allBits
      | 8 => rLKCF 0x8000001F 6
      | _ => if o = 0x8C then rRW 0x8000FFFF else rRW 0xFFFF
    else none
  else if i = 1 then (if within o 0x20 0x3C then rRO else none)
  else if i < 8 then none
  else if within o 0x800 0xFFC then rRO else none

/-- PTP page 0 (R132) and page 1 (R472). -/
def ptpDesc (i o : Nat) : Option RegDesc :=
  if i = 0 then
    if o = 0x20 then rLKCF 0xFF0F0F00 0x000F0300
    else if o = 0x24 then rRO 0x00FFFFFF
    else if o = 0x34 then rCF allBits 0x0E100032
    else if o = 0x38 then rCF allBits 0x25
    else if o = 0x3C then rCF 0x1FFFF 0xA
    else if o = 0x44 then rLKCF 1
    else if within o 0x28 0x40 then rRO else none
  else if within o 0x20 0x2C || within o 0x40 0xBC then rRO else none

/-- PWC page 0 and page 1 (R439). -/
def pwcDesc (i o : Nat) : Option RegDesc :=
  if i = 0 then
    if o = 0x20 then rLKCF 3 3
    else if o = 0x24 then some ⟨0xFF0003FF, 0xFF0003FF, 0xFF0003FF, 0, 0⟩
    else if o = 0x38 then rRW 0xF
    else if within o 0x28 0x48 then rRO else none
  else if within o 0x20 0x38 then rRO else none

/-- MBX page 0 (R324). -/
def mbxDesc (o : Nat) : Option RegDesc :=
  if o = 0x20 ∨ o = 0x28 then rCF 0xFFFFFFC0
  else if o = 0x24 ∨ o = 0x2C then rCF allBits
  else if o = 0x30 then rLKCF 0x8000000F 4
  else if o = 0x34 then rRW 0xFF
  else if o = 0x38 then rRO
  else if o = 0x3C then rRW 0x800000FF
  else none

/-- The station-side page (R464). -/
def stnDesc (o : Nat) : Option RegDesc :=
  if o = 0x20 then rLKCF 0x1FFFF 0xAAAA
  else if o = 0x24 then rCF allBits 0x44444444
  else if o = 0x2C then some ⟨0xC, 0xFF, 0, 0, 0⟩
  else if o = 0x3C then rRW allBits
  else if within o 0x28 0x40 then rRO else none

/-- The register at an offset of a page; none at a reserved word or outside every page (R35). DESIGN CHOICE (log entry 137): the
words of the control cluster's own tables and secret views, for which the spec gives no layout, are reserved words to the
control cluster too; R35 says so of the manager. -/
def regDesc (p o : Nat) : Option RegDesc :=
  if o % 4 ≠ 0 ∨ 0x1000 ≤ o then none
  else match pageBlock p with
  | none => none
  | some (code, _, i) =>
    if o < 0x20 then commonDesc o
    else match code with
    | 0x1 =>
      if i = 0 then (if within o 0x20 0x3C then rRO else none)
      else if o = 0x20 then rRW 0xFFFFFFC0
      else if o = 0x24 ∨ o = 0x28 then rRW allBits
      else if o = 0x2C then some ⟨3, 0xF0000003, 3, 0, 0⟩
      else none
    | 0x2 => pbpDesc i o
    | 0x3 =>
      if i ≠ 0 then none
      else if o = 0x20 then rCF 0xFF 0xE4
      else if o = 0x24 then rLKCF 0xFF
      else if within o 0x28 0x40 then rRO else none
    | 0x4 => pilDesc o
    | 0x5 => cplDesc o
    | 0x6 => if i = 0 ∧ within o 0x20 0x3C then rRO else none
    | 0x7 => if within o 0x20 0x2C then rRO else none
    | 0x8 => if i = 0 ∧ within o 0x20 0x30 then rRO else none
    | 0x9 => drfDesc i o
    | 0xA => fwlDesc i o
    | 0xB => slmDesc i o
    | 0xC => if o = 0x20 then rLKCF 3 2 else if o = 0x44 then rRW 1 else if within o 0x24 0x40 then rRO else none
    | 0xD => if i = 0 ∧ within o 0x20 0x40 then rRO else none
    | 0xE => if o = 0x3C then rLKCF 0x37 else if within o 0x20 0x40 then rRO else none
    | 0xF =>
      if i = 0 then (if o = 0x3C then rCF 7 4 else if within o 0x20 0x5C then rRO else none)
      else if o = 0x20 then rRW allBits
      else if o = 0x24 ∨ within o 0x40 0x7C then rRO else none
    | 0x10 => stnDesc o
    | 0x11 => ptpDesc i o
    | 0x12 => pwcDesc i o
    | _ => if i = 0 then mbxDesc o else none

/-- The reset value of the word at a BAR0 offset; 0 at a reserved word. -/
def regRst (addr : Nat) : Word :=
  match regDesc (addr / 0x1000) (addr % 0x1000) with
  | some d => w32 d.rst
  | none => 0

/-- The offsets of a page's configuration words, ascending, with their CF masks (R48). -/
def cfWords (p : Nat) : List (Nat × Nat) :=
  match pageBlock p with
  | some (0x2, _, n) => if n % 2 = 0 then [(0x20, 0xBF), (0x24, 0x0FFF00E3), (0x2C, allBits)] else [(0x20, 0xBF), (0x2C, allBits)]
  | some (0x3, _, 0) => [(0x20, 0xFF), (0x24, 0xFF)]
  | some (0x4, _, _) => [(0x28, 0xFFF0), (0x2C, 0xFFFFF), (0x100, 0x3FFFF), (0x104, 0x3FFFF), (0x108, 0xFF)]
  | some (0x5, _, _) => [(0x20, 1)]
  | some (0x9, _, 0) => [(0x20, 0x3FFFF)]
  | some (0xB, _, 0) =>
    (0x30, 0xFFF) :: (List.range 5).flatMap (fun n =>
      [(0x40 + 0x10 * n, 0xFFFFFFC0), (0x44 + 0x10 * n, allBits), (0x48 + 0x10 * n, 0x8000001F)])
  | some (0xC, _, _) => [(0x20, 3)]
  | some (0xE, _, _) => [(0x3C, 0x37)]
  | some (0xF, _, 0) => [(0x3C, 7)]
  | some (0x10, _, _) => [(0x20, 0x1FFFF), (0x24, allBits)]
  | some (0x11, _, 0) => [(0x20, 0xFF0F0F00), (0x34, allBits), (0x38, allBits), (0x3C, 0x1FFFF), (0x44, 1)]
  | some (0x12, _, 0) => [(0x20, 3)]
  | some (0x13, _, 0) => [(0x20, 0xFFFFFFC0), (0x24, allBits), (0x28, 0xFFFFFFC0), (0x2C, allBits), (0x30, 0x8000000F)]
  | _ => []

/-- The CRC-32C of a page's configuration words, given what each word holds; 0 for a page without any (R48). -/
def cfgCrcOf (p : Nat) (word : Nat → Word) : Word :=
  match cfWords p with
  | [] => 0
  | ws => w32 (crc32c (ws.flatMap (fun e => leBytes 4 (Nat.land (word e.1).toNat e.2))))

end Sys2Proof.Machine
end

