-- ==== Sys2Proof/Machine/FwOps.lean ====
section
/-! DEFINITION. Machine/FwOps.lean: a firmware image's header (R194, R195). -/
namespace Sys2Proof.Machine

/-- The bytes 0x0000 to 0x0A9F of an image's header, which SIG signs (R194). -/
def fwHead (m : FwImage) : List Byte :=
  leBytes 4 m.magic ++ leBytes 2 m.version ++ [b8 m.kind] ++ m.rsvd.take 1 ++ leBytes 4 m.fwVer ++ leBytes 4 m.svn ++ leBytes 4 m.length
    ++ [b8 m.keyIdx] ++ (m.rsvd.drop 1).take 11 ++ beBytes 64 m.bodyDigest ++ m.rsvd.drop 12 ++ beBytes 2592 m.pubKey

/-- The first 32 bytes of SHA3-512 of a public key, as a number (R193, R195). -/
def fingerprint (pub : Nat) : Nat := Config.sha3 (beBytes 2592 pub) / 2 ^ 256

/-- A field of an image's header out of range, or a reserved byte that is not 0 (R194, R195). -/
def fwBad (m : FwImage) : Bool :=
  m.magic != 0x4B584657 || m.version != 1 || m.kind != 1 || m.svn == 0 || decide (64 < m.svn) || m.length == 0
    || decide (67108864 < m.length) || decide (3 < m.keyIdx) || (m.rsvd ++ m.tail).any (· != 0)

end Sys2Proof.Machine
end

