-- ==== Sys2Proof/Machine/Sparse.lean ====
section
/-! DEFINITION. Machine/Sparse.lean: numbered families of like things held as sorted lists of (number, value) pairs in ONE
canonical form: numbers strictly rising, and no entry equal to what an unlisted number reads as. -/
namespace Sys2Proof.Machine

/-- A numbered family of values: the entries that differ from the family's default. -/
abbrev SMap (α : Type) := List (Nat × α)

/-- The value at number k; an unlisted number reads as the default d k. -/
def smapGet {α : Type} (d : Nat → α) : SMap α → Nat → α
  | [], k => d k
  | (j, v) :: m, k => if j = k then v else smapGet d m k

/-- An entry put in its place among rising numbers. -/
def smapIns {α : Type} : SMap α → Nat → α → SMap α
  | [], k, v => [(k, v)]
  | (j, u) :: m, k, v => if k < j then (k, v) :: (j, u) :: m else (j, u) :: smapIns m k v

/-- The family with value v at number k, in canonical form. -/
def smapSet {α : Type} [DecidableEq α] (d : Nat → α) (m : SMap α) (k : Nat) (v : α) : SMap α :=
  let rest := m.filter (fun e => e.1 != k)
  if v = d k then rest else smapIns rest k v

/-- The canonical form, with every listed number at least lo. -/
def smapWfFrom {α : Type} [DecidableEq α] (d : Nat → α) : Nat → SMap α → Bool
  | _, [] => true
  | lo, (j, v) :: m => decide (lo ≤ j) && !decide (v = d j) && smapWfFrom d (j + 1) m

/-- The canonical form: numbers strictly rising, no entry equal to its default. -/
def smapWf {α : Type} [DecidableEq α] (d : Nat → α) (m : SMap α) : Bool := smapWfFrom d 0 m

/-- A family changed at one number by a function. -/
def smapMod {α : Type} [DecidableEq α] (d : Nat → α) (m : SMap α) (k : Nat) (f : α → α) : SMap α :=
  smapSet d m k (f (smapGet d m k))

/-- The entries whose number and value meet a test are kept, the others return to their default. -/
def smapKeep {α : Type} (p : Nat → α → Bool) (m : SMap α) : SMap α := m.filter (fun e => p e.1 e.2)

end Sys2Proof.Machine
end

