-- ==== Sys2Proof/Machine/Parts/Boot.lean ====
section
/-! DEFINITION. Machine/Parts/Boot.lean: start-up, power, clocks and the life cycle (R379 to R394, R418 to R440). -/
namespace Sys2Proof.Machine

/-- GLB_BOOTSTAT.PHASE (R440). -/
inductive Phase | rom | firmware | hostOpen | service | hold
  deriving DecidableEq, Repr

/-- The life-cycle states of R379, and the INVALID decode of R383. -/
inductive Lc | blank | factoryTest | sealed | field | ret | scrap | repair | invalid
  deriving DecidableEq, Repr

/-- What a host access to BAR0 reaches: before opening GLB page 0 and TMP page 0 (R422), in the start-up hold
GLB pages 0 and 1 and TMP page 0 (R425), or every page. -/
inductive HostAccess | closed | holdPages | full
  deriving DecidableEq, Repr

/-- One NAND copy of the identity seed (R192): encrypted and authenticated under a key, so that only that key opens it. -/
structure SeedCopy where
  key : Nat
  seed : Nat
  deriving DecidableEq, Repr

/-- Start-up state. -/
structure BootSt where
  /-- The module is held in internal reset (R419). -/
  inReset : Bool
  phase : Phase
  /-- The hold cause of R425, 0 outside the hold. -/
  cause : Nat
  access : HostAccess
  /-- Every process-bus port is held electrically idle (R422, R128). -/
  portHold : Bool
  /-- Image running, 0 A and 1 B. -/
  slot : Nat
  /-- Image A and image B found invalid at this boot. -/
  aInv : Bool
  bInv : Bool
  imageA : FwImage
  imageB : FwImage
  /-- The boot-preference word names this slot first (R195, R426). -/
  prefSlot : Nat
  /-- GLB_BOOTTIME, ms. -/
  bootTime : Nat
  /-- GLB_RCVCTRL.STATUS (R440). -/
  rcvStatus : Nat
  /-- The engine and control clock of the model: ns since reset release. -/
  now : Nat
  /-- The control-cluster watchdog has expired (R340). -/
  ccDead : Bool
  /-- Boot counter of the attestation report (R197), 0 before SEALED. -/
  bootCnt : Nat
  /-- The battery domain kept its content over the last time without main power (R431). -/
  batteryOk : Bool
  /-- A power-fail warning has asserted and the module is in the reset that ends it (R427, R429). -/
  powerFail : Bool
  /-- PTP time latched at the last power failure (R423, R428). -/
  latchSec : Nat
  latchNs : Nat
  /-- Invalid images found and not yet recorded in Moraine: image, first failing check (R195, R440). -/
  notes : List (Nat × Nat)
  deriving DecidableEq, Repr

/-- Life cycle, one-time-programmable words and debug views. -/
structure LcSt where
  /-- The 64-bit OTP word LCW (R383). -/
  lcw : Nat
  /-- The state decoded at this boot (R383). -/
  st : Lc
  /-- In LC_REPAIR, the code of the state that the interrupted transition reaches; 0 otherwise. -/
  target : Nat
  /-- A transition has completed, and the reset of step 4 of R385 is due. -/
  resetDue : Bool
  /-- A transition is running (BUSY, R385). -/
  running : Bool
  /-- GLB_DEBUG.VIEWS (R391). -/
  views : Nat
  /-- ns of the model's clock at which DURATION expires (R391). -/
  viewEnd : Nat
  /-- The ceremony that opened the views (R392). -/
  viewCer : Nat
  /-- The bobbins halted through the view HALT (R391). -/
  halted : List Nat
  /-- A memory test mode is open (R380). -/
  testMode : Bool
  /-- A memory test mode was opened since the last reset (R385). -/
  testOpened : Bool
  /-- OTP words present: DIEID, MFGKEYHASH, the device root key (R385, R425). -/
  dieId : Bool
  mfgKeyHash : Bool
  rootKey : Bool
  /-- FWKEYHASH_0 to FWKEYHASH_3, each where it is programmed, and FWKEYREVOKE (R195). -/
  fwKeyHash : List (Option Nat)
  fwKeyRevoke : Nat
  /-- SVNMIN, the value of the thermometer word (R196). -/
  svnMin : Nat
  /-- IDKILL (R360). -/
  idKill : Bool
  /-- KEYED: a master key has once become ACTIVE (R431). -/
  keyed : Bool
  /-- DEVFP, the device fingerprint, once it is programmed (R193, R387). -/
  devFp : Option Nat
  /-- The control cluster's RAM copy of the identity private key, as the seed that it is generated from (R192, R361). -/
  idKey : Option Nat
  /-- The identity public key that the boot recomputed (R192). -/
  idPub : Option Nat
  /-- The two NAND copies of the identity seed (R192, R360). -/
  seedA : Option SeedCopy
  seedB : Option SeedCopy
  /-- The certificate chain is stored (R387). -/
  cert : Bool
  /-- The stored certificate chain. -/
  certChain : List Byte
  /-- Nonces that LC_STATUS returned since the last reset and that are unused (R386). -/
  nonces : List Nat
  deriving DecidableEq, Repr

/-- Power domains and clocks (R30, R433 to R439). Sets of domains are bit masks. -/
structure PwcSt where
  /-- Bit pillow·32 + bobbin: the bobbin's domain is on. -/
  bob : Nat
  /-- Bit n: the fabric of PIL_n is on. -/
  pil : Nat
  /-- Bit n: CPL_n is on. -/
  lane : Nat
  /-- Bit n: the MAC of PB_n is on. -/
  port : Nat
  /-- Bit n: CP_n is on. -/
  cp : Nat
  /-- Bit n: the controller of DRAM_n is on. -/
  dram : Nat
  pcie : Bool
  ltu : Bool
  liu : Bool
  stn : Bool
  lpHold : Bool
  /-- What was on before the low-power hold: bobbins, pillows, lanes, ports (R438). -/
  saved : List Nat
  /-- PWC_RESULT: BUSY, STATUS, OP, GROUP, INDEX. -/
  busy : Bool
  status : Nat
  op : Nat
  group : Nat
  index : Nat
  /-- Bit n: clock input n of PWC_CLKSTAT.OK is in tolerance. -/
  clkOk : Nat
  /-- PWC_TJ [15:0] and PWC_POWER [15:0], as last measured. -/
  tj : Nat
  power : Nat
  deriving DecidableEq, Repr

end Sys2Proof.Machine
end

