-- ==== Sys2Proof/Machine/Parts/Moraine.lean ====
section
/-! DEFINITION. Machine/Parts/Moraine.lean: the state of the Moraine event recorder (R407 to R417). -/
namespace Sys2Proof.Machine

/-- One Moraine record (R407), with its ring state. The CRC word is computed from the other fields. -/
structure MorRec where
  seq : Nat
  time : Nat
  code : Nat
  source : Nat
  sev : Nat
  clk : Nat
  mode : Nat
  rep : Nat
  payload : List Nat
  boot : Nat
  chain : Nat
  /-- The record may still collapse further occurrences (R411). -/
  isOpen : Bool
  /-- The record has been archived, so its slot is free (R412). -/
  archived : Bool
  deriving DecidableEq, Repr

/-- The token bucket of one code, and the suppressions it holds for the next record (R411). -/
structure Bucket where
  tokens : Nat
  rate : Nat
  burst : Nat
  supp : Nat
  deriving DecidableEq, Repr

/-- The bucket of every code at reset: 16 tokens per second, a burst of 64, full (R411). -/
def Bucket.full : Bucket := ⟨64, 16, 64, 0⟩

/-- The Moraine event recorder. -/
structure MorSt where
  /-- The ring, oldest record first, at most 4,096 records (R412). -/
  ring : List MorRec
  /-- SEQ of the newest record (MOR_HEAD). -/
  seq : Nat
  /-- The SEQ reservation in the battery domain (R409). -/
  seqRes : Nat
  /-- The archive in NAND, oldest record first (R413). -/
  archive : List MorRec
  /-- MOR_ARCHTAIL: the lowest SEQ of the archive that has not been erased (R413). -/
  archTail : Nat
  /-- A NAND failure has stopped archiving (ARCHERR, R413). -/
  archErr : Bool
  /-- The token buckets by code (R411). -/
  buckets : SMap Bucket
  /-- The mode of the last offer, to notice a change (R411). -/
  mode : Nat
  /-- The latched read window: MOR_RSTAT (R414). -/
  rstat : Word
  /-- The latched read window: MOR_REC, 16 words (R414). -/
  rrec : List Word
  /-- No record of this boot has been written yet (R408, R409). -/
  fresh : Bool
  deriving DecidableEq, Repr

end Sys2Proof.Machine
end

