-- ==== Sys2Proof/Machine/Parts/Net.lean ====
section
/-! DEFINITION. Machine/Parts/Net.lean: process-bus ports, pairs, the classifier and the time unit (R54 to R58, R98 to R132). -/
namespace Sys2Proof.Machine

/-- The lookup key of R54. -/
structure LookupKey where
  segment : Nat
  /-- The key is of a routed frame. -/
  routed : Bool
  /-- EtherType class (layer 2), or IP version (routed). -/
  cls : Nat
  /-- Payload type of the session header (routed). -/
  payload : Nat
  dst : Nat
  src : Nat
  vlan : Nat
  appId : Nat
  udpPort : Nat
  deriving DecidableEq, Repr

/-- Where a frame in reception goes. -/
inductive RxTo
  /-- Nowhere: it is discarded, or handled by the time unit or the pair logic alone. -/
  | nowhere
  /-- The drift pool, by handle. -/
  | pool (h : Nat)
  /-- The manager's exception ring, at its last byte (R58, R102). -/
  | exception
  /-- The other port of a BITW pair, at its last byte (R113). -/
  | relay
  deriving DecidableEq, Repr

/-- A port's link and what it is receiving and sending. -/
structure PortSt where
  up : Bool
  speedAct : Nat
  fecAct : Bool
  los : Bool
  spdErr : Bool
  phySpeed : Bool
  /-- The frame in reception: where it goes, the frame, its ingress timestamp, and whether it has been passed on around the ring. -/
  rx : RxTo
  rxFrame : Option Frame
  rxTs : Nat
  rxPassed : Bool
  /-- The copy that was passed on around the ring (R110). -/
  rxCopy : Option Nat
  /-- The egress queues 1 to 3, oldest first: handles of queued frames (R115). -/
  q1 : List Nat
  q2 : List Nat
  q3 : List Nat
  /-- The frame being sent, and its form on this port (R105, R112). -/
  tx : Option Nat
  txFrame : Option Frame
  /-- The frame that left last, and whether its FCS was inverted (R110). -/
  lastOut : Option (Frame × Bool)
  deriving DecidableEq, Repr

/-- A port idle with its link down, as the PBP page reads at reset (R131). -/
def PortSt.idle : PortSt := ⟨false, 0, false, false, false, false, .nowhere, none, 0, false, none, [], [], [], none, none, none⟩

/-- One duplicate-filter entry (R108): source MAC, sequence number, ns of the model's clock when made, and the port and the pool handle
of the copy that made it (R109). -/
structure DupEntry where
  mac : Nat
  seq : Nat
  madeAt : Nat
  port : Nat
  handle : Option Nat
  deriving DecidableEq, Repr

/-- A port pair: the duplicate filter, oldest entry first, and the sequence counter of R111. -/
structure PairNet where
  filter : List DupEntry
  seqNo : Nat
  deriving DecidableEq, Repr

/-- The classifier: the context table as (lookup key, context index) entries, and the contexts whose entry is in the stash. -/
structure ClsSt where
  table : List (LookupKey × Nat)
  stash : List Nat
  /-- The number of the seeds in use (R56). -/
  seed : Nat
  deriving DecidableEq, Repr

/-- Clock states (R118). -/
inductive ClkSt | freerun | acquiring | locked | holdover
  deriving DecidableEq, Repr

/-- One logged step: the time just after it and its signed size (R472). -/
structure StepLog where
  sec : Nat
  ns : Nat
  size : Int
  deriving DecidableEq, Repr

/-- The time unit (R118 to R126, R472). -/
structure PtpSt where
  sec : Nat
  ns : Nat
  st : ClkSt
  /-- Source followed: 0 none, 1 PTP, 2 IRIG-B with 1PPS, 3 IRIG-B alone. -/
  src : Nat
  port : Nat
  estErr : Nat
  /-- Sources valid now: PTP, IRIG-B, 1PPS in. -/
  ptpOk : Bool
  irigOk : Bool
  ppsOk : Bool
  /-- IRIG-B and 1PPS in differ by more than 1 µs, and neither is a source (R121). -/
  rejected : Bool
  everLocked : Bool
  /-- Magnitudes of the last 16 offsets, newest first. -/
  offsets : List Nat
  /-- Consecutive updates below 100 ns (R119). -/
  consec : Nat
  lastOffset : Int
  lastUpdate : Nat
  /-- The last offset measured of IRIG-B, of 1PPS and of PTP, ns, less what the clock has moved since (R121). -/
  irigOffset : Int
  ppsOffset : Int
  ptpOffset : Int
  /-- Offset still to slew, ns (R120). -/
  slew : Int
  lastStepAt : Option Nat
  holdAt : Nat
  holdErr : Nat
  steps : List StepLog
  snap : List StepLog
  tsSec : Nat
  /-- Announced rank per port, none when nothing is announced (R122). -/
  ranks : List (Option Nat)
  /-- PTP_PDELAY_n. -/
  pdelay : List (Option Nat)
  /-- The second named by the last good IRIG-B frame (R126). -/
  irigPrev : Option Nat
  /-- 1PPS out is driven active (R125). -/
  ppsOut : Bool
  /-- The time unit runs on the substitute clock (R434). -/
  substitute : Bool
  deriving DecidableEq, Repr

end Sys2Proof.Machine
end

