-- ==== Sys2Proof/Machine/Parts/Keys.lean ====
section
/-! DEFINITION. Machine/Parts/Keys.lean: cipher lanes, Firn, the journal's key items, the LTU and the LIU (R133 to R209). -/
namespace Sys2Proof.Machine

/-- What a Firn slot holds the key of (R156). -/
inductive KeyRef
  /-- A working key or tree root held as a wrapped blob (R161). -/
  | blob (index : Nat)
  /-- A node of the KX2400 derivation tree (R165). -/
  | node (index : Nat)
  /-- The wrapping key of a slice for an attribute (R157). -/
  | wk (slice attr : Nat)
  /-- A transient key: payload key or GDOI KEK (R156). -/
  | transient (n : Nat)
  deriving DecidableEq, Repr

/-- CPL_STATE.STATE (R151). -/
inductive LaneState | off | selftest | service | draining | fault | aborted
  deriving DecidableEq, Repr

/-- The code of a lane state in CPL_STATE (R155). -/
def LaneState.code : LaneState → Nat
  | .off => 0 | .selftest => 1 | .service => 2 | .draining => 3 | .fault => 4 | .aborted => 5

/-- A lane request (R136, R143). -/
structure LaneReq where
  id : Nat
  op : Nat
  /-- 0 SERVICE, 1 NORMAL, 2 HIGH (R143). -/
  cls : Nat
  /-- The issuing bobbin, pillow·32 + bobbin; none for the Firn port. -/
  bobbin : Option Nat
  /-- The frame, by pool handle. -/
  frame : Option Nat
  /-- The request block words LREQ0 to LREQ3 (R136). -/
  block : List Nat
  /-- The key, and the slot and generation it was resolved to at admission (R135, R138). -/
  key : Option KeyRef
  slot : Option Nat
  /-- Firn-port requests: what the result is for (a blob or node to make resident, a context's staging load). -/
  target : Option KeyRef
  loadCtx : Option Nat
  /-- Input and result value of Firn-port operations. -/
  arg : List Byte
  /-- Cycles the request still takes (R473). -/
  left : Nat
  /-- Cycles of its work that later requests take: SERVICE work longer than 256 cycles is split (R149). -/
  rest : Nat
  /-- Cycles that the lane spends on restoring it, as it runs again after a suspension (R147). -/
  restore : Nat
  /-- The outcome the lane reached when the request started (R139, R140). -/
  status : Nat
  /-- The bytes that the final step writes: (position in the frame, byte list) (R153). -/
  out : List (Nat × List Byte)
  /-- The value a Firn-port operation yields. -/
  val : Nat
  /-- The request has started on its lane. -/
  started : Bool
  /-- The register that waits for the LRES word of a bobbin's request (R270). -/
  rd : Nat
  /-- ns of the model's clock at which the request started or resumed on its lane. -/
  startAt : Nat
  deriving DecidableEq, Repr

/-- One cipher lane (R133 to R155). -/
structure LaneSt where
  st : LaneState
  queue : List LaneReq
  running : Option LaneReq
  /-- Suspended requests, the most recently suspended first (R147, R148). -/
  susp : List LaneReq
  /-- Key-schedule cache: (slot, generation), most recently used first, at most 8 (R134). -/
  cache : List (Nat × Nat)
  faultEngine : Nat
  faultCause : Nat
  /-- The self-test in progress was started through CPL_CTRL (R155). -/
  stCtrl : Bool
  /-- A self-test waits for the lane to drain (R155). -/
  stDue : Bool
  /-- The faulted lane's domain is to be switched off unless a self-test starts (R152). -/
  offDue : Bool
  /-- Busy cycles since reset (CPL_BUSY counts them in units of 1,024). -/
  busy : Nat
  deriving DecidableEq, Repr

/-- A lane as its page reads at reset: SELFTEST, empty (R155). -/
def LaneSt.init : LaneSt := ⟨.selftest, [], none, [], [], 0, 0, false, false, false, 0⟩

/-- The admission arbiter of one pillow (R144, R152). -/
structure ArbSt where
  /-- Requests waiting: (position 0 to 32, request). -/
  waiting : List (Nat × LaneReq)
  /-- Requests moved from a faulted lane, ahead of every new admission (R152). -/
  moved : List LaneReq
  pointer : Nat
  deriving DecidableEq, Repr

def ArbSt.empty : ArbSt := ⟨[], [], 0⟩

/-- A Firn slot that holds a key (R159). -/
structure SlotSt where
  holds : KeyRef
  attr : Nat
  ktype : Nat
  kid : Nat
  key : Nat
  pinned : Bool
  /-- Order of last use, for eviction (R162). -/
  used : Nat
  /-- To be emptied as soon as no lane request refers to it: no new request finds the key any more (R135). -/
  doomed : Bool
  deriving DecidableEq, Repr

/-- A wrapped blob (R161). -/
structure Blob where
  attr : Nat
  ktype : Nat
  slice : Nat
  kid : Nat
  kcv : Nat
  wrapped : List Byte
  bad : Bool
  pinned : Bool
  /-- Key epoch of the bundle that carried it (R180). -/
  epoch : Nat
  deriving DecidableEq, Repr

/-- A derivation-tree node (R165). -/
structure TreeNode where
  /-- The parent node, or none for a root. -/
  parent : Option Nat
  /-- The blob of a root. -/
  rootBlob : Option Nat
  slice : Nat
  attr : Nat
  ktype : Nat
  kid : Nat
  label : List Byte
  deriving DecidableEq, Repr

/-- A battery-backed master-key record (R175): STATE is 0x00, 0x5A or 0xA5; FLAGS[0] and KEMSEED are `kemSeed`. -/
structure MmkRec where
  seq : Nat
  state : Nat
  mmk : Nat
  kemSeed : Option Nat
  kcv : Nat
  crc : Nat
  deriving DecidableEq, Repr

/-- A record of zeros (R175). -/
def MmkRec.empty : MmkRec := ⟨0, 0, 0, none, 0, 0⟩

/-- FRN_STATE.KSTATE (R185). -/
inductive KState | nommk | active | changing | zeroised
  deriving DecidableEq, Repr

def KState.code : KState → Nat
  | .nommk => 0 | .active => 1 | .changing => 2 | .zeroised => 3

/-- A need for a key that is not resident (R162, R163). -/
structure Need where
  key : KeyRef
  cls : Nat
  /-- Pillows attached, in pillow order, and the one whose Firn port issues the unwrap. -/
  pillows : List Nat
  via : Nat
  /-- ns of the model's clock at which the need arose: of needs of that moment, the lowest pillow issues (R163). -/
  since : Nat
  /-- Lane requests that wait for the key, with their arbiter position. -/
  waiters : List (Nat × LaneReq)
  /-- Contexts whose staging load waits for the key (R168). -/
  loads : List Nat
  /-- The blob has been read and the UNWRAP issued. -/
  issued : Bool
  deriving DecidableEq, Repr

/-- A schedule entry (R169): ACTIVATE in PTP seconds, targets, OVERLAP or none to keep the staged value. -/
structure SchedEntry where
  activate : Nat
  targets : List Nat
  overlap : Option Nat
  /-- The schedule waits for each target's load (bundles and GDOI). -/
  waits : Bool
  deriving DecidableEq, Repr

/-- A GDOI mapping (R182). -/
structure GdoiMap where
  group : Nat
  kid : Nat
  ctxs : List Nat
  overlap : Nat
  deriving DecidableEq, Repr

/-- A master-key component held by an open MMK_CHANGE ceremony (R374). -/
structure MmkComp where
  officer : Nat
  number : Nat
  count : Nat
  value : Nat
  deriving DecidableEq, Repr

/-- Firn. -/
structure FirnSt where
  slots : SMap (Option SlotSt)
  /-- Generation count of each slot (R159). -/
  gens : SMap Nat
  useClock : Nat
  blobs : SMap (Option Blob)
  nodes : SMap (Option TreeNode)
  recA : MmkRec
  recB : MmkRec
  kstate : KState
  /-- Slice epochs (R157). -/
  sepoch : SMap Nat
  needs : List Need
  schedule : List SchedEntry
  gdoi : List GdoiMap
  /-- Last accepted push sequence per GDOI group (R181). -/
  gdoiSeq : SMap Nat
  comps : List MmkComp
  /-- Blobs rewrapped by a change of master key in progress, and the blob index from which it goes on (R176). -/
  rewrapped : Nat
  rewrapNext : Nat
  /-- KCV given with MMK_CHANGE. -/
  mmkKcv : Nat
  /-- KEY_STAGE commands that wait for their load: (context, slot) (R168). -/
  stageCmds : List (Nat × Slot)
  /-- KEY_COMMIT commands that wait for their commits: slot, contexts still to commit, the acknowledgement they need (R169, R348). -/
  commitCmds : List (Slot × List Nat × Nat)
  /-- The last result that a Firn-port operation returned to the control cluster: operation, status, value. -/
  portResult : Option (Nat × Nat × Nat)
  /-- The GDOI member key of the module, wrapped under the master key; none before the first registration (R181). -/
  member : Option (List Byte)
  /-- After a re-arm, the blobs and nodes that outlived the zeroisation: the next boot erases them (R184). -/
  outlived : List KeyRef
  deriving DecidableEq, Repr

/-- LTU_STATE.STATE (R209). -/
inductive UnitState | off | idle | busy | aborting | fault | aborted
  deriving DecidableEq, Repr

/-- The lattice transform unit (R186 to R191, R209). -/
structure LtuSt where
  st : UnitState
  /-- The running operation. -/
  op : Option LtuOp
  /-- Operations waiting, in order of arrival, each with its input (R190). -/
  queue : List (LtuOp × List Byte)
  /-- The signature at the head of the queue waits for its rnd (R190). -/
  asking : Bool
  /-- Input of the running operation. -/
  input : List Byte
  /-- Result of the last operation, and its status: 0 OK, 1 ZEROISED, 2 FAULT. -/
  result : List Byte
  status : Nat
  /-- The rnd that the signing operation in progress holds (R187, R190). -/
  rnd : Option Nat
  /-- What the coefficient memory and the Keccak state hold, as open numbers; 0 while they are clear (R186, R191). -/
  coef : Nat
  keccak : Nat
  restarts : Nat
  maxIter : Nat
  deriving DecidableEq, Repr

/-- An LIU command word, decoded (R202). -/
structure LiuCmd where
  op : Nat
  dst : Nat
  srcA : Nat
  srcB : Nat
  release : Bool
  /-- L, the operand length in words. -/
  len : Nat
  /-- The second word of KEYIN. -/
  blob : Nat
  deriving DecidableEq, Repr

/-- LIU command outcomes. -/
inductive LiuStatus | ok | badCmd | badOperand | residue | aborted | zeroised | unitFault
  deriving DecidableEq, Repr

/-- The long-integer unit (R200 to R206, R209). -/
structure LiuSt where
  st : UnitState
  /-- PW_0 to PW_31 and SW_0 to SW_31, as numbers of up to 128 words of 64 bits. -/
  pw : SMap Nat
  sw : SMap Nat
  modulus : Nat
  modLen : Nat
  /-- The Montgomery constants of the modulus register: −n⁻¹ mod 2^64 and 2^(128L) mod n (R200). -/
  modInv : Nat
  modR2 : Nat
  running : Option LiuCmd
  /-- What the running command writes when it completes: (register position, value). -/
  res : List (Nat × Nat)
  /-- A CMP result the running command will show. -/
  resCmp : Option Nat
  queue : List LiuCmd
  /-- The residue modulo 2^61 − 1 of each register by its position, and of n at 64 (R204). -/
  resid : SMap Nat
  cmp : Nat
  /-- A service holds secret registers (R206). -/
  secret : Bool
  /-- Residue mismatches in the present service (R204). -/
  mismatches : Nat
  last : LiuStatus
  deriving DecidableEq, Repr

end Sys2Proof.Machine
end

