-- ==== Sys2Proof/Machine/Parts/Stream.lean ====
section
/-! DEFINITION. Machine/Parts/Stream.lean: stream contexts, balance groups, frames in the drift pool, pillows and bobbins
(R54 to R97, R210 to R242, R243 to R278, R279 to R291). -/
namespace Sys2Proof.Machine

/-- The identity registered for a publisher context (R88). -/
structure PubIdent where
  srcMac : Nat
  vlanId : Nat
  appId : Nat
  ident : List Byte
  deriving DecidableEq, Repr

/-- A change to a context that waits for its frame boundary (R61). -/
inductive CtxChange
  /-- New CTRL, RATE, SUPV, PLAUS, PLIM words and declared rate (CTX_MODIFY). -/
  | modify (ctrl rate supv plaus plim : Word) (declRate : Nat)
  /-- A key commit with its OVERLAP (R69, R170), and whether the schedule table ordered it (R169). -/
  | commit (overlap : Nat) (scheduled : Bool)
  /-- A key staged as PENDING: KSRC, KIDX, KID, expected KCV, OVERLAP and epoch (R168, R180). -/
  | stage (ksrc kidx kid kcv overlap epoch : Nat)
  /-- The end of a staging load: its status and the KCV found (R168). -/
  | loaded (status kcv : Nat)
  /-- A KEY_ABORT (R169). -/
  | unstage
  deriving DecidableEq, Repr

/-- A stream context: its 24 words (R59) and what the module keeps beside them. -/
structure Ctx where
  /-- The 96 bytes as 24 words, word i at offset 4·i (R59). -/
  words : List Word
  /-- The lookup fields, and whether the context has a classifier entry (R57, R326). -/
  key : Option LookupKey
  lookup : Bool
  pub : Option PubIdent
  /-- Declared frame rate (R212). -/
  declRate : Nat
  /-- Scratch: offset and size in the pillow's shared RAM (R220). -/
  scrBase : Nat
  scrLen : Nat
  /-- Background owner, bobbin index in the pillow (R214). -/
  bgOwner : Nat
  /-- Deferred flags and whether an evaluation has completed (R85, R271). -/
  deferred : Nat
  pendingEval : Bool
  /-- The HARMONIC and BALANCE fails in force (R87), and clean instants since. -/
  failHarm : Bool
  failBal : Bool
  /-- The staged OVERLAP and the KCV that the staging load must find (R168, R170). -/
  overlap : Nat
  kcv : Nat
  /-- The full ingress timestamp of the last frame that passed, and the ms of its timeAllowedtoLive (R67). -/
  lastTs : Nat
  ttl : Nat
  /-- IV reservation journalled for a publisher (R174). -/
  reserve : Nat
  /-- The first IV_EXHAUSTED, and the first BITW_LENGTH, of this run have been recorded (R90, R112). -/
  ivNoted : Bool
  bitwNoted : Bool
  /-- INIT has not returned yet, so no frame is dispatched (R218). -/
  initDue : Bool
  /-- Changes that wait for the frame boundary (R61). -/
  changes : List CtxChange
  /-- The pillow that the context is moving to: new frames are admitted there and held (R233). -/
  moving : Option Nat
  /-- The context is being removed: the slot and the code of its command (R61, R312). -/
  removing : Option (Slot × Nat)
  /-- The original row of a guest (R233). -/
  origin : Option Nat
  /-- Key epoch of the bundle that staged the next key (R180). -/
  epoch : Nat
  /-- The EPOCH_END notice of the present PREVIOUS key has been written (R317). -/
  epochNoted : Bool
  deriving DecidableEq, Repr

/-- A balance group (R86, R327). -/
structure Group where
  pillow : Nat
  /-- Offset of the group's 2 KiB in the pillow's shared RAM (R220). -/
  base : Nat
  channels : Nat
  tolAbs : Nat
  tolRel : Nat
  persist : Nat
  balWait : Nat
  smpRate : Nat
  owner : Nat
  /-- Instants being collected: (smpCnt, members that have passed as a bit mask, channel values by member). -/
  instants : List (Nat × Nat × List (Nat × List Int))
  /-- The last eight instants that were evaluated or marked incomplete (R86). -/
  closed : List Nat
  /-- Consecutive violating and clean instants (R87). -/
  bad : Nat
  clean : Nat
  failing : Bool
  /-- The original pillow of a group that is a guest (R233). -/
  origin : Option Nat
  deriving DecidableEq, Repr

/-- A publish record of the partner (R335). -/
structure PubRecord where
  ctx : Nat
  first : Nat
  last : Nat
  iv : Nat
  seqNo : Nat
  digest : Nat
  deriving DecidableEq, Repr

/-- Where a frame came from. -/
inductive FrameSrc
  | port (n : Nat)
  /-- A transmit descriptor: slice, or none for a manager ring, and its TAG. -/
  | desc (slice : Option Nat) (tag : Nat)
  deriving DecidableEq, Repr

/-- Where a frame stands between admission and release. -/
inductive FrameStage | ready | running | verdict | done
  deriving DecidableEq, Repr

/-- A receive buffer taken for a delivery (R73, R315). -/
structure Delivery where
  slice : Nat
  bufId : Nat
  addr : Nat
  /-- The payload has been written. -/
  payload : Bool
  /-- The head word has been written. -/
  head : Bool
  deriving DecidableEq, Repr

/-- What the gates found (R63 to R68). -/
inductive Window | baseline | ahead | behind | retransmit | newState | restart
  deriving DecidableEq, Repr

/-- A background item (R214, R218). -/
structure BgItem where
  /-- 0 INIT, 1 HARM, 2 BAL_EVAL, 3 USER. -/
  kind : Nat
  /-- g1 and g3 of R218. -/
  target : Nat
  arg : Nat
  /-- The flags that the item has posted with FLAGPOST: (context, flags) (R277). -/
  flags : List (Nat × Nat)
  deriving DecidableEq, Repr

/-- What a run of a frame puts: the verdict code and flags, the staged writes by offset in the pillow's shared RAM, the staged context
words by word number, and the posted items; and the bobbin that ran it (R225, R226). -/
structure Outcome where
  bobbin : Nat
  code : Nat
  flags : Nat
  stage : SMap (Option Byte)
  ctxStage : SMap (Option Word)
  posts : List BgItem
  deriving DecidableEq, Repr

/-- A frame held in the drift pool. -/
structure FrameRec where
  frame : Frame
  src : FrameSrc
  /-- Ingress timestamp, ns since the PTP epoch (R54). -/
  ts : Nat
  /-- Context index, none for frames that have no context. -/
  ctx : Option Nat
  pillow : Nat
  cells : Nat
  stage : FrameStage
  high : Bool
  /-- Admission order on the pillow (R213). -/
  order : Nat
  /-- The bobbin that holds or held it, pillow·32 + bobbin. -/
  bobbin : Option Nat
  /-- What the gates of R63 to R68 judged: a fail code, or 0 while none fails. -/
  gate : Nat
  window : Option Window
  /-- The pass code of R68 and whether the next key is selected. -/
  passCode : Nat
  ksel : Bool
  /-- Staged CTX_RPL0 to CTX_RPL2 of R63 and R64. -/
  rpl : List Word
  /-- The request blocks and LRES words of lane requests that wrote into the cells (R153). -/
  wrote : List (List Nat × Nat)
  /-- The request blocks and LRES words of the lane requests that the present run has completed, for its shadow run (R225). -/
  given : List (List Nat × Nat)
  /-- The two outcomes that a consistency mismatch discarded, while the third run is due or runs (R226). -/
  vote : List Outcome
  /-- STATUS of the last lane request, none before any (R141). -/
  laneStatus : Option Nat
  /-- A lane request of the frame is pending (R270). -/
  lanePending : Bool
  /-- Gates 1 to 3 are passed and delivery may begin (R270). -/
  gated : Bool
  /-- The invocation value used by a published frame (R90). -/
  iv : Nat
  verdict : Nat
  pflags : Nat
  delivery : Option Delivery
  /-- Its delivery found no buffer or no entry when it was to begin, so it is not delivered (R310, R316). -/
  rxDropped : Bool
  /-- The frame as it leaves, where that differs from the frame as it is delivered (R112), and the PRP or HSR sequence numbers that it
  leaves with, by port pair (R111). -/
  out : Option Frame
  seqs : List (Nat × Nat)
  /-- The frame is an HSR copy whose FCS turned out bad: it ends on the egress port with an inverted FCS (R110). -/
  badFcs : Bool
  /-- A PTP sync that the transparent clock passes on: the peer delay of its ingress link (R123). -/
  link : Option Nat
  /-- PBP_PAIRCFG of its ingress pair as it was before a change of MODE that the frame outlived (R107). -/
  pairWas : Option Word
  /-- Ports the frame leaves on, still to be released (R282). -/
  egress : Nat
  /-- Consumers that still hold the cells (R282). -/
  consumers : Nat
  /-- The cells held plaintext of ALG 6 (R283). -/
  plain : Bool
  /-- The frame has been re-run (R77). -/
  rerun : Bool
  /-- Its last byte has been received, and it is a good frame (R100). -/
  rxDone : Bool
  /-- TimeOfCurrentKey and TimeToNextKey of its descriptor (R104). -/
  tck : Nat
  tnk : Nat
  /-- When and on which port its first byte left (R317), and whether its descriptor has completed. -/
  sent : Option (Nat × Nat)
  txDone : Bool
  /-- The partner's publish record that a STANDBY builds it by (R337). -/
  pubRec : Option PubRecord
  deriving DecidableEq, Repr

/-- One address generator (R261). -/
structure AgSt where
  base : Word
  cfg : Word
  inc : Word
  idx : Word
  deriving DecidableEq, Repr

def AgSt.zero : AgSt := ⟨0, 0, 0, 0⟩

/-- The architectural state of one level of a bobbin (R243). -/
structure Level where
  /-- g1 to g31 by number; g0 reads as 0. -/
  g : SMap Word
  /-- p7 to p1 as bits [7:1]; p0 reads as true. -/
  p : Nat
  /-- a0 to a3. -/
  ag : SMap AgSt
  acc0 : Int
  acc1 : Int
  pc : Word
  /-- Supervisor mode. -/
  super : Bool
  estat : Nat
  epc : Word
  ecause : Nat
  eval : Word
  emode : Bool
  trapped : Bool
  /-- The pending imprecise fault: cause and address (R239, R265). -/
  pend : Option (Nat × Nat)
  /-- The register that waits for LRES (R270). -/
  lres : Option Nat
  deriving DecidableEq, Repr

/-- The level's state at an entry point, before g1 to g3 and pc are set (R244). -/
def Level.entry : Level := ⟨[], 0, [], 0, 0, 0, false, 0, 0, 0, 0, false, false, none, none⟩

/-- A buffered store (R265): the level that issued it, its address and its bytes. -/
structure BufStore where
  fg : Bool
  super : Bool
  addr : Nat
  bytes : List Byte
  deriving DecidableEq, Repr

/-- What a bobbin is doing in its pillow (R213, R223, R228). -/
inductive BobRole | off | scheduled | spare | testing | quarantined | idle
  deriving DecidableEq, Repr

/-- One bobbin (R210 to R240, R243). -/
structure Bobbin where
  role : BobRole
  fg : Level
  bg : Level
  /-- The frame held at the foreground level. -/
  frame : Option Nat
  /-- The frame's entry point is TX (R218). -/
  tx : Bool
  /-- VERDICT.PUT has completed for the frame held (R272). -/
  put : Bool
  /-- The frame ended while its program runs: the level stops at its next instruction (R272). -/
  stop : Bool
  /-- The background item in progress, and the queue of 64 (R214). -/
  item : Option BgItem
  queue : List BgItem
  wbuf : List BufStore
  /-- Staged bytes of the foreground and background windows, by offset in the pillow's shared RAM (R222). -/
  stage : SMap (Option Byte)
  bgStage : SMap (Option Byte)
  /-- Staged context words, by word number (R269). -/
  ctxStage : SMap (Option Word)
  /-- Items posted by BGPOST, staged with the frame (R277). -/
  posts : List BgItem
  /-- MPU_BASEn and MPU_LIMn by region (R238). -/
  mpuBase : SMap Word
  mpuLim : SMap Word
  /-- Quarantines since reset (R232). -/
  quarCount : Nat
  /-- The frame this bobbin shadows (R225). -/
  shadow : Option Nat
  /-- The verdict code and flags put for a shadowed frame, while VERDICT.PUT waits for the comparison (R225). -/
  await : Option (Nat × Nat)
  /-- What the shadow run of this bobbin has put (R225). -/
  result : Option Outcome
  /-- The frame's bytes as a shadow run sees and writes them: its writes are not applied (R225). -/
  copy : Option (List Byte)
  /-- The argument word of BGPOST in the control page (R211). -/
  bgArg : Word
  deriving DecidableEq, Repr

/-- PIL_STATE.STATE (R241). -/
inductive PilState | off | starting | service | draining | drained | returning | failed
  deriving DecidableEq, Repr

def PilState.code : PilState → Nat
  | .off => 0 | .starting => 1 | .service => 2 | .draining => 3 | .drained => 4 | .returning => 5 | .failed => 6

/-- One pillow. -/
structure Pillow where
  st : PilState
  /-- Index of the bobbin last withdrawn by rotation (R223). -/
  lastOut : Nat
  arb : ArbSt
  /-- Cells that the pillow's frames hold, reservations included (R95). -/
  qcells : Nat
  /-- Admission order counter, and frames dispatched (for R225). -/
  order : Nat
  dispatched : Nat
  /-- The assignment: PGMID and PGMVER for entry 2·KIND + DIR (R217). -/
  assign : List (Option (Nat × Nat))
  /-- A command whose completion waits for the drain or return: its slot and code (R234, R236). -/
  cmd : Option Slot
  /-- Targets of a drain in progress (R234). -/
  targets : Nat
  deriving DecidableEq, Repr

/-- A stream program image held in NAND (R215, R216). -/
structure Image where
  pgmId : Nat
  pgmVer : Nat
  isa : Nat
  signer : Nat
  codeLen : Nat
  dataLen : Nat
  scrBase : Nat
  scrSmp : Nat
  scrBg : Nat
  cycles : Nat
  cyclesHarm : Nat
  init : Option Nat
  rx : Option Nat
  tx : Option Nat
  bg : Option Nat
  kinds : Nat
  digest : List Byte
  /-- SHA3-512 of the signed image as loaded, the signature included (R197). -/
  whole : List Byte
  /-- The code and the data section. -/
  code : List Byte
  data : List Byte
  deriving DecidableEq, Repr

/-- Aethorana's default image number k of 8 with its KINDS mask and the figures of R475 and R220. Its identifiers, entry points, code
and data are not in the spec (log entry 27). -/
def Image.default (k kinds cycles harm : Nat) : Image :=
  let sub := kinds % 4 == 1 || kinds % 16 == 4 || kinds % 256 == 0x50 || kinds % 4096 == 0x500
  { pgmId := k, pgmVer := 1, isa := 2, signer := 0, codeLen := (Config.defaultCode k).length, dataLen := (Config.defaultData k).length,
    scrBase := 64, scrSmp := 16, scrBg := Config.defaultEntry k 4 % 8193, cycles := cycles, cyclesHarm := harm,
    init := if Config.defaultEntry k 5 % 2 = 1 then some (Config.defaultEntry k 0) else none,
    rx := if sub then some (Config.defaultEntry k 1) else none, tx := if sub then none else some (Config.defaultEntry k 2),
    bg := if sub then some (Config.defaultEntry k 3) else none, kinds := kinds,
    digest := beBytes 64 (Config.sha3 (Config.defaultCode k ++ Config.defaultData k))
    whole := beBytes 64 (Config.sha3 (Config.defaultWhole k)), code := Config.defaultCode k,
    data := Config.defaultData k }

/-- The images that the module is delivered with (R217, R475): SV, GOOSE, R-SV and R-GOOSE, subscriber and publisher. -/
def defaultImages : List Image :=
  [.default 1 0x001 1900 1100, .default 2 0x002 700 0, .default 3 0x004 500 0, .default 4 0x008 600 0, .default 5 0x050 2100 1100,
   .default 6 0x0A0 900 0, .default 7 0x500 700 0, .default 8 0xA00 800 0]

/-- The delivered assignment, for entries 2·KIND + DIR (R217). -/
def defaultAssign : List (Option (Nat × Nat)) := [1, 2, 3, 4, 5, 6, 5, 6, 7, 8, 7, 8].map (fun k => some (k, 1))

end Sys2Proof.Machine
end

