-- ==== Sys2Proof/Machine/Parts/Tamper.lean ====
section
/-! DEFINITION. Machine/Parts/Tamper.lean: tamper sources, officers and ceremonies (R357 to R378). -/
namespace Sys2Proof.Machine

/-- TMP_CER.STATE (R371, R378). -/
inductive CerSt | idle | opened | auth1 | auth2 | exec
  deriving DecidableEq, Repr

/-- One officer table entry (R367): index, roles, public key (as a number) and the last_bseq of R180. -/
structure Officer where
  index : Nat
  roles : Nat
  pubKey : Nat
  lastBseq : Nat
  deriving DecidableEq, Repr

/-- One battery record of the tamper die (R363): source bits, 32.768 kHz count, and the count of slot 32. -/
structure BatRec where
  sources : Nat
  count : Nat
  lost : Nat
  deriving DecidableEq, Repr

/-- The tamper interface, the officers and the open ceremony. -/
structure TamperSt where
  /-- TMP_SRCEN bits of EXT0, EXT1, ENC0, ENC1 (R358). -/
  srcEn : Nat
  /-- TMP_ACTIVE (R378). -/
  active : Nat
  /-- TMP_LAST (R378). -/
  last : Nat
  /-- The module is ZEROISED (R361, R365). -/
  zeroised : Bool
  /-- TMP_EVCNT: tamper events since SEALED (R378). -/
  evCnt : Nat
  /-- The last trip of each source: (source, ns of the model's clock) (R376). -/
  trips : List (Nat × Nat)
  /-- Consecutive failing measurements of MESH0 and MESH1 (R360). -/
  meshFail0 : Nat
  meshFail1 : Nat
  /-- A persistent mesh breach on VBAT waits for the next power-up (R360). -/
  breachDue : Bool
  /-- The mesh-pattern seed in use, the number of the Flurry output it came from (R357). -/
  seed : Nat
  /-- Battery records kept while the main supply is off (R363). -/
  batRecs : List BatRec
  /-- TMP_STATE.BATREC (R378). -/
  batCopied : Nat
  /-- TMP_TEMP [15:0], signed 1/16 °C, and TMP_VBAT [11:0], mV. -/
  temp : Nat
  vbat : Nat
  /-- The officer table (R367). -/
  officers : List Officer
  /-- The customer code-signing key, none when absent (R375). -/
  codeKey : Option Nat
  /-- The open ceremony (R371): state, identifier, inner code, nonce, stored block, officers of the tokens held. -/
  cer : CerSt
  cerId : Nat
  cerCmd : Nat
  cerNonce : Nat
  cerBlock : List Byte
  cerOff1 : Option Nat
  cerOff2 : Option Nat
  /-- Failing tokens of the open ceremony (R371). -/
  cerFails : Nat
  /-- The highest ceremony identifier used since SEALED (R372). -/
  cerHigh : Nat
  /-- The CEREMONY_EXEC whose inner command runs (R371). -/
  cerSlot : Option Slot
  /-- The identifier of the last ceremony, where it expired. -/
  cerExpired : Option Nat
  deriving DecidableEq, Repr

end Sys2Proof.Machine
end

