-- ==== Sys2Proof/Machine/Parts/Host.lean ====
section
/-! DEFINITION. Machine/Parts/Host.lean: slices, rings, the mailbox, the fabric firewall, the drift pool, DRAM and the pair
(R279 to R356). -/
namespace Sys2Proof.Machine

/-- Slice states (R308). -/
inductive SliceState | free | active | quiescing | quiesced | fault
  deriving DecidableEq, Repr

def SliceState.code : SliceState → Nat
  | .free => 0 | .active => 1 | .quiescing => 2 | .quiesced => 3 | .fault => 4

/-- A transmit descriptor fetched and waiting for its frame's bytes (R314, R315). -/
structure TxDesc where
  addr : Nat
  len : Nat
  ctx : Nat
  tck : Nat
  tnk : Nat
  tag : Nat
  deriving DecidableEq, Repr

/-- One slice (R308 to R322). -/
structure Slice where
  st : SliceState
  pasid : Nat
  /-- The rings of the parameter block are known (R309). -/
  rings : Bool
  txBase : Nat
  rxBase : Nat
  cqBase : Nat
  txLog : Nat
  rxLog : Nat
  cqLog : Nat
  early : Bool
  bufSz : Nat
  maxCtx : Nat
  irqDelay : Nat
  /-- Ring indices: producer and consumer of the three rings. -/
  txTail : Nat
  txHead : Nat
  rxTail : Nat
  rxHead : Nat
  cqTail : Nat
  cqHead : Nat
  /-- Completion entries reserved and not yet written (R316). -/
  cqResv : Nat
  phase : Bool
  armed : Bool
  /-- An entry was written while armed and IRQDELAY had not passed (R319). -/
  irqDue : Bool
  lastMsg : Option Nat
  dbErr : Bool
  noticeLost : Bool
  rxDrop : Word
  txDrop : Word
  errInfo : Word
  /-- Drops in the running millisecond, and the ns it began (R317, RX_DROP). -/
  dropMs : Nat
  dropCount : Nat
  /-- Descriptors fetched whose frames have not arrived, in order. -/
  fetched : List TxDesc
  /-- Deliveries begun whose head word is not written. -/
  inFlight : Nat
  /-- The SLICE_QUIESCE that waits for the drain, and whether a read was abandoned (R311). -/
  quiesce : Option Slot
  abandoned : Bool
  /-- Dirty logging (R321). -/
  log : Bool
  logBase : Nat
  logPages : Nat
  bmAddr : Nat
  dirty : List Nat
  outside : Bool
  deriving DecidableEq, Repr

/-- A slice number that no slice holds. -/
def Slice.free : Slice :=
  { st := .free, pasid := 0, rings := false, txBase := 0, rxBase := 0, cqBase := 0, txLog := 0, rxLog := 0, cqLog := 0,
    early := false, bufSz := 0, maxCtx := 0, irqDelay := 0, txTail := 0, txHead := 0, rxTail := 0, rxHead := 0,
    cqTail := 0, cqHead := 0, cqResv := 0, phase := true, armed := false, irqDue := false, lastMsg := none,
    dbErr := false, noticeLost := false, rxDrop := 0, txDrop := 0, errInfo := 0, dropMs := 0, dropCount := 0,
    fetched := [], inFlight := 0, quiesce := none, abandoned := false, log := false, logBase := 0, logPages := 0,
    bmAddr := 0, dirty := [], outside := false }

/-- A mailbox completion that waits to be posted (R324). -/
structure MbxDone where
  slot : Slot
  code : Nat
  status : Nat
  resLen : Nat
  result : Nat
  deriving DecidableEq, Repr

/-- The indices of a manager ring or the mailbox: what the module has consumed or produced, and the phase. -/
structure RingIx where
  ix : Nat
  phase : Bool
  deriving DecidableEq, Repr

/-- The PCIe function, the manager rings and the mailbox (R304 to R307, R323, R324, R328). -/
structure HostIfSt where
  linkUp : Bool
  linkGen : Nat
  linkWidth : Nat
  /-- PASID Enable of the function's PASID capability (R313). -/
  pasidEn : Bool
  /-- Manager rings 0 to 4: the module's index, and stopped by an error (R320). -/
  mring : SMap RingIx
  mgrStop : Nat
  mgrArmed : Bool
  /-- MBX_CRHEAD, and the completion ring's producer index and phase. -/
  crHead : Nat
  ccTail : Nat
  ccPhase : Bool
  mbxArmed : Bool
  /-- Where the rotation over slices stands (R315). -/
  rotor : Nat
  /-- Descriptors of manager rings 2 and 3 fetched whose frames have not arrived, in order: (ring, descriptor). -/
  mfetched : List (Nat × TxDesc)
  /-- PCIE_PERST_N is asserted (R420). -/
  perst : Bool
  deriving DecidableEq, Repr

/-- An entry of the violation FIFO (R300). -/
structure FwlViol where
  addr : Nat
  write : Bool
  master : Nat
  rule : Nat
  deriving DecidableEq, Repr

/-- One firewall rule: RBASE, RLIM, RMAST and RCTL (R303). -/
structure FwlRule where
  base : Word
  lim : Word
  mast : Word
  ctl : Word
  deriving DecidableEq, Repr

def FwlRule.zero : FwlRule := ⟨0, 0, 0, 0⟩

/-- The fabric firewall (R295 to R303). -/
structure FwlSt where
  shadow : SMap FwlRule
  active : SMap FwlRule
  epoch : Word
  drain : Bool
  /-- A commit arrived during a drain and waits for it (R302). -/
  commitDue : Bool
  fifo : List FwlViol
  deriving DecidableEq, Repr

/-- DRAM controller states (R290, R294). -/
inductive DramState | off | training | service | fault
  deriving DecidableEq, Repr

def DramState.code : DramState → Nat
  | .off => 0 | .training => 1 | .service => 2 | .fault => 3

structure DramSt where
  st : DramState
  keyVal : Bool
  /-- The number of the Flurry output that gave the XTS keys (R293). -/
  key : Nat
  corr : Nat
  deriving DecidableEq, Repr

/-- The drift pool and DRAM (R279 to R294). -/
structure PoolSt where
  /-- Frames by handle. -/
  frames : SMap (Option FrameRec)
  next : Nat
  /-- Cells neither held nor reserved, and transmit-reserve cells free (R289). -/
  free : Nat
  txFree : Nat
  /-- Snapshot of DRF_QSEL (R290). -/
  qstat : Word
  qcells : Word
  /-- Queues whose UNDERRUN is set, and the handle that each queue's last dequeue returned (R286). -/
  under : List Nat
  lastDq : SMap Nat
  /-- The pool is being re-initialised (R288). -/
  restarting : Bool
  dram0 : DramSt
  dram1 : DramSt
  deriving DecidableEq, Repr

/-- Pair states (R342). -/
inductive PairState | single | binding | active | standby | alone | detached | held
  deriving DecidableEq, Repr

def PairState.code : PairState → Nat
  | .single => 0 | .binding => 1 | .active => 2 | .standby => 3 | .alone => 4 | .detached => 5 | .held => 6

/-- Pair-sense drive and decode (R340), in the encoding of BRD_STATE.PSIN. -/
inductive Sense | opened | dying | standby | active
  deriving DecidableEq, Repr

def Sense.code : Sense → Nat
  | .opened => 0 | .dying => 1 | .standby => 2 | .active => 3

/-- The key words of a context as the partner mirrors them: NSTATE, KIDCUR, KIDNEXT (R335). -/
structure PartnerKey where
  nstate : Nat
  kidCur : Nat
  kidNext : Nat
  deriving DecidableEq, Repr

/-- A record that this module sends to its partner (R335, R346): a mirrored item, or a publish record. -/
inductive BrideOut
  | item (it : MirrorItem)
  | publish (r : PubRecord)
  deriving DecidableEq, Repr

/-- The pair and the Bride link (R330 to R356). -/
structure PairSt where
  /-- The module is an SNV-KX5120-R, and not an SNV-KX5120-E (R1, R2, R355). -/
  rpart : Bool
  st : PairState
  bound : Bool
  partner : Nat
  member : Nat
  pref : Bool
  psOut : Sense
  psIn : Sense
  /-- DYING has been seen from the partner (R340). -/
  dyingSeen : Bool
  hb : Bool
  /-- Heartbeat loss is declared, or no heartbeat has arrived since the restart (R339). -/
  hbLost : Bool
  /-- ns of the model's clock at which the last heartbeat arrived (R339). -/
  hbAt : Option Nat
  /-- The last heartbeat sent: lanes, pair state code and mirror sequence (R339). -/
  hbOut : List Nat
  /-- The partner's mirror sequence as its heartbeat reports it (R339). -/
  peerSeq : Nat
  /-- Batches received under the link key (R334). -/
  batches : Nat
  /-- Lanes in service: bit 0 and bit 1. -/
  lanes : Nat
  authDone : Bool
  linkKey : Nat
  /-- This module's mirror sequence, and the partner's state as its heartbeat reports it (R339). -/
  mirrorSeq : Nat
  partnerSt : PairState
  /-- The recovery window is open, with the code of the first fault (R351, R417). -/
  recov : Bool
  firstFault : Nat
  /-- SO_1 BLOCK asserted by this block (R352). -/
  block : Bool
  lagNow : Nat
  lagMax : Nat
  /-- Contexts now KEYSPLIT (R349). -/
  keySplit : List Nat
  /-- Handles of held frames (R337). -/
  heldFrames : List Nat
  /-- PAIR_FAIL applies to frames of these pillows until the window ends: bit n for PIL_n (R351). -/
  failMask : Nat
  /-- The PAIR_BIND or PAIR_SWITCH in progress. -/
  cmd : Option Slot
  /-- Publish records received that no frame has taken yet, oldest first (R337). -/
  records : List PubRecord
  /-- The partner's key words by context (R335). -/
  partnerKeys : SMap (Option PartnerKey)
  /-- Paired commits that wait for T_c: context, T_c in ns, CTX_OVLEND (R348). -/
  commitAt : List (Nat × Nat × Nat)
  /-- Mirrored commits sent, the last one the partner has acknowledged as durable, and completions that wait for it (R348). -/
  sent : Nat
  acked : Nat
  ackWait : List (Nat × MbxDone)
  /-- The records sent to the partner, oldest first: as many as one batch holds (R334, R335). -/
  out : List BrideOut
  /-- The key words of each context as they were last sent: NSTATE, KIDCUR and KIDNEXT, and CTX_OVLEND (R335). -/
  keysSent : SMap (Option (PartnerKey × Nat))
  deriving DecidableEq, Repr

/-- A plausibility capture (R469). -/
structure Capture where
  cseq : Nat
  kind : Nat
  group : Nat
  members : Nat
  morSeq : Nat
  bytes : List Byte
  /-- ns of the model's clock at the detection: MAGIC stands 2 ms later (log entry 26). -/
  madeAt : Nat
  deriving DecidableEq, Repr

/-- Captures of one pillow: slots in ring order, oldest first, and the lost count (R469, R470). -/
structure CaptSt where
  slots : List Capture
  next : Nat
  lost : Nat
  deriving DecidableEq, Repr

/-- One durable change in the journal (R172). -/
inductive JItem
  | ctx (i : Nat) (c : Option Ctx)
  | slice (i : Nat) (s : Option Slice)
  | group (i : Nat) (g : Option Group)
  | blob (i : Nat) (b : Option Blob)
  | node (i : Nat) (n : Option TreeNode)
  | sepoch (i : Nat) (e : Nat)
  | sched (l : List SchedEntry)
  | image (l : List Image)
  | assign (p : Nat) (a : List (Option (Nat × Nat)))
  | logLimit (code : Nat) (b : Bucket)
  | gdoi (l : List GdoiMap)
  | officers (l : List Officer)
  | codeKey (k : Option Nat)
  | pair (bound : Bool) (partner member : Nat) (pref : Bool)
  /-- An accepted bundle: W0 to W3 of its KEY_BUNDLE record, which is written with the status that the bundle ends with (R180). -/
  | bundle (payload : List Nat)
  /-- A blob of the shadow table of the master key with this SEQ (R176). -/
  | rewrap (seq i : Nat) (b : Blob)
  /-- The GDOI member key (R181). -/
  | member (k : Option (List Byte))
  deriving DecidableEq, Repr

/-- A journal record (R172): its changes, the completion that waits for it, and the notice that goes with it. -/
structure JRec where
  items : List JItem
  done : Option MbxDone
  /-- CTX_REMOVED notice: slice and context (R61). -/
  removed : Option (Nat × Nat)
  /-- The mirrored commit that the partner must acknowledge before the completion is posted, 0 for none (R348). -/
  ack : Nat
  /-- The code of the command in progress that the record belongs to, where another record holds its completion; 0 for none (R184). -/
  cmd : Nat
  deriving DecidableEq, Repr

/-- What NAND holds durably and the control cluster rebuilds at boot (R172, R421). -/
structure Durable where
  ctxs : SMap (Option Ctx)
  slices : SMap (Option Slice)
  groups : SMap (Option Group)
  /-- The blob table, and the shadow table of a change of master key with the SEQ that it is tagged with (R176). -/
  blobs : SMap (Option Blob)
  shadow : Option (Nat × SMap (Option Blob))
  nodes : SMap (Option TreeNode)
  sepoch : SMap Nat
  schedule : List SchedEntry
  gdoiMember : Option (List Byte)
  images : List Image
  assigns : SMap (List (Option (Nat × Nat)))
  buckets : SMap Bucket
  gdoi : List GdoiMap
  officers : List Officer
  codeKey : Option Nat
  bound : Bool
  partner : Nat
  member : Nat
  pref : Bool
  deriving DecidableEq, Repr

end Sys2Proof.Machine
end

