-- ==== Sys2Proof/Machine/Parts/Page.lean ====
section
/-! DEFINITION. Machine/Parts/Page.lean: the common words of one BAR0 page (R40 to R52) as state. -/
namespace Sys2Proof.Machine

/-- The state behind the eight common words of a page (R40). -/
structure PageSt where
  /-- BLK_STAT.SEQ, modulo 256 (R42). -/
  seq : Nat
  /-- BLK_STAT [23:0] as held: CFGERR 23, WREFUSED 22, SAFE 21, HOLDTO 20, BLKSTAT 15:0 (R42). -/
  stat : Nat
  /-- The state bits of BLK_STAT whose condition lasts (R42). -/
  cond : Nat
  /-- The page's interrupt is raised (R306). -/
  irq : Bool
  /-- BLK_UNLK armed for the manager (R46, R47). -/
  armedM : Bool
  /-- BLK_UNLK armed for the control cluster (R46, R47). -/
  armedC : Bool
  /-- BLK_CFGCRC (R48). -/
  cfgCrc : Word
  /-- BLK_CFGREF (R40). -/
  cfgRef : Word
  /-- BLK_CTRL.CFGHOLD (R52). -/
  hold : Bool
  /-- BLK_CTRL.SAFEEN (R52). -/
  safeEn : Bool
  /-- BLK_CTRL.IRQEN (R52). -/
  irqEn : Bool
  /-- A successful clear of CFGERR awaits its next matching pass (R51). -/
  leaving : Bool
  deriving DecidableEq, Repr

end Sys2Proof.Machine
end

