-- ==== Sys2Proof/Machine/Parts/Rng.lean ====
section
/-! DEFINITION. Machine/Parts/Rng.lean: Flurry (R395 to R406). -/
namespace Sys2Proof.Machine

/-- RNG_STATE.STATE (R400). -/
inductive RngState | starting | ready | restarting | fatal | test
  deriving DecidableEq, Repr

/-- One jitter source (R402, R406). -/
structure RngSource where
  restarting : Bool
  withdrawn : Bool
  /-- Consecutive failed blocks, 0 to 3. -/
  consec : Nat
  /-- Consecutive passing blocks since start-up or restart, counted to 4 (R401). -/
  passes : Nat
  /-- The last bit and the length of the run it ends: the repetition-count test runs across blocks (R395). -/
  lastBit : Bool
  run : Nat
  deriving DecidableEq, Repr

/-- The firmware service that a request of the control cluster serves (R398, R399): the LTU's signature at the head of its queue, or a mailbox
command that waits for its bytes. -/
inductive CcNeed
  | ltuSign
  | attest (sl : Slot) (nonce : List Byte)
  /-- KEM_GENERATE: for the seed, then for the rnd of its signature. -/
  | kemGenerate (sl : Slot) (seed : Option Nat)
  | logSeal (sl : Slot) (first last : Nat) (nandOk : Bool)
  | ceremonyOpen (sl : Slot) (inner id : Nat) (block : List Byte)
  | gdoi (sl : Slot) (m : GdoiIn)
  deriving DecidableEq, Repr

/-- A request waiting for bytes (R398): port, size, and the service of the control cluster that it is for. -/
structure RngReq where
  port : Nat
  bytes : Nat
  need : Option CcNeed
  deriving DecidableEq, Repr

/-- Flurry. -/
structure RngSt where
  st : RngState
  sources : List RngSource
  /-- Bytes in the output queue, 0 to 4,096. -/
  qfill : Nat
  /-- The number of the next byte that the queue hands out: every byte is given once (R397). -/
  outPos : Nat
  /-- Conditioned outputs available to the DRBG (R396). -/
  outputs : Nat
  /-- The known-answer tests have passed (R401). -/
  katOk : Bool
  /-- The DRBG is instantiated (R397). -/
  inst : Bool
  /-- ns of the model's clock at which start-up began (R400). -/
  startAt : Nat
  /-- ns of the last sixteen failures, newest first (R402). -/
  failTimes : List Nat
  waiting : List RngReq
  /-- Requests of the control cluster that have ended and whose service has not gone on yet: the bytes as a number, none for NOT_READY,
  TIMEOUT and FATAL (R399). -/
  given : List (CcNeed × Option Nat)
  /-- RNG_LASTFAIL: source and test, none before the first failure. -/
  lastFail : Option (Nat × Nat)
  /-- Raw words handed out by RNG_RAW (R405), and the index of the next pattern output. -/
  rawPos : Nat
  /-- The last word RNG_RAW returned (R405). -/
  rawWord : Word
  /-- DRAM controllers whose key request was refused and is repeated (R399): bit n for DRAM_n. -/
  dramRetry : Nat
  deriving DecidableEq, Repr

end Sys2Proof.Machine
end

