-- ==== Sys2Proof/Machine/Parts/Station.lean ====
section
/-! DEFINITION. Machine/Parts/Station.lean: the station-side interface (R20, R457 to R464). -/
namespace Sys2Proof.Machine

/-- One entry of the station event FIFO (R464). -/
structure StnEvent where
  edge : Bool
  input : Nat
  /-- ns since the PTP epoch, a multiple of 1,000. -/
  time : Nat
  deriving DecidableEq, Repr

/-- The station-side section and its isolated link. -/
structure StationSt where
  linkOk : Bool
  /-- STN_SI.RAW and STN_SI.STATE. -/
  raw : Nat
  si : Nat
  /-- STN_OUT: SO_2 and SO_3 commanded. -/
  so2 : Bool
  so3 : Bool
  /-- Bit n: SO_n latched open by its current limit. -/
  ovld : Nat
  events : List StnEvent
  /-- The debounced states as the station side has them, and its events that wait for a frame, in the order of R458, each with the
  microsecond of the model's clock in which it was confirmed. -/
  stSi : Nat
  waiting : List (Nat × StnEvent)
  /-- The control cluster's health frame reaches the station side (R462). -/
  health : Bool
  /-- What the last frame towards the station side carried: PTP time in µs modulo 2^32, and the output commands (R20). -/
  sentUs : Nat
  sentOut : Nat
  /-- The full PTP seconds: the value whose parts cross in the frames of the present millisecond, that millisecond, and the value that has
  crossed whole. -/
  secNow : Nat
  secMs : Nat
  secWhole : Nat
  deriving DecidableEq, Repr

end Sys2Proof.Machine
end

