-- ==== Sys2Proof/Machine/State.lean ====
section
/-! DEFINITION. Machine/State.lean: the whole state of the module as plain data, the stop reasons, and the state at reset. -/
namespace Sys2Proof.Machine

/-- The reasons of a fault. No command of this block raises one: where the spec ends an action it says what the module does
instead (a refusal recorded in a register, a status code, a fail verdict, a trap of a program), and that is a next state. -/
inductive Fault
  /-- An address outside every memory that the spec lays out. Raised by no command: the fabric firewall refuses such an
  access with a recorded violation (R298). Safe. -/
  | noSuchAddress
  deriving DecidableEq, Repr

/-- The reasons of a refusal. -/
inductive Refusal
  /-- The command of this mnemonic has no meaning in the model yet. Raised by an arm of exec alone. Safe: the run stops. -/
  | notModelled (mnemonic : String)
  deriving DecidableEq, Repr

/-- Everything the spec gives the module, and the queue of commands that wait. -/
structure State where
  /-- The common words of each BAR0 page, by page number (BAR0 offset / 0x1000); unlisted pages are as at reset (R40). -/
  pages : SMap PageSt
  /-- Stored BAR0 words by BAR0 offset: every RW word, counter and capture; unlisted words are at their reset value. -/
  regs : SMap Word
  /-- MSI-X messages sent, by vector (R306). -/
  msix : SMap Nat
  /-- Host memory, pillow shared RAM and bobbin RAM, by byte. -/
  mem : List Host.Cell
  boot : BootSt
  lc : LcSt
  pwc : PwcSt
  tamper : TamperSt
  rng : RngSt
  stn : StationSt
  mor : MorSt
  ports : SMap PortSt
  pairNet : SMap PairNet
  cls : ClsSt
  ptp : PtpSt
  lanes : SMap LaneSt
  firn : FirnSt
  ltu : LtuSt
  liu : LiuSt
  ctxs : SMap (Option Ctx)
  groups : SMap (Option Group)
  pillows : SMap Pillow
  bobbins : SMap Bobbin
  images : List Image
  slices : SMap Slice
  hostIf : HostIfSt
  fwl : FwlSt
  pool : PoolSt
  pair : PairSt
  captures : SMap CaptSt
  /-- Durable changes on their way to NAND, oldest first (R172). -/
  journal : List JRec
  /-- What NAND holds (R172). -/
  durable : Durable
  /-- The model's own counter of open values drawn so far; it is no register of the module. -/
  freeCtr : Nat
  /-- The commands that wait, first in, first out. -/
  pending : List Instr
  deriving DecidableEq, Repr

/-- The firmware that a delivered module holds in both slots: release 1 with security version 1, one body byte, signed by key 0. DESIGN
CHOICE (log entry 138): the spec states no image. -/
def deliveredImage : FwImage :=
  let m : FwImage := ⟨0x4B584657, 1, 1, 1, 1, 1, 0, Config.sha3 [0], Config.fwKey, 0, List.replicate 44 0, List.replicate 845 0, [0]⟩
  { m with sig := Config.mldsaSign m.pubKey (Config.sha3 (fwHead m)) 0 }

/-- Start-up state with the module held in reset (R419, R440). -/
def BootSt.reset : BootSt :=
  { inReset := true, phase := .rom, cause := 0, access := .closed, portHold := true, slot := 0, aInv := false, bInv := false,
    imageA := deliveredImage, imageB := deliveredImage, prefSlot := 0, bootTime := 0, rcvStatus := 0, now := 0, ccDead := false,
    bootCnt := 0, batteryOk := true, powerFail := false, latchSec := 0, latchNs := 0, notes := [] }

/-- A delivered module: SEALED (R379, R383), before its first boot in that state (R387). -/
def LcSt.reset : LcSt :=
  { lcw := 0xFFFF, st := .sealed, target := 0, resetDue := false, running := false, views := 0, viewEnd := 0, viewCer := 0, halted := [],
    testMode := false, testOpened := false, dieId := true, mfgKeyHash := true, rootKey := true,
    fwKeyHash := [some (fingerprint Config.fwKey), none, none, none], fwKeyRevoke := 0,
    svnMin := 1, idKill := false, keyed := false, devFp := none, idKey := none, idPub := none, seedA := none, seedB := none, cert := false,
    certChain := [], nonces := [] }

/-- Every power domain on and every clock in tolerance (R30, R439). -/
def PwcSt.reset : PwcSt :=
  { bob := 2 ^ 512 - 1, pil := 0xFFFF, lane := 0xFFFFFFFF, port := 0xF, cp := 0xF, dram := 3, pcie := true, ltu := true,
    liu := true, stn := true, lpHold := false, saved := [], busy := false, status := 0, op := 0, group := 0, index := 0,
    clkOk := 0xF, tj := 0x190, power := 0 }

/-- The tamper interface before firmware entry (R378). -/
def TamperSt.reset : TamperSt :=
  { srcEn := 0, active := 0, last := 0, zeroised := false, evCnt := 0, trips := [], meshFail0 := 0, meshFail1 := 0, breachDue := false,
    seed := 0, batRecs := [], batCopied := 0, temp := 0x190, vbat := 3000, officers := [], codeKey := none, cer := .idle,
    cerId := 0, cerCmd := 0, cerNonce := 0, cerBlock := [], cerOff1 := none, cerOff2 := none, cerFails := 0, cerHigh := 0, cerSlot := none, cerExpired := none }

/-- Flurry at reset release (R400). -/
def RngSt.reset : RngSt :=
  { st := .starting, sources := List.replicate 8 ⟨false, false, 0, 0, false, 0⟩, qfill := 0, outPos := 0, outputs := 0,
    katOk := false, inst := false, startAt := 0, failTimes := [], waiting := [], lastFail := none, given := [],
    rawPos := 0, rawWord := 0, dramRetry := 0 }

/-- The station-side section with its link not yet carrying frames (R464). -/
def StationSt.reset : StationSt :=
  { linkOk := false, raw := 0, si := 0, so2 := false, so3 := false, ovld := 0, events := [],
    stSi := 0, waiting := [], health := false, sentUs := 0, sentOut := 0, secNow := 0, secMs := 0, secWhole := 0 }

/-- Moraine with an empty ring, an empty archive and full buckets (R409, R411). -/
def MorSt.reset : MorSt :=
  { ring := [], seq := 0, seqRes := 0, archive := [], archTail := 0, archErr := false, buckets := [], mode := 1, rstat := 0,
    rrec := [], fresh := true }

/-- The time unit in FREERUN from time 0 (R132, R423). -/
def PtpSt.reset : PtpSt :=
  { sec := 0, ns := 0, st := .freerun, src := 0, port := 0, estErr := 0xFFFFFF, ptpOk := false, irigOk := false,
    ppsOk := false, rejected := false, everLocked := false, offsets := [], consec := 0, lastOffset := 0, lastUpdate := 0, irigOffset := 0,
    ppsOffset := 0, ptpOffset := 0, slew := 0, lastStepAt := none, holdAt := 0, holdErr := 0, steps := [],
    snap := [], tsSec := 0, ranks := [none, none, none, none], pdelay := [none, none, none, none], irigPrev := none,
    ppsOut := false, substitute := false }

/-- Firn without keys (R185). -/
def FirnSt.reset : FirnSt :=
  { slots := [], gens := [], useClock := 0, blobs := [], nodes := [], recA := .empty, recB := .empty, kstate := .nommk, sepoch := [],
    needs := [], schedule := [], gdoi := [], gdoiSeq := [], comps := [], rewrapped := 0, rewrapNext := 0, mmkKcv := 0,
    stageCmds := [], commitCmds := [], portResult := none, member := none, outlived := [] }

/-- The LTU switched off (R209). -/
def LtuSt.reset : LtuSt :=
  { st := .off, op := none, queue := [], asking := false, input := [], result := [], status := 0, rnd := none, coef := 0, keccak := 0,
    restarts := 0, maxIter := 0 }

/-- The LIU switched off (R209). -/
def LiuSt.reset : LiuSt :=
  { st := .off, pw := [], sw := [], modulus := 0, modLen := 0, modInv := 0, modR2 := 0, running := none, res := [],
    resCmp := none, queue := [], resid := [], cmp := 0, secret := false, mismatches := 0, last := .ok }

/-- The PCIe function with its link down and every ring index 0 (R307, R323, R324, R328). -/
def HostIfSt.reset : HostIfSt :=
  { linkUp := false, linkGen := 0, linkWidth := 0, pasidEn := false, mring := [], mgrStop := 0, mgrArmed := false,
    crHead := 0, ccTail := 0, ccPhase := true, mbxArmed := false, rotor := 0, mfetched := [], perst := false }

/-- The firewall without rules (R297, R303). -/
def FwlSt.reset : FwlSt :=
  { shadow := [], active := [], epoch := 0, drain := false, commitDue := false, fifo := [] }

/-- The drift pool empty and both DRAM controllers without keys (R289, R290). -/
def PoolSt.reset : PoolSt :=
  { frames := [], next := 0, free := 0x20000, txFree := 0x1000, qstat := 0x80000000, qcells := 0, under := [], lastDq := [],
    restarting := false, dram0 := ⟨.off, false, 0, 0⟩, dram1 := ⟨.off, false, 0, 0⟩ }

/-- A module without a partner, pair-sense DYING while in reset (R340, R342). DESIGN CHOICE: the part is an SNV-KX5120-R (log entry 83). -/
def PairSt.reset : PairSt :=
  { rpart := true, st := .single, bound := false, partner := 0, member := 0, pref := false, psOut := .dying, psIn := .opened,
    dyingSeen := false, hb := false, hbLost := true, hbAt := none, hbOut := [], peerSeq := 0, batches := 0, lanes := 0, authDone := false, linkKey := 0, mirrorSeq := 0, partnerSt := .single,
    recov := false, firstFault := 0, block := false, lagNow := 0, lagMax := 0, keySplit := [],
    heldFrames := [], failMask := 0, cmd := none, records := [], partnerKeys := [], commitAt := [], sent := 0, acked := 0, ackWait := [], out := [], keysSent := [] }

/-- NAND of a delivered module: the default program images alone (R217). -/
def Durable.empty : Durable :=
  { ctxs := [], slices := [], groups := [], blobs := [], shadow := none, nodes := [], sepoch := [], schedule := [], gdoiMember := none, images := defaultImages,
    assigns := [], buckets := [], gdoi := [], officers := [], codeKey := none, bound := false, partner := 0, member := 0, pref := false }

/-- A delivered module right after reset, held in internal reset until RESET_RELEASE: every register at the value the spec
states for reset, and every value that the spec leaves open at the one that log entry 4 names. -/
def State.reset : State :=
  { pages := [], regs := [], msix := [], mem := [], boot := .reset, lc := .reset, pwc := .reset, tamper := .reset,
    rng := .reset, stn := .reset, mor := .reset, ports := [], pairNet := [], cls := ⟨[], [], 0⟩, ptp := .reset, lanes := [],
    firn := .reset, ltu := .reset, liu := .reset, ctxs := [], groups := [], pillows := [], bobbins := [], images := defaultImages,
    slices := [], hostIf := .reset, fwl := .reset, pool := .reset, pair := .reset, captures := [], journal := [],
    durable := .empty, freeCtr := 0, pending := [] }

end Sys2Proof.Machine
end

