-- ==== Sys2Proof/Machine/Ops.lean ====
section
/-! DEFINITION. Machine/Ops.lean: the operations that every family shares: stored registers, common words and interrupts (R40 to
R52, R306), open values, memory, and the Moraine writer (R407 to R412, R417). -/
namespace Sys2Proof.Machine

/-- The BAR0 offset of register o of page p. -/
def regAddr (p o : Nat) : Nat := p * 0x1000 + o

/-- The stored word at a BAR0 offset. -/
def getReg (s : State) (addr : Nat) : Word := smapGet regRst s.regs addr

/-- The state with a stored word written. -/
def setReg (s : State) (addr : Nat) (v : Word) : State := { s with regs := smapSet regRst s.regs addr v }

/-- A counter register raised by one, holding at 0xFFFF_FFFF. -/
def incReg (s : State) (addr : Nat) : State := setReg s addr (satInc (getReg s addr))

/-- A counter register raised by n, holding at 0xFFFF_FFFF. -/
def addReg (s : State) (addr n : Nat) : State := setReg s addr (satAdd (getReg s addr) n)

/-- The next open value, and the state that has drawn it (log entry 9). -/
def draw (s : State) : Nat × State := (Config.freeValue s.freeCtr, { s with freeCtr := s.freeCtr + 1 })

/-! ### Common words -/

/-- The common words of a page at reset: BLK_CFGREF and BLK_CFGCRC hold the CRC of the reset values (R51). -/
def pageInit (p : Nat) : PageSt :=
  let c := cfgCrcOf p (fun o => regRst (regAddr p o))
  { seq := 0, stat := 0, cond := 0, irq := false, armedM := false, armedC := false, cfgCrc := c, cfgRef := c, hold := false,
    safeEn := false, irqEn := true, leaving := false }

def getPage (s : State) (p : Nat) : PageSt := smapGet pageInit s.pages p

def setPage (s : State) (p : Nat) (g : PageSt) : State := { s with pages := smapSet pageInit s.pages p g }

def modPage (s : State) (p : Nat) (f : PageSt → PageSt) : State := setPage s p (f (getPage s p))

/-- The block of the page is held in its safe state (R50): BLK_STAT.SAFE. -/
def pageSafe (s : State) (p : Nat) : Bool := bit (getPage s p).stat 21

/-- A configuration word as its block uses it: its reset value while the block is held in a safe state that says so. -/
def cfgOrSafe (s : State) (p o : Nat) : Word := if pageSafe s p then regRst (regAddr p o) else getReg s (regAddr p o)

/-- The MSI-X vector of a page: its block code (R306). -/
def pageVector (p : Nat) : Nat :=
  match pageBlock p with
  | some (c, _, _) => c
  | none => 0

/-- One MSI-X message on a vector (R306). -/
def sendMsix (s : State) (v : Nat) : State := { s with msix := smapMod (fun _ => 0) s.msix v (· + 1) }

/-- A page with status bit b set by a set event: SEQ advances, and with IRQEN the page's interrupt is raised (R42, R45). -/
def PageSt.event (g : PageSt) (b : Nat) : PageSt :=
  { g with seq := (g.seq + 1) % 256, stat := Nat.lor g.stat (2 ^ b), irq := g.irq || g.irqEn }

/-- A set event of status bit b of page p; the block's message is sent when the page's interrupt goes from lowered to raised
(R42, R306). -/
def setEvt (s : State) (p b : Nat) : State :=
  let g := getPage s p
  let s := setPage s p (g.event b)
  if g.irqEn && !g.irq then sendMsix s (pageVector p) else s

/-- A state bit follows its condition: the beginning is a set event, the end clears the bit (R42). -/
def condSet (s : State) (p b : Nat) (on : Bool) : State :=
  let g := getPage s p
  match on, bit g.cond b with
  | true, false => setEvt (setPage s p { g with cond := Nat.lor g.cond (2 ^ b) }) p b
  | false, true => setPage s p { g with cond := g.cond - 2 ^ b, stat := if bit g.stat b then g.stat - 2 ^ b else g.stat }
  | _, _ => s

/-! ### Memory -/

/-- One byte of memory. -/
def readByte (s : State) (a : Nat) : Byte := smapGet (fun _ => 0) s.mem a

/-- One byte of memory written. -/
def writeByte (s : State) (a : Nat) (b : Byte) : State := { s with mem := smapSet (fun _ => 0) s.mem a b }

/-- Bytes written at rising addresses. -/
def writeBytes (s : State) (a : Nat) : List Byte → State
  | [] => s
  | b :: bs => writeBytes (writeByte s a b) (a + 1) bs

/-- n bytes read at rising addresses. -/
def readBytes (s : State) (a n : Nat) : List Byte := (List.range n).map (fun i => readByte s (a + i))

/-- The memory key of a host address under a PASID; 0 stands for the manager, which writes without a PASID. -/
def hostKey (pasid addr : Nat) : Nat := (pasid + 1) * 2 ^ 64 + addr % 2 ^ 64

/-- The memory is in its canonical form. -/
def memWf (s : State) : Bool := smapWf (fun _ => (0 : Byte)) s.mem

/-! ### Time -/

/-- PTP time in ns since the epoch. -/
def ptpNow (s : State) : Nat := s.ptp.sec * 1000000000 + s.ptp.ns

/-- The clock state's code (R132). -/
def ClkSt.code : ClkSt → Nat
  | .freerun => 0 | .acquiring => 1 | .locked => 2 | .holdover => 3

/-- The growth of the estimated error in HOLDOVER, ns per second: PTP_HOLDRATE.RATE (R132), 50,000 on the substitute clock (R434). -/
def holdRate (s : State) : Nat := if s.ptp.substitute then 50000 else fld (getReg s 0x120034) 15 0

/-- The estimated error now: in HOLDOVER it grows at RATE from the entry (R118). -/
def estErrNow (s : State) : Nat :=
  if s.ptp.st = .holdover then s.ptp.holdErr + (s.boot.now - s.ptp.holdAt) * holdRate s / 1000000000 else s.ptp.estErr

/-- PTP_STATE (R132). -/
def ptpStateWord (s : State) : Word :=
  pack [(s.ptp.st.code, 29), (s.ptp.src, 27), (s.ptp.port, 24), (min (estErrNow s) 0xFFFFFF, 0)]

/-! ### Life cycle -/

/-- The code of a life-cycle state (R379). -/
def Lc.code : Lc → Nat
  | .blank => 1 | .factoryTest => 2 | .sealed => 3 | .field => 4 | .ret => 5 | .scrap => 6 | .repair => 7 | .invalid => 0

/-- The module behaves as ZEROISED: after a tamper event, and always in LC_REPAIR (R365, R389). -/
def zeroisedNow (s : State) : Bool := s.tamper.zeroised || s.lc.st == .repair

/-- Every context gives NO_KEY: while the module is ZEROISED, and without a master key (R70, R175, R184). -/
def keylessNow (s : State) : Bool := zeroisedNow s || s.firn.kstate == .nommk

/-- GLB_LCSTATE (R394). -/
def lcStateWord (s : State) : Word :=
  pack [(s.lc.st.code, 28), (s.lc.target, 24), (bnat s.lc.testMode, 23), (bnat (s.lc.views != 0), 22)]

/-- The identity private key is available to the control cluster (R192, R199). -/
def LcSt.identity (x : LcSt) : Bool := x.idKey.isSome

/-- The device fingerprint, as DEVFP holds it; 0 before it is programmed (R193, R387). -/
def deviceFpr (s : State) : Nat := s.lc.devFp.getD 0

/-- A signature by the identity key over a digest with a random value (R187). -/
def identitySign (s : State) (digest rnd : Nat) : List Byte := beBytes 4627 (Config.mldsaSign (s.lc.idPub.getD 0) digest rnd)

/-! ### Moraine -/

/-- The severity of a record code; none for a code that the module never writes (R417). -/
def codeSev (c : Nat) : Option Nat :=
  match c with
  | 0x0001 => some 1 | 0x0002 => some 1 | 0x0003 => some 5 | 0x0010 => some 3 | 0x0011 => some 4 | 0x0012 => some 5
  | 0x0013 => some 5 | 0x0014 => some 2 | 0x0100 => some 2 | 0x0101 => some 3 | 0x0102 => some 3 | 0x0110 => some 2
  | 0x0111 => some 3 | 0x0112 => some 4 | 0x0200 => some 4 | 0x0201 => some 3 | 0x0202 => some 4 | 0x0203 => some 4
  | 0x0204 => some 4 | 0x0320 => some 3 | 0x0321 => some 3 | 0x0322 => some 3 | 0x0323 => some 3 | 0x0324 => some 3
  | 0x0325 => some 3 | 0x0326 => some 3 | 0x03A0 => some 3 | 0x03A1 => some 3 | 0x03A2 => some 3 | 0x03A3 => some 3
  | 0x0400 => some 2 | 0x0401 => some 5 | 0x0410 => some 3 | 0x0411 => some 5 | 0x0412 => some 5 | 0x0413 => some 3
  | 0x0414 => some 4 | 0x0420 => some 5 | 0x0421 => some 4 | 0x0422 => some 5 | 0x0423 => some 4 | 0x0500 => some 2
  | 0x0501 => some 4 | 0x0502 => some 4 | 0x0503 => some 1 | 0x0504 => some 3 | 0x0505 => some 3 | 0x0506 => some 3
  | 0x0510 => some 2 | 0x0511 => some 5 | 0x0512 => some 3 | 0x0600 => some 2 | 0x0601 => some 4 | 0x0602 => some 4
  | 0x0603 => some 4 | 0x0604 => some 5 | 0x0605 => some 3 | 0x0700 => some 7 | 0x0701 => some 4 | 0x0702 => some 6
  | 0x0703 => some 6 | 0x0704 => some 7 | 0x0705 => some 6 | 0x0710 => some 2 | 0x0711 => some 5
  | _ => none

/-- The recorder's mode: 0 NORMAL, 1 STARTUP, 2 TEST, 3 RECOVERY (R411). -/
def morMode (s : State) : Nat :=
  if s.boot.access == .closed then 1
  else if s.lc.st == .blank || s.lc.st == .factoryTest || s.lc.st == .ret || s.lc.st == .repair || s.lc.views != 0 then 2
  else if s.pair.recov || s.pool.restarting then 3
  else 0

/-- SOURCE (R407): block code and instance. -/
def srcOf (block inst : Nat) : Nat := block * 1024 + inst % 1024

/-- The bytes 0x00 to 0x3B of a record (R407, R476). -/
def MorRec.body (r : MorRec) : List Byte :=
  leBytes 4 r.seq ++ leBytes 8 r.time ++ leBytes 2 r.code ++ leBytes 2 r.source
    ++ [b8 (r.sev * 16 + r.clk * 4 + r.mode), 0] ++ leBytes 2 r.rep
    ++ ((List.range 7).map (fun i => r.payload.getD i 0)).flatMap (leBytes 4)
    ++ leBytes 4 r.boot ++ leBytes 4 0 ++ leBytes 4 r.chain

/-- The 64 bytes of a record, with its CRC (R407). -/
def MorRec.bytes (r : MorRec) : List Byte := r.body ++ leBytes 4 (crc32c r.body)

/-- The chain key CK of R408. -/
def chainKey : Nat := Config.kmac256 Config.deviceRootKey [77, 79, 82, 65, 73, 78, 69] 256 "KX5120 CK"

/-- CHAIN of the record that follows prev (R408): 0 where the device root key is absent or refused. -/
def chainOf (s : State) (prev : Option MorRec) : Nat :=
  if s.lc.rootKey && s.lc.st != .scrap then
    Config.kmac256 chainKey (match prev with | some r => r.bytes | none => List.replicate 64 0) 32 "KX5120 MOR" % 2 ^ 32
  else 0

/-- The newest record of the ring. -/
def MorSt.newest (m : MorSt) : Option MorRec := m.ring.getLast?

/-- The newest record closed (R411). -/
def MorSt.close (m : MorSt) : MorSt :=
  { m with ring := m.ring.dropLast ++ (match m.ring.getLast? with | some r => [{ r with isOpen := false }] | none => []) }

/-- Records of the ring not yet archived (R412). -/
def MorSt.unarchived (m : MorSt) : Nat := (m.ring.filter (fun r => !r.archived)).length

/-- The oldest record that meets a test removed from the ring; none when no record meets it. -/
def ringDrop (p : MorRec → Bool) (ring : List MorRec) : Option (List MorRec) := (takeFirst p ring).map (·.2)

/-- A ring slot for a record of severity sev (R412): a slot whose record is archived, or that of the oldest unarchived record of
equal or lower severity; the flag says that such a record was overwritten. -/
def MorSt.room (m : MorSt) (sev : Nat) : Option (MorSt × Bool) :=
  if m.ring.length < 4096 then some (m, false)
  else match ringDrop (fun r => r.archived) m.ring with
    | some ring => some ({ m with ring := ring }, false)
    | none =>
      match ringDrop (fun r => decide (r.sev ≤ sev) && !r.isOpen) m.ring with
      | some ring => some ({ m with ring := ring }, true)
      | none => none

/-- The SEQ that follows, with the reservation raised when it must be (R409). -/
def MorSt.nextSeq (m : MorSt) : Nat × MorSt :=
  let q := (m.seq + 1) % 2 ^ 32
  (q, if (q + 2 ^ 32 - m.seqRes % 2 ^ 32 + 1024) % 2 ^ 32 < 2 ^ 31 then { m with seqRes := (m.seqRes + 65536) % 2 ^ 32 } else m)

/-- Records a record: SEQ, chain, ring slot, events (R407 to R412). -/
def morWrite (s : State) (code source sev rep : Nat) (payload : List Nat) : State :=
  let prev := match s.mor.close.newest with | some r => some r | none => s.mor.archive.getLast?
  match s.mor.room sev with
  | none => setEvt (incReg s (regAddr 0x100 (0x40 + 4 * sev))) 0x100 1
  | some (m, overwritten) =>
    let (q, m) := m.close.nextSeq
    let r : MorRec :=
      { seq := q, time := ptpNow s, code := code, source := source, sev := sev, clk := s.ptp.st.code % 4, mode := morMode s,
        rep := min rep 0xFFFF, payload := payload, boot := s.boot.bootCnt, chain := chainOf s prev,
        isOpen := decide (sev < 6) && morMode s != 0, archived := false }
    let s := { s with mor := { m with ring := m.ring ++ [r], seq := q, fresh := false } }
    let s := if overwritten then setEvt (incReg s (regAddr 0x100 0x38)) 0x100 2 else s
    if fld (cfgOrSafe s 0x100 0x3C) 2 0 ≤ sev then setEvt s 0x100 0 else s

/-- The highest archived SEQ, 0 when no record has ever been archived (R409). -/
def MorSt.archHead (m : MorSt) : Nat := match m.archive.getLast? with | some r => r.seq | none => 0

/-- The serially larger of two SEQ values (R409). -/
def serialMax (a b : Nat) : Nat := if (a + 2 ^ 32 - b) % 2 ^ 32 < 2 ^ 31 then a else b

/-- LOG_BOOT, the first record of a boot (R409): its SEQ is one above the serially larger of SEQRES and the highest archived
SEQ plus 4,096. -/
def logBoot (s : State) : State :=
  let m := s.mor
  let base := serialMax m.seqRes ((m.archHead + 4096) % 2 ^ 32)
  let w := [m.archHead, m.seqRes, s.lc.lcw % 2 ^ 32, s.boot.slot, bnat (!s.boot.batteryOk)]
  morWrite { s with mor := { m with seq := base, ring := [], fresh := false } } 0x0001 (srcOf 0xF 0) 1 0 w

/-- The bucket of a code (R411). -/
def getBucket (s : State) (code : Nat) : Bucket := smapGet (fun _ => Bucket.full) s.mor.buckets code

def setBucket (s : State) (code : Nat) (b : Bucket) : State :=
  { s with mor := { s.mor with buckets := smapSet (fun _ => Bucket.full) s.mor.buckets code b } }

/-- The handling of a record of severity 0 to 5 in each mode (R411). -/
def morHandle (s : State) (code source sev : Nat) (payload : List Nat) : State :=
  if 6 ≤ sev then morWrite s code source sev 0 payload
  else if morMode s = 0 then
    let b := getBucket s code
    if b.tokens = 0 ∨ b.rate = 0 then
      setEvt (incReg (setBucket s code { b with supp := b.supp + 1 }) (regAddr 0x100 0x34)) 0x100 4
    else morWrite (setBucket s code { b with tokens := b.tokens - 1, supp := 0 }) code source sev b.supp payload
  else match s.mor.newest with
    | some r =>
      if r.isOpen && r.code == code && r.source == source && decide (r.rep < 0xFFFF) then
        { s with mor := { s.mor with ring := s.mor.ring.dropLast ++ [{ r with rep := r.rep + 1 }] } }
      else morWrite s code source sev 0 payload
    | none => morWrite s code source sev 0 payload

/-- A change of the recorder's mode closes the newest record and writes LOG_MODE (R411). -/
def morSync (s : State) : State :=
  let m := morMode s
  if m = s.mor.mode then s
  else morHandle { s with mor := { s.mor.close with mode := m } } 0x0002 (srcOf 0xF 0) 1 [s.mor.mode, m]

/-- A record offered by a block (R410, R411): code, block, instance and payload words. The first record of a boot is LOG_BOOT
(R409). A code that R417 does not list is never written. -/
def record (s : State) (code block inst : Nat) (payload : List Nat) : State :=
  match codeSev code with
  | none => s
  | some sev =>
    let s := if s.mor.fresh then logBoot s else s
    morHandle (morSync s) code (srcOf block inst) sev payload

/-- The low and high words of a 64-bit item (R476). -/
def words64 (x : Nat) : List Nat := [x % 2 ^ 32, x / 2 ^ 32 % 2 ^ 32]

end Sys2Proof.Machine
end

