-- ==== Sys2Proof/Machine/RegAccess.lean ====
section
/-! DEFINITION. Machine/RegAccess.lean: which BAR0 accesses are carried out and which are refused, with their cause (R16, R33 to
R39, R46, R47, R53, R422, R425), and the clear by sequence number (R43). -/
namespace Sys2Proof.Machine

/-- The power domain that a page lies in is on (R39). -/
def pageOn (s : State) (p : Nat) : Bool :=
  match pageBlock p with
  | some (0x2, _, n) => bit s.pwc.port n
  | some (0x4, n, _) => bit s.pwc.pil n
  | some (0x5, n, _) => bit s.pwc.lane n
  | some (0x7, _, _) => s.pwc.ltu
  | some (0x8, _, _) => s.pwc.liu
  | some (0x10, _, _) => s.pwc.stn
  | some _ => true
  | none => false

/-- The page is open to the party at this stage of start-up: to the manager GLB page 0 and TMP page 0 until host access opens
(R422), these and GLB page 1 in the start-up hold (R425); to the control cluster every page (log entry 12). -/
def pageOpen (s : State) (by_ : Party) (p : Nat) : Bool :=
  match by_, s.boot.access with
  | .cc, _ => true
  | .manager, .full => true
  | .manager, .holdPages => p == 0 || p == 1 || p == 0xE0
  | .manager, .closed => p == 0 || p == 0xE0

/-- The causes of R53 that do not look at the value: SIZE_ALIGN, UNASSIGNED, NO_REACH, DOMAIN_OFF; 0 where none applies. -/
def accessCause (s : State) (by_ : Party) (size addr : Nat) : Nat :=
  if size ≠ 4 ∨ addr % 4 ≠ 0 then 6
  else if (pageBlock (addr / 0x1000)).isNone then 5
  else if by_ = .manager ∧ managerReaches (addr / 0x1000) = false then 4
  else if pageOpen s by_ (addr / 0x1000) = false ∨ pageOn s (addr / 0x1000) = false then 7
  else 0

/-- GLB_WERR of an access (R53). -/
def werrWord (by_ : Party) (rd : Bool) (addr cause : Nat) : Word :=
  pack [(cause, 28), (bnat rd, 27), (bnat (by_ == .cc), 26), (bits addr 23 2, 2)]

/-- A refused access (R53): WREFUSED of an existing page, GLB_WERRCNT, GLB_WERR while WERRCAP is 0, WRITE_REFUSED record. -/
def refuseAccess (s : State) (by_ : Party) (rd : Bool) (addr cause : Nat) : State :=
  let p := addr / 0x1000
  let w := werrWord by_ rd addr cause
  let s := if (pageBlock p).isSome then setEvt s p 22 else s
  let s := incReg s 0x24
  let s := if bit (getPage s 0).stat 0 then s else setEvt (setReg s 0x20 w) 0 0
  match pageBlock p with
  | some (c, n, i) => record s 0x0010 c (if c = 4 ∨ c = 5 then n else i) [w.toNat]
  | none => record s 0x0010 0x1 0x3FF [w.toNat]

/-- The armed state of a page for a party (R47). -/
def PageSt.armed (g : PageSt) : Party → Bool
  | .manager => g.armedM
  | .cc => g.armedC

/-- The armed state of a page for a party set or cleared (R46, R47). -/
def PageSt.setArmed (g : PageSt) (by_ : Party) (b : Bool) : PageSt :=
  match by_ with
  | .manager => { g with armedM := b }
  | .cc => { g with armedC := b }

/-- BLK_CTRL of a page (R52). -/
def PageSt.ctrl (g : PageSt) : Word := pack [(bnat g.irqEn, 2), (bnat g.safeEn, 1), (bnat g.hold, 0)]

/-- What the fields that carry LK hold now, for the exception of R46. -/
def lkPresent (s : State) (p o : Nat) : Word :=
  if o = 0x18 then (getPage s p).cfgRef
  else if o = 0x1C then (getPage s p).ctrl
  else match pageBlock p with
    | some (0x5, n, _) => if o = 0x20 ∧ (smapGet (fun _ => LaneSt.init) s.lanes n).stCtrl then getReg s (regAddr p o) ||| 2 else getReg s (regAddr p o)
    | _ => getReg s (regAddr p o)

/-- The sum of the 16 PIL_ADMLIM values, with that of one pillow replaced (R96, R281). -/
def admSum (s : State) (n : Nat) (v : Option Nat) : Nat :=
  (List.range 16).foldl
    (fun a i => a + (match v with
      | some x => if i = n then x else (getReg s (regAddr (0x40 + i) 0x100)).toNat
      | none => (getReg s (regAddr (0x40 + i) 0x100)).toNat)) 0

/-- PBP_CFG with a reserved value (R98, R131). -/
def pbpCfgBad (v : Word) : Bool :=
  decide (4 < fld v 2 0) || decide (1 < fld v 5 4) || (fld v 5 4 == 1 && fld v 2 0 != 1) || (fld v 3 3 == 1 && fld v 2 0 != 3)

/-- PBP_PAIRCFG refused (R106, R131): DUPAGE out of range, or a mode that its ports do not allow; n is the lower port. -/
def pairCfgBad (s : State) (n : Nat) (v : Word) : Bool :=
  let seg := fun i => fld (getReg s (regAddr 0x20 0x20)) (2 * i + 1) (2 * i)
  let spd := fun i => fld (getReg s (regAddr (0x10 + i) 0x20)) 2 0
  let mode := fld v 1 0
  fld v 27 16 == 0 || decide (4000 < fld v 27 16)
    || ((mode == 1 || mode == 2) && (seg n != seg (n + 1) || spd n != spd (n + 1)))
    || (mode == 3 && (spd n == 0 || spd (n + 1) == 0))

/-- PWC_REQ with a reserved value, or written while a request is in progress (R439). -/
def pwcReqBad (s : State) (v : Word) : Bool :=
  let op := fld v 31 28
  let g := fld v 27 24
  let i := fld v 9 0
  s.pwc.busy || op == 0 || decide (4 < op)
    || (if op ≤ 2 then
          g == 0 || decide (5 < g) || (g == 1 && decide (512 ≤ i)) || (g == 2 && decide (16 ≤ i)) || (g == 3 && decide (32 ≤ i))
            || (g == 4 && decide (4 ≤ i)) || (g == 5 && i != 0)
        else g != 0 || i != 0)

/-- RNG_TEST refused (R405, R406). -/
def rngTestBad (s : State) (v : Word) : Bool :=
  let mode := fld v 5 4
  mode == 3 || (mode != 1 && fld v 2 0 != 0)
    || (mode != 0 && !(s.lc.st == .blank || s.lc.st == .factoryTest || s.lc.st == .ret))

/-- GLB_RCVCTRL refused: GO = 1 in any condition other than that of R426. -/
def rcvGoBad (s : State) (v : Word) : Bool :=
  fld v 0 0 == 1 && !(s.boot.phase == .hold && s.boot.cause == 1 && s.boot.rcvStatus != 1)

/-- An SLM page 0 register refused (R324, R328). -/
def slmBad (s : State) (o : Nat) (v : Word) : Bool :=
  if o = 0x30 then decide (v.toNat < 128) || decide (2048 < v.toNat) || v.toNat % 64 != 0
  else if 0x40 ≤ o ∧ o ≤ 0x8C then
    let size := getReg s (regAddr 0xC0 (o / 0x10 * 0x10 + 8))
    match o % 0x10 with
    | 0 => fld size 31 31 == 1
    | 4 => fld size 31 31 == 1
    | 8 => decide (fld v 4 0 < 6) || decide (16 < fld v 4 0) || (fld size 31 31 == 1 && fld v 4 0 != fld size 4 0)
    | _ => false
  else false

/-- An MBX page 0 register refused (R324). -/
def mbxBad (s : State) (o : Nat) (v : Word) : Bool :=
  let ctrl := getReg s (regAddr 0x140 0x30)
  if o = 0x20 ∨ o = 0x24 ∨ o = 0x28 ∨ o = 0x2C then fld ctrl 31 31 == 1
  else if o = 0x30 then
    decide (fld v 3 0 < 4) || decide (8 < fld v 3 0) || (fld ctrl 31 31 == 1 && fld v 3 0 != fld ctrl 3 0)
  else false

/-- FWL_RCTL: ALLOW belongs to rules 0 to 63 only (R303). DESIGN CHOICE (log entry 136): for the rules 64 to 255 the value is
refused at its write and not only at the commit that R301 has check it. -/
def rctlBad (s : State) (v : Word) : Bool :=
  fld v 29 29 == 1 && decide (64 ≤ fld (getReg s (regAddr 0xB1 0x20)) 7 0)

/-- FWL_COMMIT refused (R301): an enabled shadow rule has LIMIT below BASE, or a manager rule carries ALLOW. -/
def fwlCommitBad (s : State) : Bool :=
  s.fwl.shadow.any (fun e => fld e.2.ctl 31 31 == 1
    && (decide (fld e.2.lim 29 0 < fld e.2.base 29 0) || (decide (64 ≤ e.1) && fld e.2.ctl 29 29 == 1)))

/-- A context with PHASOR or HARM set exists, so that PTP_NOMFREQ cannot change (R221). -/
def cycleCtx (s : State) : Bool :=
  s.ctxs.any (fun e => match e.2 with | some c => fld (c.words.getD 17 0) 12 11 != 0 | none => false)

/-- A value that R16 refuses with cause RSVD_VALUE, by the rules of each register. -/
def rsvdValue (s : State) (p o : Nat) (v : Word) : Bool :=
  match pageBlock p with
  | some (0x1, _, 1) =>
    if o = 0x28 then decide (v.toNat < 8193) || decide (67117056 < v.toNat) else if o = 0x2C then rcvGoBad s v else false
  | some (0x2, _, n) => if o = 0x20 then pbpCfgBad v else if o = 0x24 then pairCfgBad s n v else false
  | some (0x3, _, _) => o == 0x24 && (List.range 4).any (fun i => fld v (2 * i + 1) (2 * i) == 3)
  | some (0x4, n, _) =>
    if o = 0x28 then fld v 15 8 == 0 || decide (100 < fld v 15 8) || (decide (1 ≤ fld v 7 4) && decide (fld v 7 4 ≤ 3))
    else if o = 0x2C then decide (v.toNat < 4096)
    else if o = 0x100 then
      decide (131072 < admSum s n (some v.toNat) + (getReg s (regAddr 0xA0 0x20)).toNat)
        || decide (v.toNat < (getReg s (regAddr p 0x104)).toNat)
    else if o = 0x104 then decide ((getReg s (regAddr p 0x100)).toNat < v.toNat)
    else o == 0x108 && v == 0
  | some (0x5, n, _) =>
    o == 0x20 && fld v 1 1 == 1 &&
      ((smapGet (fun _ => LaneSt.init) s.lanes n).st == .off || (smapGet (fun _ => LaneSt.init) s.lanes n).st == .aborted)
  | some (0x9, _, 0) =>
    o == 0x20 && (decide (v.toNat < 1024) || decide (16384 < v.toNat) || decide (131072 < admSum s 0 none + v.toNat))
  | some (0x9, _, _) => o == 0x20 && decide (0xC00 ≤ v.toNat)
  | some (0xA, _, 0) => o == 0x34 && v != 1
  | some (0xA, _, _) => if o = 0x34 then v != 1 || fwlCommitBad s else o == 0x30 && rctlBad s v
  | some (0xB, _, 0) => slmBad s o v
  | some (0xE, _, _) => o == 0x3C && rngTestBad s v
  | some (0x10, _, _) =>
    if o = 0x20 then (List.range 8).any (fun i => fld v (2 * i + 1) (2 * i) == 3) else o == 0x3C && v != 1
  | some (0x11, _, 0) =>
    if o = 0x34 then fld v 31 16 == 0 || fld v 15 0 == 0
    else if o = 0x38 then fld v 31 16 != 0 && (decide (fld v 31 16 < 2000) || decide (2099 < fld v 31 16))
    else if o = 0x3C then fld v 15 0 == 0 || decide (20000 < fld v 15 0)
    else o == 0x44 && v != getReg s (regAddr p 0x44) && cycleCtx s
  | some (0x12, _, 0) => o == 0x24 && pwcReqBad s v
  | some (0x13, _, 0) => mbxBad s o v
  | _ => false

/-- The cause that refuses a write, 0 where it is carried out: the first of R53 that applies. A write to a register that is RO
as a whole is discarded and never refused for its value (R14, R53, log entry 13). -/
def writeCause (s : State) (by_ : Party) (size addr : Nat) (v : Word) : Nat :=
  let a := accessCause s by_ size addr
  if a ≠ 0 then a
  else
    let p := addr / 0x1000
    let o := addr % 0x1000
    match regDesc p o with
    | none => if v = 0 then 0 else 1
    | some d =>
      if d.rw = 0 then 0
      else if Nat.land v.toNat (allBits - d.defd) ≠ 0 then 1
      else if rsvdValue s p o v then 2
      else if Nat.land v.toNat d.lk ≠ Nat.land (lkPresent s p o).toNat d.lk ∧ ((getPage s p).armed by_) = false then 3
      else 0

/-- A write to BAR0 with the effect it has when carried out. Every write that reaches its page, but for one of the key to
BLK_UNLK, consumes the writer's arming (R46, R47). -/
def barWrite (s : State) (by_ : Party) (size addr : Nat) (v : Word) (effect : State → State) : State :=
  let c := writeCause s by_ size addr v
  if 4 ≤ c then refuseAccess s by_ false addr c
  else
    let p := addr / 0x1000
    let s := if addr % 0x1000 = 0x10 ∧ v = 0x9E3721D4#32 then s else modPage s p (fun g => g.setArmed by_ false)
    if c ≠ 0 then refuseAccess s by_ false addr c
    else match regDesc p (addr % 0x1000) with
      | none => s
      | some d => if d.rw = 0 then s else effect s

/-- A read of a word that has an effect: refused under R53, or the effect. -/
def barRead (s : State) (by_ : Party) (addr : Nat) (effect : State → State) : State :=
  let c := accessCause s by_ 4 addr
  if c ≠ 0 then refuseAccess s by_ true addr c else effect s

/-- A register stored under its RW mask. -/
def storeReg (s : State) (addr : Nat) (v : Word) : State :=
  match regDesc (addr / 0x1000) (addr % 0x1000) with
  | some d => setReg s addr (v &&& w32 d.rw)
  | none => s

/-- The bits of a mask that a matching BLK_STCLR clears: set SQ bits, but no state bit whose condition lasts (R42, R43). -/
def clearMask (g : PageSt) (m : Nat) : Nat := Nat.land (Nat.land m g.stat) (0xFFFFFF - Nat.land g.cond 0xFFFFFF)

/-- BLK_STCLR: with the SEQ of BLK_STAT, clears the SQ bits of the mask and lowers the page's interrupt (R43, R45). A
successful clear of CFGERR in the safe state lets the next matching pass release the block (R51). SAFE is no SQ bit. -/
def PageSt.clear (g : PageSt) (v : Word) : PageSt :=
  if fld v 31 24 = g.seq then
    let m := Nat.land (clearMask g (fld v 23 0)) (0xFFFFFF - 2 ^ 21)
    { g with stat := g.stat - m, irq := false, leaving := g.leaving || (bit m 23 && bit g.stat 21) }
  else g

end Sys2Proof.Machine
end

