-- ==== Sys2Proof/Machine/HostOps.lean ====
section
/-! DEFINITION. Machine/HostOps.lean: writes for slices, completion queues, notices, manager rings and mailbox completions (R305 to
R324). -/
namespace Sys2Proof.Machine

def getSlice (s : State) (i : Nat) : Slice := smapGet (fun _ => Slice.free) s.slices i

def setSlice (s : State) (i : Nat) (x : Slice) : State := { s with slices := smapSet (fun _ => Slice.free) s.slices i x }

def modSlice (s : State) (i : Nat) (f : Slice → Slice) : State := setSlice s i (f (getSlice s i))

/-- DBERR of SLM BLK_STAT follows its condition: some slice's DBERR is set (R329, R42). -/
def slmDbErr (s : State) : State := condSet s 0xC0 3 (s.slices.any (fun e => e.2.dbErr))

/-- Pages of the logged window that a write of n bytes at an address touches; none when a byte lies outside (R321). -/
def dirtyPages (x : Slice) (addr n : Nat) : Option (List Nat) :=
  if n = 0 then some []
  else
    let first := addr / 4096
    let last := (addr + n - 1) / 4096
    let base := x.logBase / 4096
    if base ≤ first ∧ last < base + x.logPages then some ((List.range (last + 1 - first)).map (fun i => first - base + i))
    else none

/-- A write marked in the dirty shadow of a slice that logs (R321). -/
def Slice.mark (x : Slice) (addr n : Nat) : Slice :=
  if x.log then
    match dirtyPages x addr n with
    | some ps => { x with dirty := x.dirty ++ ps.filter (fun p => !x.dirty.contains p) }
    | none => { x with outside := true }
  else x

/-- Bytes written into the address space of a slice (R305, R321). -/
def sliceWrite (s : State) (i addr : Nat) (bs : List Byte) : State :=
  let x := getSlice s i
  setSlice (writeBytes s (hostKey x.pasid addr) bs) i (x.mark addr bs.length)

/-- Bytes written without a PASID (R305). -/
def managerWrite (s : State) (addr : Nat) (bs : List Byte) : State := writeBytes s (hostKey 0 addr) bs

/-- The four words of a completion queue entry (R316). -/
def cqEntry (ts : Nat) (phase : Bool) (kind port ctx id code aux : Nat) : List Byte :=
  leBytes 8 ts
    ++ leBytes 4 (bnat phase * 2 ^ 31 + kind % 8 * 2 ^ 28 + port % 4 * 2 ^ 26 + ctx % 2 ^ 18)
    ++ leBytes 4 (id % 2 ^ 16 * 2 ^ 16 + code % 256 * 256 + aux % 256)

/-- Completion entries written and not yet consumed. -/
def Slice.cqUsed (x : Slice) : Nat := (x.cqTail + 2 ^ x.cqLog - x.cqHead) % 2 ^ x.cqLog

/-- Completion entries that can still be reserved (R314, R316). -/
def Slice.cqFree (x : Slice) : Nat := 2 ^ x.cqLog - 1 - x.cqUsed - x.cqResv

/-- Receive buffers posted and not yet taken. -/
def Slice.rxPosted (x : Slice) : Nat := (x.rxTail + 2 ^ x.rxLog - x.rxHead) % 2 ^ x.rxLog

/-- Transmit descriptors posted and not yet fetched. -/
def Slice.txPosted (x : Slice) : Nat := (x.txTail + 2 ^ x.txLog - x.txHead) % 2 ^ x.txLog

/-- The interrupt rule of R319 after an entry is written: vector 32 + s, now or once IRQDELAY is up. -/
def sliceIrq (s : State) (i : Nat) : State :=
  let x := getSlice s i
  if x.armed then
    if (match x.lastMsg with | some t => decide (t + x.irqDelay * 1000 ≤ s.boot.now) | none => true) then
      sendMsix (setSlice s i { x with armed := false, irqDue := false, lastMsg := some s.boot.now }) (32 + i)
    else setSlice s i { x with irqDue := true }
  else s

/-- One completion entry written to a slice's queue (R316); the caller has reserved it or checked that one is free. -/
def cqWrite (s : State) (i ts kind port ctx id code aux : Nat) : State :=
  let x := getSlice s i
  let s := sliceWrite s i (x.cqBase + 16 * x.cqTail) (cqEntry ts x.phase kind port ctx id code aux)
  let t := (x.cqTail + 1) % 2 ^ x.cqLog
  let s := modSlice s i (fun x => { x with cqTail := t, phase := if t = 0 then !x.phase else x.phase })
  sliceIrq s i

/-- A reserved completion entry written (R316). -/
def cqWriteReserved (s : State) (i ts kind port ctx id code aux : Nat) : State :=
  cqWrite (modSlice s i (fun x => { x with cqResv := x.cqResv - 1 })) i ts kind port ctx id code aux

/-- The module writes for the slice: it is ACTIVE or drains, and its rings are known (R308). -/
def Slice.writes (x : Slice) : Bool := x.rings && (x.st == .active || x.st == .quiescing)

/-- A notice to a slice (R317): without a free entry it is lost and sets NOTICELOST. -/
def notice (s : State) (i ctx code id : Nat) : State :=
  let x := getSlice s i
  if x.st == .free then s
  else if x.writes && decide (0 < x.cqFree) then cqWrite s i (ptpNow s) 2 0 ctx id code 0
  else setSlice s i { x with noticeLost := true }

/-- A frame of a slice that is not delivered (SLS_RXDROP), with the RX_DROP notice of the first drop in any 1 ms (R317). -/
def rxDrop (s : State) (i ctx : Nat) : State :=
  let x := getSlice s i
  if x.st == .free then s
  else if x.dropCount ≠ 0 ∧ s.boot.now < x.dropMs + 1000000 then
    setSlice s i { x with rxDrop := satInc x.rxDrop, dropCount := min (x.dropCount + 1) 0xFFFF }
  else notice (setSlice s i { x with rxDrop := satInc x.rxDrop, dropMs := s.boot.now, dropCount := 1 }) i ctx 0x05 1

/-- A descriptor of a slice that ends without sending (SLS_TXDROP). -/
def txDrop (s : State) (i : Nat) : State := modSlice s i (fun x => { x with txDrop := satInc x.txDrop })

/-! ### Manager rings (R323) -/

def getMring (s : State) (n : Nat) : RingIx := smapGet (fun _ => ⟨0, true⟩) s.hostIf.mring n

def setMring (s : State) (n : Nat) (r : RingIx) : State :=
  { s with hostIf := { s.hostIf with mring := smapSet (fun _ => ⟨0, true⟩) s.hostIf.mring n r } }

/-- SLM_MRSIZE_n and SLM_MRIDX_n. -/
def mrSize (s : State) (n : Nat) : Word := getReg s (regAddr 0xC0 (0x48 + 0x10 * n))
def mrIdx (s : State) (n : Nat) : Nat := fld (getReg s (regAddr 0xC0 (0x4C + 0x10 * n))) 15 0
def mrLog (s : State) (n : Nat) : Nat := fld (mrSize s n) 4 0
def mrBase (s : State) (n : Nat) : Nat :=
  (getReg s (regAddr 0xC0 (0x40 + 0x10 * n))).toNat + 2 ^ 32 * (getReg s (regAddr 0xC0 (0x44 + 0x10 * n))).toNat

/-- A manager ring runs: EN, no error stop, no safe state of SLM (R320, R328, R329). -/
def mrRuns (s : State) (n : Nat) : Bool := fld (mrSize s n) 31 31 == 1 && !bit s.hostIf.mgrStop n && !pageSafe s 0xC0

/-- Entries that ring n offers the module: posted by the manager on rings 0 to 3, free on ring 4. -/
def mrAvail (s : State) (n : Nat) : Nat :=
  let size := 2 ^ mrLog s n
  if n = 4 then size - 1 - ((getMring s 4).ix + size - mrIdx s 4) % size
  else (mrIdx s n + size - (getMring s n).ix) % size

/-- The module's index of a ring advanced by one. -/
def mrAdvance (s : State) (n : Nat) : State :=
  let r := getMring s n
  let t := (r.ix + 1) % 2 ^ mrLog s n
  setMring s n ⟨t, if t = 0 then !r.phase else r.phase⟩

/-- Vector 0 for the manager's completion queue, armed through SLM_MRIDX_4 (R328). -/
def managerIrq (s : State) : State :=
  if s.hostIf.mgrArmed then sendMsix { s with hostIf := { s.hostIf with mgrArmed := false } } 0 else s

/-- An entry written to the manager completion queue (R316, R323); nothing where ring 4 has no free entry or does not run. -/
def mgrCq (s : State) (ts kind port ctx id code aux : Nat) : State :=
  if mrRuns s 4 && decide (0 < mrAvail s 4) then
    let r := getMring s 4
    let s := managerWrite s (mrBase s 4 + 16 * r.ix) (cqEntry ts r.phase kind port ctx id code aux)
    managerIrq (mrAdvance s 4)
  else s

/-- What the read of a receive buffer descriptor returned: address and BUFID (R314). Host memory is the host's, so they are open
values (log entry 8). -/
def readBuffer (s : State) : (Nat × Nat) × State :=
  let (a, s) := draw s
  let (b, s) := draw s
  ((8 * (a % 2 ^ 61), b % 2 ^ 16), s)

/-- A frame delivered into a buffer of manager ring 0 (with a head word, verdict UNAUTH) or ring 1 (without), R323. The buffer's
address and BUFID come from its descriptor. A frame that finds no buffer, no entry or
too small a buffer is dropped. -/
def managerDeliver (s : State) (ring port ts : Nat) (bs : List Byte) : State :=
  let head := if ring = 0 then 8 else 0
  if mrRuns s ring && decide (0 < mrAvail s ring) && mrRuns s 4 && decide (0 < mrAvail s 4)
      && decide (bs.length + head ≤ (getReg s (regAddr 0xC0 0x30)).toNat) then
    let (d, s) := readBuffer s
    let (addr, bufId) := d
    let s := mrAdvance s ring
    let s := managerWrite s (addr + head) bs
    let s := if ring = 0 then
        managerWrite s addr (leBytes 8 (2 ^ 63 + bs.length * 2 ^ 48 + 0x10 * 2 ^ 40 + ts % 2 ^ 32)) else s
    mgrCq s ts 0 port ring bufId (if ring = 0 then 0x10 else 0) 0
  else s

/-! ### Mailbox (R324) -/

def mbxCtrl (s : State) : Word := getReg s (regAddr 0x140 0x30)
def mbxSize (s : State) : Nat := 2 ^ fld (mbxCtrl s) 3 0

/-- The control cluster reads commands: EN, a slot waits, host access is open, the PCIe function is up (R324, R422). -/
def mbxReady (s : State) : Bool :=
  fld (mbxCtrl s) 31 31 == 1 && s.boot.access == .full && s.pwc.pcie && !s.hostIf.perst && !s.boot.ccDead
    && s.hostIf.crHead != fld (getReg s (regAddr 0x140 0x34)) 7 0

/-- The slot at MBX_CRHEAD taken. -/
def mbxTake (s : State) : State :=
  { s with hostIf := { s.hostIf with crHead := (s.hostIf.crHead + 1) % mbxSize s } }

/-- The bytes of a mailbox completion entry (R324). -/
def mbxEntry (d : MbxDone) (phase : Bool) : List Byte :=
  leBytes 2 d.slot.tag ++ [b8 d.code, b8 d.status] ++ leBytes 4 d.resLen ++ leBytes 4 d.result ++ leBytes 4 (bnat phase * 2 ^ 31)

/-- The slot of a command whose completion is discarded (R307): a TAG that no slot of the ring has. -/
def discardSlot (sl : Slot) : Slot := { sl with tag := 2 ^ 16 }

/-- A mailbox completion posted, with vector 0 when MBX_CCHEAD.ARM is set (R324, R306). Without EN, and for a
command whose completion R307 discards, nothing is written. -/
def mbxPost (s : State) (d : MbxDone) : State :=
  if fld (mbxCtrl s) 31 31 = 1 ∧ d.slot.tag < 2 ^ 16 then
    let base := (getReg s (regAddr 0x140 0x28)).toNat + 2 ^ 32 * (getReg s (regAddr 0x140 0x2C)).toNat
    let s := managerWrite s (base + 16 * s.hostIf.ccTail) (mbxEntry d s.hostIf.ccPhase)
    let t := (s.hostIf.ccTail + 1) % mbxSize s
    let s := { s with hostIf := { s.hostIf with ccTail := t, ccPhase := if t = 0 then !s.hostIf.ccPhase else s.hostIf.ccPhase } }
    if s.hostIf.mbxArmed then sendMsix { s with hostIf := { s.hostIf with mbxArmed := false } } 0 else s
  else s

/-- How a mailbox command ends: its status, RESULT, the bytes for RADDR, the durable changes it waits for (none: it completes at
once), and whether a later event completes it instead. -/
structure MbxRes where
  status : Nat
  result : Nat
  bytes : List Byte
  items : List JItem
  waits : Bool
  removed : Option (Nat × Nat)
  deriving DecidableEq, Repr

/-- A command refused with a status. -/
def MbxRes.refuse (st : Nat) (result : Nat := 0) : MbxRes := ⟨st, result, [], [], false, none⟩

/-- A command done at once. -/
def MbxRes.ok (result : Nat := 0) (bytes : List Byte := []) : MbxRes := ⟨0, result, bytes, [], false, none⟩

/-- A command done once its changes are durable (R172). -/
def MbxRes.durable (items : List JItem) (result : Nat := 0) (bytes : List Byte := []) : MbxRes := ⟨0, result, bytes, items, false, none⟩

/-- A command that a later event completes. -/
def MbxRes.later : MbxRes := ⟨0, 0, [], [], true, none⟩

/-- The end of a command: its result bytes, as many as RLEN holds, then its completion, now or with its journal record. -/
def mbxFinish (s : State) (sl : Slot) (code : Nat) (r : MbxRes) : State :=
  if r.waits then s
  else
    let bs := r.bytes.take sl.rlen
    let s := if bs.isEmpty || decide (2 ^ 16 ≤ sl.tag) then s else managerWrite s sl.raddr bs
    let d : MbxDone := ⟨sl, code, r.status, bs.length, r.result⟩
    if r.items.isEmpty then mbxPost s d
    else { s with journal := s.journal ++ [⟨r.items, some d, r.removed, 0, 0⟩] }

/-- The status that bars a command in the present life-cycle state (R379, R389): key commands outside SEALED and FIELD and pair commands in
LC_REPAIR end with STATE, since their families list no LC_STATE. -/
def lcBar (s : State) (code : Nat) : Option Nat :=
  if code / 16 = 4 ∧ s.lc.st ≠ .sealed ∧ s.lc.st ≠ .field then some 2
  else if code / 16 = 7 ∧ s.lc.st = .repair then some 2
  else none

/-- A mailbox command: without a waiting slot nothing happens (log entry 1); in the low-power hold a command that is no status
command ends with its family's STATE or LC_STATE status (R438). -/
def mbxRun (s : State) (sl : Slot) (code : Nat) (lpStatus : Option Nat) (body : State → State × MbxRes) : State :=
  if mbxReady s then
    let s := mbxTake s
    match s.pwc.lpHold, lpStatus, lcBar s code with
    | true, some st, _ => mbxFinish s sl code (MbxRes.refuse st)
    | _, _, some st => mbxFinish s sl code (MbxRes.refuse st)
    | _, _, none => let r := body s; mbxFinish r.1 sl code r.2
  else s

end Sys2Proof.Machine
end

