-- ==== Sys2Proof/Machine/CtxOps.lean ====
section
/-! DEFINITION. Machine/CtxOps.lean: stream contexts: their words and fields (R59), the lookup table (R54 to R57), key commits (R69,
R90, R170), changes at a frame boundary (R61), blob references (R161) and the journal (R172). -/
namespace Sys2Proof.Machine

def getCtx (s : State) (i : Nat) : Option Ctx := smapGet (fun _ => none) s.ctxs i

def setCtx (s : State) (i : Nat) (c : Option Ctx) : State := { s with ctxs := smapSet (fun _ => none) s.ctxs i c }

/-- A context changed by a function; nothing where there is none. -/
def modCtx (s : State) (i : Nat) (f : Ctx → Ctx) : State :=
  match getCtx s i with
  | some c => setCtx s i (some (f c))
  | none => s

/-- The context word at a byte offset (R59). -/
def Ctx.word (c : Ctx) (off : Nat) : Word := c.words.getD (off / 4) 0

def Ctx.setWord (c : Ctx) (off : Nat) (v : Word) : Ctx := { c with words := setAt c.words (off / 4) v }

/-! ### Fields of CTX_CTRL and its neighbours (R59) -/

def Ctx.kind (c : Ctx) : Nat := fld (c.word 0) 30 28
/-- DIR = 1: a publisher. -/
def Ctx.pubDir (c : Ctx) : Bool := fld (c.word 0) 27 27 == 1
def Ctx.hold (c : Ctx) : Bool := fld (c.word 0) 26 26 == 1
def Ctx.alg (c : Ctx) : Nat := fld (c.word 0) 25 23
def Ctx.policy (c : Ctx) : Nat := fld (c.word 0) 22 21
def Ctx.failPol (c : Ctx) : Bool := fld (c.word 0) 20 20 == 1
def Ctx.enforce (c : Ctx) : Bool := fld (c.word 0) 19 19 == 1
def Ctx.prio (c : Ctx) : Bool := fld (c.word 0) 18 18 == 1
def Ctx.autoc (c : Ctx) : Bool := fld (c.word 0) 17 17 == 1
def Ctx.fwdMask (c : Ctx) : Nat := fld (c.word 0) 16 13
/-- SV and R-SV kinds. -/
def kindSv (k : Nat) : Bool := k == 0 || k == 2 || k == 3
def Ctx.isSv (c : Ctx) : Bool := kindSv c.kind
/-- Routed kinds (R104). -/
def kindRouted (k : Nat) : Bool := decide (2 ≤ k)
def Ctx.nstate (c : Ctx) : Nat := fld (c.word 0x08) 30 29
def Ctx.setNstate (c : Ctx) (n : Nat) : Ctx :=
  c.setWord 0x08 (w32 (fld (c.word 0x08) 31 31 * 2 ^ 31 + n * 2 ^ 29 + fld (c.word 0x08) 19 0))
def Ctx.smpRate (c : Ctx) : Nat := fld (c.word 0x18) 31 16
def Ctx.twin (c : Ctx) : Nat := fld (c.word 0x18) 15 0
def Ctx.reorder (c : Ctx) : Nat := fld (c.word 0x20) 31 27
/-- The modulus m of R63. -/
def Ctx.modulus (c : Ctx) : Nat := if fld (c.word 0x20) 26 26 = 1 then 65536 else c.smpRate
def Ctx.seen (c : Ctx) : Bool := fld (c.word 0x2C) 31 31 == 1
def Ctx.lost (c : Ctx) : Bool := fld (c.word 0x2C) 30 30 == 1
/-- SEEN and LOST written. -/
def Ctx.setSeenLost (c : Ctx) (seen lost : Bool) : Ctx :=
  c.setWord 0x2C (w32 (bnat seen * 2 ^ 31 + bnat lost * 2 ^ 30 + fld (c.word 0x2C) 29 0))
def Ctx.iv (c : Ctx) : Nat := (c.word 0x30).toNat + 2 ^ 32 * (c.word 0x34).toNat
def Ctx.setIv (c : Ctx) (v : Nat) : Ctx := (c.setWord 0x30 (w32 v)).setWord 0x34 (w32 (v / 2 ^ 32))
def Ctx.plaus (c : Ctx) : Word := c.word 0x44
def Ctx.bgroup (c : Ctx) : Nat := fld c.plaus 31 20
def Ctx.bmember (c : Ctx) : Nat := fld c.plaus 19 16
def Ctx.bal (c : Ctx) : Bool := fld c.plaus 15 15 == 1
def Ctx.bsign (c : Ctx) : Bool := fld c.plaus 14 14 == 1
def Ctx.phasor (c : Ctx) : Bool := fld c.plaus 12 12 == 1
def Ctx.harm (c : Ctx) : Bool := fld c.plaus 11 11 == 1
def Ctx.home (c : Ctx) : Nat := fld (c.word 0x5C) 31 28
def Ctx.slice (c : Ctx) : Nat := fld (c.word 0x5C) 27 18
def Ctx.gen (c : Ctx) : Nat := fld (c.word 0x5C) 15 0
/-- GEN incremented (R59). -/
def Ctx.genInc (c : Ctx) : Ctx :=
  c.setWord 0x5C (w32 (fld (c.word 0x5C) 31 16 * 2 ^ 16 + (c.gen + 1) % 2 ^ 16))
/-- HOME written (R233). -/
def Ctx.setHome (c : Ctx) (p : Nat) : Ctx := c.setWord 0x5C (w32 (p * 2 ^ 28 + fld (c.word 0x5C) 27 0))
/-- The key that CTX_KCUR or CTX_KNEXT names (R59); 0xFFFF_FFFF names none, a blob number beyond the table (R326). -/
def Ctx.keyRef (w : Word) : KeyRef := if w = 0xFFFFFFFF#32 then .blob (2 ^ 20) else if fld w 31 31 = 1 then .node (fld w 19 0) else .blob (fld w 19 0)
/-- A context holds no current key: KCUR 0xFFFF_FFFF (R326). -/
def Ctx.noKey (c : Ctx) : Bool := c.word 0x04 == 0xFFFFFFFF#32

def Ctx.curRef (c : Ctx) : KeyRef := Ctx.keyRef (c.word 0x04)
def Ctx.nextRef (c : Ctx) : KeyRef := Ctx.keyRef (c.word 0x08)

/-- The contexts in service, with their indices. -/
def ctxList (s : State) : List (Nat × Ctx) := s.ctxs.filterMap (fun e => e.2.map (fun c => (e.1, c)))

/-- The context that a mailbox command names: one whose removal is under way is gone for the commands that follow in ring order (R324). -/
def liveCtx (s : State) (i : Nat) : Option Ctx := (getCtx s i).filter (fun c => c.removing.isNone)

/-- Contexts homed on a pillow, guests included. -/
def homedOn (s : State) (p : Nat) : List (Nat × Ctx) := (ctxList s).filter (fun e => e.2.home == p)

/-! ### The journal (R172) -/

/-- Durable changes of a command in progress, whose completion another record holds (R184). -/
def journalCmd (s : State) (cmd : Nat) (items : List JItem) : State := { s with journal := s.journal ++ [⟨items, none, none, 0, cmd⟩] }

/-- A durable change handed to the journal without a command. -/
def journalAdd (s : State) (items : List JItem) : State := journalCmd s 0 items

/-- The journal records after the first n taken back, with their changes: one record is to hold them all (R173). -/
def journalTake (s : State) (n : Nat) : List JItem × State :=
  ((s.journal.drop n).flatMap (fun r => r.items), { s with journal := s.journal.take n })

/-- Seconds of PTP time, low 32 bits. -/
def ptpSec32 (s : State) : Nat := s.ptp.sec % 2 ^ 32

/-- a is before b, serially modulo 2^32 (R170). -/
def serialLt (a b : Nat) : Bool := decide (0 < (b + 2 ^ 32 - a % 2 ^ 32) % 2 ^ 32) && decide ((b + 2 ^ 32 - a % 2 ^ 32) % 2 ^ 32 < 2 ^ 31)

/-! ### Blob references (R161) -/

/-- The key that KSRC and KIDX name (R161, R165). -/
def refOf (ksrc kidx : Nat) : KeyRef := if ksrc = 0 then .blob kidx else .node kidx

/-- The key that a change stages. -/
def CtxChange.stages : CtxChange → Option KeyRef
  | .stage ksrc kidx _ _ _ _ => some (refOf ksrc kidx)
  | .modify .. | .commit .. | .loaded .. | .unstage => none

/-- A context references the blob or node r: its current key, a PENDING or READY key, a key about to be staged, or a PREVIOUS key whose
overlap lasts. -/
def Ctx.refs (s : State) (c : Ctx) (r : KeyRef) : Bool :=
  (!c.noKey && c.curRef == r) || c.changes.any (fun x => x.stages == some r)
    || (c.nextRef == r && (c.nstate == 1 || c.nstate == 2 || (c.nstate == 3 && serialLt (ptpSec32 s) (c.word 0x14).toNat)))

/-- A blob that is in use: referenced by a context, the root of a tree node, or pinned (R161). -/
def blobUsed (s : State) (i : Nat) : Bool :=
  (ctxList s).any (fun e => e.2.refs s (.blob i)) || s.firn.nodes.any (fun e => match e.2 with | some n => n.rootBlob == some i | none => false)
    || (match smapGet (fun _ => none) s.firn.blobs i with | some b => b.pinned | none => false)

/-- A queued, running, suspended or moved request refers to the slot, or one that waits at an arbiter with its slot (R135). -/
def slotReferenced (s : State) (n : Nat) : Bool :=
  let hit := fun (r : LaneReq) => r.slot == some n
  s.lanes.any (fun e => e.2.queue.any hit || e.2.susp.any hit || (match e.2.running with | some r => hit r | none => false))
    || s.pillows.any (fun e => e.2.arb.moved.any hit || e.2.arb.waiting.any (fun w => hit w.2))

/-- The key-schedule entries of slots invalidated in every lane (R135). -/
def invalidateSlots (s : State) (p : Nat → Bool) : State :=
  { s with lanes := s.lanes.map (fun e => (e.1, { e.2 with cache := e.2.cache.filter (fun c => !p c.1) })) }

/-- Slots emptied, with their entries in the lanes' caches. One that a lane request refers to is emptied when none does any more, and no
new request finds its key (R135). -/
def dropSlots (s : State) (p : SlotSt → Bool) : State :=
  let hit := fun (e : Nat × Option SlotSt) => match e.2 with | some x => p x | none => false
  let kept := s.firn.slots.filterMap (fun e =>
    if hit e then (if slotReferenced s e.1 then some (e.1, e.2.map (fun x => { x with doomed := true })) else none) else some e)
  let gone := (s.firn.slots.filter (fun e => hit e && !slotReferenced s e.1)).map (fun e => e.1)
  invalidateSlots { s with firn := { s.firn with slots := kept } } gone.contains

/-- Slots whose emptying has waited for a lane request are emptied (R135). -/
def slotsSettle (s : State) : State :=
  if s.firn.slots.any (fun e => match e.2 with | some x => x.doomed | none => false) then dropSlots s (fun x => x.doomed) else s

/-- A blob freed when nothing uses it (R161); the change goes to the journal. -/
def freeBlob (s : State) (i : Nat) : State :=
  if (smapGet (fun _ => none) s.firn.blobs i).isSome && !blobUsed s i then
    let s := { s with firn := { s.firn with blobs := smapSet (fun _ => none) s.firn.blobs i none } }
    journalAdd (dropSlots s (fun x => x.holds == .blob i)) [.blob i none]
  else s

/-- A key reference released: a blob that nothing else uses is freed. -/
def freeRef (s : State) (r : KeyRef) : State :=
  match r with
  | .blob i => freeBlob s i
  | _ => s

/-! ### Commits (R69) -/

/-- The swap of R69 with its CTX_OVLEND; an exhausted invocation field of a publisher restarts at 0 (R90), and a context without a
current key has no previous key to keep (R326). -/
def Ctx.commit (c : Ctx) (ovlEnd : Nat) : Ctx :=
  let cur := c.word 0x04
  let next := c.word 0x08
  let prev : Word := if c.noKey then 0 else w32 (fld cur 31 31 * 2 ^ 31 + 3 * 2 ^ 29 + fld cur 19 0)
  let c' := ((((c.setWord 0x04 (w32 (fld next 31 31 * 2 ^ 31 + fld next 19 0))).setWord 0x08 prev).setWord 0x0C
      (c.word 0x10)).setWord 0x10 (if c.noKey then 0 else c.word 0x0C)).setWord 0x14 (w32 ovlEnd)
  let c' := { c'.genInc with epochNoted := false }
  if c.pubDir && c.iv == 2 ^ 64 - 1 then { c'.setIv 0 with ivNoted := false, reserve := 0 } else c'

/-- A context as it is journalled when its invocation field starts: a publisher's with its reservation (R174). -/
def Ctx.reserved (c : Ctx) : Ctx := if c.pubDir && decide (c.reserve ≤ c.iv) then { c with reserve := c.iv + 2 ^ 20 } else c

/-- A KEY_COMMIT ends once every context that it names has committed (R169): its completion goes with a journal record. -/
def commitNotify (s : State) (i : Nat) : State :=
  let l := s.firn.commitCmds.map (fun e => (e.1, e.2.1.filter (· != i), e.2.2))
  let done := l.filter (fun e => e.2.1.isEmpty)
  let s := { s with firn := { s.firn with commitCmds := l.filter (fun e => !e.2.1.isEmpty) } }
  { s with journal := s.journal ++ done.map (fun e => ⟨[], some ⟨e.1, 0x42, 0, 0, 0⟩, none, e.2.2, 0⟩) }

/-- A commit of a READY context (R69): the swap, its record, its notice and its journal record, with the changes that go with it (R173); the
change of a state other than READY is refused. -/
def commitCtx (s : State) (i ovlEnd : Nat) (also : List JItem := []) : State :=
  match getCtx s i with
  | some c =>
    if c.nstate = 2 then
      let c' := c.commit ovlEnd
      let s := setCtx s i (some c')
      let s := record s 0x0503 0x6 0 [i, (c'.word 0x0C).toNat, ovlEnd % 2 ^ 32]
      let s := notice s c.slice i 0x02 c'.gen
      let cmd := if s.firn.commitCmds.any (fun e => e.2.1.contains i) then 0x42 else 0
      commitNotify (journalCmd s cmd ([.ctx i (some c'.reserved)] ++ also)) i
    else s
  | none => s

/-! ### Frames of a context -/

def getFrame (s : State) (h : Nat) : Option FrameRec := smapGet (fun _ => none) s.pool.frames h

def setFrame (s : State) (h : Nat) (f : Option FrameRec) : State :=
  { s with pool := { s.pool with frames := smapSet (fun _ => none) s.pool.frames h f } }

def modFrame (s : State) (h : Nat) (g : FrameRec → FrameRec) : State :=
  match getFrame s h with
  | some f => setFrame s h (some (g f))
  | none => s

/-- The frames in the pool, with their handles. -/
def frameList (s : State) : List (Nat × FrameRec) := s.pool.frames.filterMap (fun e => e.2.map (fun f => (e.1, f)))

/-- Frames of a context in the pool. -/
def ctxFrames (s : State) (i : Nat) : List (Nat × FrameRec) := (frameList s).filter (fun e => e.2.ctx == some i && e.2.stage != .done)

/-- A frame of the context holds a bobbin short of VERDICT.PUT (R61). -/
def ctxRunning (s : State) (i : Nat) : Bool := (ctxFrames s i).any (fun e => e.2.stage == .running)

/-- The value of a CTX_MODIFY applied (R327): the words given replace those held, and GEN advances. -/
def Ctx.applyModify (c : Ctx) (ctrl rate supv plaus plim : Word) (declRate : Nat) : Ctx :=
  let c' := ((((c.setWord 0x00 ctrl).setWord 0x18 rate).setWord 0x2C
    (w32 (fld (c.word 0x2C) 31 20 * 2 ^ 20 + fld supv 19 0))).setWord 0x44 plaus).setWord 0x48 plim
  { c'.genInc with declRate := declRate }

/-! ### What the partner is sent (R335) -/

/-- The Bride link carries this module's records: bound, keyed, a lane in service, not in DYING (R334, R340). -/
def brideSends (s : State) : Bool :=
  s.pair.bound && s.pair.st != .single && s.pair.authDone && s.pair.lanes != 0 && s.pair.psOut != .dying

/-- A record sent to the partner (R335). It takes the next mirror sequence number, also where the link is down. DESIGN CHOICE (log entry 154). -/
def brideSend (s : State) (r : BrideOut) : State :=
  let l := s.pair.out ++ [r]
  { s with pair := { s.pair with out := if brideSends s then l.drop (l.length - 256) else s.pair.out, mirrorSeq := s.pair.mirrorSeq + 1 } }

/-- A mirrored item of the ACTIVE (R335). -/
def mirrorSend (s : State) (it : MirrorItem) : State := if s.pair.st = .active then brideSend s (.item it) else s

/-! ### Staging and its end (R168, R169) -/

/-- A context with a key staged as PENDING (R168). -/
def Ctx.staged (c : Ctx) (ksrc kidx kid kcv overlap epoch : Nat) : Ctx :=
  let c' := (c.setWord 0x08 (w32 (ksrc * 2 ^ 31 + 2 ^ 29 + kidx % 2 ^ 20))).setWord 0x10 (w32 kid)
  { c' with kcv := kcv, overlap := overlap, epoch := epoch }

/-- A context returned to NONE: CTX_KNEXT and CTX_KIDNEXT cleared (R168, R169). -/
def Ctx.unstage (c : Ctx) : Ctx := (c.setWord 0x08 0).setWord 0x10 0

/-- The words of a context after a change that does not depend on anything else. -/
def Ctx.apply (c : Ctx) : CtxChange → Ctx
  | .modify ctrl rate supv plaus plim d => c.applyModify ctrl rate supv plaus plim d
  | .stage ksrc kidx kid kcv overlap epoch => c.staged ksrc kidx kid kcv overlap epoch
  | .unstage => c.unstage
  | .commit .. | .loaded .. => c

/-- A context with the changes that wait for its boundary, as its next record keeps it. -/
def Ctx.settled (c : Ctx) : Ctx := c.changes.foldl Ctx.apply c

/-- CTX_KNEXT.NSTATE as the changes that wait leave it. -/
def Ctx.nstateDue (c : Ctx) : Nat :=
  c.changes.foldl (fun n ch => match ch with | .stage .. => 1 | .unstage => 0 | .modify .. | .commit .. | .loaded .. => n) c.nstate

/-- The generations by which the waiting changes raise GEN (R59). -/
def Ctx.gensDue (c : Ctx) : Nat :=
  (c.changes.filter (fun ch => match ch with | .modify .. | .commit .. => true | .stage .. | .unstage | .loaded .. => false)).length

/-- A target taken out of the first entry that meets a test. -/
def dropFrom (i : Nat) (p : SchedEntry → Bool) : List SchedEntry → List SchedEntry
  | [] => []
  | e :: es => if p e && e.targets.contains i then { e with targets := e.targets.filter (· != i) } :: es else e :: dropFrom i p es

/-- A target leaves the first schedule entry that meets a test; an entry without targets is gone (R169). -/
def dropTarget (s : State) (i : Nat) (p : SchedEntry → Bool) : State :=
  { s with firn := { s.firn with schedule := (dropFrom i p s.firn.schedule).filter (fun x => !x.targets.isEmpty) } }

/-- A target left out of every schedule entry. -/
def unschedule (s : State) (i : Nat) : State :=
  { s with firn := { s.firn with
    schedule := (s.firn.schedule.map (fun x => { x with targets := x.targets.filter (· != i) })).filter (fun x => !x.targets.isEmpty) } }

/-- An entry whose ACTIVATE the time unit has reached (R169). -/
def SchedEntry.due (s : State) (e : SchedEntry) : Bool := decide (e.activate ≤ s.ptp.sec)

/-- A commit that the schedule table ordered: the target leaves its entry with the commit, in one journal record (R169, R173). -/
def commitScheduled (s : State) (i ovlEnd : Nat) (p : SchedEntry → Bool) : State :=
  let s := dropTarget s i p
  commitCtx s i ovlEnd [.sched s.firn.schedule]

/-- A target that is not READY when its commit comes due leaves its entry with its record (R169). -/
def skipTarget (s : State) (i : Nat) (p : SchedEntry → Bool) : State :=
  let s := dropTarget s i p
  record (journalAdd s [.sched s.firn.schedule]) 0x0504 0x6 0 [i]

/-- The mailbox completion of a KEY_STAGE whose load has ended, with its journal record. -/
def stageFinish (s : State) (i status : Nat) : State :=
  match takeFirst (fun e => e.1 == i) s.firn.stageCmds with
  | some ((_, sl), rest) =>
    let s := { s with firn := { s.firn with stageCmds := rest } }
    let r : MbxRes := match getCtx s i with
      | some c => { MbxRes.durable [.ctx i (some c)] with status := status }
      | none => MbxRes.refuse status
    mbxFinish s sl 0x41 r
  | none => match getCtx s i with
    | some c => journalAdd s [.ctx i (some c)]
    | none => s

/-- The end of a staging load (R168): READY on a match, and a commit that has waited for it takes effect at this boundary (R169); otherwise
NONE, with its record, and a due entry that waited skips the target. -/
def loadEnd (s : State) (i status kcv : Nat) : State :=
  match getCtx s i with
  | some c =>
    let waited := fun (e : SchedEntry) => e.waits && e.due s
    let first := s.firn.schedule.find? (fun e => waited e && e.targets.contains i)
    if c.nstate ≠ 1 then s
    else if status = 0 ∧ kcv = c.kcv then
      let s := stageFinish (setCtx s i (some (c.setNstate 2))) i 0x00
      match first with
      | some e => commitScheduled s i ((ptpSec32 s + e.overlap.getD c.overlap) % 2 ^ 32) waited
      | none => s
    else
      let r := c.nextRef
      let kid := (c.word 0x10).toNat
      let s := setCtx s i (some c.unstage)
      let s := if first.isSome then skipTarget s i waited else s
      let s := if status = 0 then record (setEvt (incReg s (regAddr 0x80 0x38)) 0x80 1) 0x0501 0x6 0 [i, kid] else s
      freeRef (stageFinish s i (if status = 0 then 0x05 else if status = 4 then 0x07 else 0x0F)) r
  | none => s

/-- One change applied at a frame boundary (R61). A key staged over a PREVIOUS one whose overlap has ended releases that one (R168). -/
def applyChange (s : State) (i : Nat) (ch : CtxChange) : State :=
  match getCtx s i with
  | none => s
  | some c =>
    match ch with
    | .modify ctrl rate supv plaus plim d => mirrorSend (setCtx s i (some (c.apply ch))) (.ctxModify i ctrl rate supv plaus plim d)
    | .stage .. =>
      let s := setCtx s i (some (c.apply ch))
      if c.nstate = 3 then freeRef s c.nextRef else s
    | .unstage => if c.nstate = 1 ∨ c.nstate = 2 then freeRef (setCtx s i (some c.unstage)) c.nextRef else s
    | .loaded status kcv => loadEnd s i status kcv
    | .commit o sch =>
      let ovlEnd := (ptpSec32 s + o) % 2 ^ 32
      if sch then commitScheduled s i ovlEnd (SchedEntry.due s) else commitCtx s i ovlEnd

/-- The frame boundary of a context (R61): its waiting changes take effect in order. -/
def boundary (s : State) (i : Nat) : State :=
  match getCtx s i with
  | some c => c.changes.foldl (fun s ch => applyChange s i ch) (setCtx s i (some { c with changes := [] }))
  | none => s

/-- A change of a context at its frame boundary: at once while no frame of it holds a bobbin, otherwise at the VERDICT.PUT. -/
def atBoundary (s : State) (i : Nat) (ch : CtxChange) : State :=
  if ctxRunning s i then modCtx s i (fun c => { c with changes := c.changes ++ [ch] }) else applyChange s i ch

/-- A staging load ends, at the context's next frame boundary (R61, R168). -/
def loadDone (s : State) (i status kcv : Nat) : State :=
  match getCtx s i with
  | some c => if c.nstate = 1 then atBoundary s i (.loaded status kcv) else s
  | none => s

/-! ### Commands in ring order (R171, R324) -/

/-- A KEY_COMMIT that names the context is not complete. -/
def commitBusy (s : State) (i : Nat) : Bool := s.firn.commitCmds.any (fun e => e.2.1.contains i)

/-- A key command or bundle target waits at the ring, and is given again, while a KEY_STAGE or KEY_COMMIT of its context is not complete: the
commands of one context run one at a time, in order of arrival (R171, R324, log entry 147). A KEY_STAGE waits for a commit alone: a load in
progress answers it BUSY (R168). -/
def keyBusy (s : State) (i : Nat) : Bool := s.firn.stageCmds.any (fun e => e.1 == i) || commitBusy s i

/-- A context of a slice meets a test. -/
def sliceHas (s : State) (i : Nat) (p : Nat → Ctx → Bool) : Bool := (ctxList s).any (fun e => e.2.slice == i && p e.1 e.2)

/-- A SLICE_REMOVE of the slice is not complete: the commands that name the slice wait behind it (R324, log entry 147). -/
def sliceBusy (s : State) (i : Nat) : Bool := sliceHas s i (fun _ c => match c.removing with | some r => r.2 == 0x14 | none => false)

/-- A SLICE_REMOVE waits for the key commands and removals of the slice's contexts (R324, log entry 147). -/
def sliceHeld (s : State) (i : Nat) : Bool := sliceHas s i (fun j c => c.removing.isSome || keyBusy s j)

/-! ### Removal (R61, R312) -/

/-- The wrapping-key slots of a slice zeroised, its blobs and nodes freed, its SEPOCH raised (R157, R312), and the slice FREE. -/
def finishSliceRemove (s : State) (i : Nat) (sl : Slot) : State :=
  let s := dropSlots s (fun x => match x.holds with | .wk j _ => j == i | _ => false)
  let mine := (s.firn.blobs.filterMap (fun e => match e.2 with | some b => if b.slice = i then some e.1 else none | none => none))
  let nodes := (s.firn.nodes.filterMap (fun e => match e.2 with | some b => if b.slice = i then some e.1 else none | none => none))
  let s := dropSlots s (fun x => match x.holds with | .blob j => mine.contains j | .node j => nodes.contains j | _ => false)
  let e := smapGet (fun _ => 0) s.firn.sepoch i + 1
  let s := { s with firn := { s.firn with
    blobs := s.firn.blobs.filter (fun e => !mine.contains e.1)
    nodes := s.firn.nodes.filter (fun e => !nodes.contains e.1)
    sepoch := smapSet (fun _ => 0) s.firn.sepoch i e } }
  let s := setSlice s i Slice.free
  let items := [JItem.slice i none, .sepoch i e] ++ mine.map (fun b => JItem.blob b none) ++ nodes.map (fun n => JItem.node n none)
  mbxFinish (slmDbErr s) sl 0x14 (MbxRes.durable items)

/-- CLS BLK_STAT.STASHHI follows its condition: more than 192 stash entries (R58). -/
def clsStashSync (s : State) : State := condSet s 0x20 2 (decide (192 < s.cls.stash.length))

/-- The lookup entry of a context cleared (R61). -/
def clearLookup (s : State) (i : Nat) : State :=
  clsStashSync { s with cls := { s.cls with table := s.cls.table.filter (fun e => e.2 != i), stash := s.cls.stash.filter (· != i) } }

/-- A removal completes once the last admitted frame has its head word (R61): the context goes, and its command ends when durable. -/
def ctxSettle (s : State) (i : Nat) : State :=
  match getCtx s i with
  | some c =>
    match c.removing with
    | some (sl, code) =>
      if (ctxFrames s i).isEmpty then
        let s := mirrorSend (freeRef (freeRef (setCtx s i none) c.curRef) c.nextRef) (.ctxRemove i)
        if code = 0x22 then
          { s with journal := s.journal ++ [⟨[.ctx i none], some ⟨sl, 0x22, 0, 0, 0⟩, some (c.slice, i), 0, 0⟩] }
        else
          let s := journalAdd s [.ctx i none]
          if (ctxList s).any (fun e => e.2.slice == c.slice) then s else finishSliceRemove s c.slice sl
      else s
    | none => s
  | none => s

end Sys2Proof.Machine
end

