-- ==== Sys2Proof/Machine/FrameOps.lean ====
section
/-! DEFINITION. Machine/FrameOps.lean: cells of the drift pool (R279 to R283), egress queues (R115), descriptor completions (R317),
deliveries (R72, R73, R316) and the end of a frame (R66, R79, R80, R271). -/
namespace Sys2Proof.Machine

/-! ### Pillows and bobbins -/

/-- A bobbin as its pillow starts: scheduled, but for the last one, which is the spare (R223). -/
def Bobbin.init (b : Nat) : Bobbin :=
  { role := if b % 32 = 31 then .spare else .scheduled, fg := .entry, bg := .entry, frame := none, tx := false, put := false,
    stop := false, item := none, queue := [], wbuf := [], stage := [], bgStage := [], ctxStage := [], posts := [], mpuBase := [],
    mpuLim := [], quarCount := 0, shadow := none, await := none, result := none, copy := none, bgArg := 0 }

def getBob (s : State) (b : Nat) : Bobbin := smapGet Bobbin.init s.bobbins b

def setBob (s : State) (b : Nat) (x : Bobbin) : State := { s with bobbins := smapSet Bobbin.init s.bobbins b x }

def modBob (s : State) (b : Nat) (f : Bobbin → Bobbin) : State := setBob s b (f (getBob s b))

/-- A pillow before firmware entry: off, empty (R241). -/
def Pillow.init : Pillow :=
  { st := .off, lastOut := 31, arb := .empty, qcells := 0, order := 0, dispatched := 0, assign := defaultAssign,
    cmd := none, targets := 0 }

def getPil (s : State) (p : Nat) : Pillow := smapGet (fun _ => Pillow.init) s.pillows p

def setPil (s : State) (p : Nat) (x : Pillow) : State := { s with pillows := smapSet (fun _ => Pillow.init) s.pillows p x }

def modPil (s : State) (p : Nat) (f : Pillow → Pillow) : State := setPil s p (f (getPil s p))

/-- The 32 bobbins of a pillow, by number. -/
def bobsOf (p : Nat) : List Nat := (List.range 32).map (fun i => 32 * p + i)

/-- The scheduled bobbins of a pillow. -/
def schedBobs (s : State) (p : Nat) : List Nat := (bobsOf p).filter (fun b => (getBob s b).role == .scheduled)

/-! ### Cells (R279 to R283) -/

/-- Cells of a frame of L bytes with its FCS (R279). -/
def cellsFor (len : Nat) : Nat := (len + 8 + 127) / 128

/-- Cells neither held nor reserved changed, with the lowest value kept in DRF_MINFREE (R289). -/
def setFree (s : State) (n : Nat) : State :=
  let s := { s with pool := { s.pool with free := n } }
  if n < (getReg s 0xA002C).toNat then setReg s 0xA002C (w32 n) else s

/-- Cells reserved or claimed for a received frame of a pillow (R95, R280). -/
def claimRx (s : State) (p n : Nat) : State :=
  setFree (modPil s p (fun x => { x with qcells := x.qcells + n })) (s.pool.free - n)

/-- Cells of a received frame returned. -/
def returnRx (s : State) (p n : Nat) : State :=
  setFree (modPil s p (fun x => { x with qcells := x.qcells - n })) (s.pool.free + n)

/-- The transmit reserve in force: DRF_TXRES, at least 4,096 in the DRF safe state (R291). -/
def txReserve (s : State) : Nat :=
  let r := (getReg s 0xA0020).toNat
  if pageSafe s 0xA0 then max r 4096 else r

/-- Transmit-reserve cells claimed (R280), with LOWTX below 256 (R291). -/
def claimTx (s : State) (n : Nat) : State :=
  let s := setFree { s with pool := { s.pool with txFree := s.pool.txFree - n } } (s.pool.free - n)
  if s.pool.txFree < 256 then setEvt s 0xA0 0 else s

def returnTx (s : State) (n : Nat) : State :=
  setFree { s with pool := { s.pool with txFree := s.pool.txFree + n } } (s.pool.free + n)

/-- The cells of a frame whose consumers are done: returned, zeroed first where they held plaintext (R282, R283). The record stays
while a bobbin still holds the frame. -/
def freeFrame (s : State) (h : Nat) : State :=
  match getFrame s h with
  | some f =>
    let s := match f.src with
      | .port _ => if f.ctx.isSome then returnRx s f.pillow f.cells else setFree s (s.pool.free + f.cells)
      | .desc _ _ => returnTx s f.cells
    let s := if f.plain then addReg s 0xA0048 f.cells else s
    let held := match f.bobbin with
      | some b => (getBob s b).frame == some h
      | none => false
    let s := if held then setFrame s h (some { f with stage := .done, consumers := 0, cells := 0, plain := false }) else setFrame s h none
    match f.ctx with
    | some i => ctxSettle s i
    | none => s
  | none => s

/-! ### Queues (R284 to R286) -/

/-- Frames waiting for a pillow's dispatcher: class HIGH, NORMAL, or the publish input. -/
def inputQueue (s : State) (p : Nat) (pub high : Bool) : List (Nat × FrameRec) :=
  (frameList s).filter (fun e => e.2.stage == .ready && e.2.pillow == p
    && (match e.2.ctx.bind (getCtx s) with
      | some c => c.pubDir == pub && (pub || e.2.high == high)
      | none => false))

/-- The number of a pillow's input queue (R284): 2n NORMAL, 2n + 1 HIGH, 0x20 + n for its publish input. -/
def inputNo (p : Nat) (pub high : Bool) : Nat := if pub then 0x20 + p else 2 * p + bnat high

/-- A dequeue (R286): the handle, its UNDERRUN bit and the state. From an empty queue it returns the handle of the queue's last dequeue, and the
underrun is kept in the queue's state and counted. -/
def dequeue (s : State) (q : Nat) (head : Option Nat) : (Nat × Bool) × State :=
  match head with
  | some h => ((h, false), { s with pool := { s.pool with lastDq := smapSet (fun _ => 0) s.pool.lastDq q h } })
  | none =>
    let s' := { s with pool := { s.pool with under := q :: s.pool.under.filter (· != q) } }
    ((smapGet (fun _ => 0) s.pool.lastDq q, true), setEvt (incReg s' 0xA0034) 0xA0 4)

/-- An enqueue ends a queue's UNDERRUN (R286). -/
def enqueued (s : State) (q : Nat) : State := { s with pool := { s.pool with under := s.pool.under.filter (· != q) } }

/-- One consumer releases the frame (R282). -/
def releaseFrame (s : State) (h : Nat) : State :=
  match getFrame s h with
  | some f =>
    if f.consumers ≤ 1 then freeFrame s h else setFrame s h (some { f with consumers := f.consumers - 1 })
  | none => s

/-! ### Ports and egress (R105, R115, R129) -/

def getPort (s : State) (n : Nat) : PortSt := smapGet (fun _ => PortSt.idle) s.ports n

def setPort (s : State) (n : Nat) (x : PortSt) : State := { s with ports := smapSet (fun _ => PortSt.idle) s.ports n x }

def modPort (s : State) (n : Nat) (f : PortSt → PortSt) : State := setPort s n (f (getPort s n))

/-- Register o of the PBP page of port n. -/
def pbpReg (n o : Nat) : Nat := regAddr (0x10 + n) o

/-- PBP_PAIRCFG of the pair of a port. -/
def pairCfg (s : State) (n : Nat) : Word := getReg s (pbpReg (n / 2 * 2) 0x24)

/-- MODE of the pair of a port: 0 ENDPOINT, 1 PRP, 2 HSR, 3 BITW (R105). -/
def pairMode (s : State) (n : Nat) : Nat := fld (pairCfg s n) 1 0

/-- The other port of the pair. -/
def otherPort (n : Nat) : Nat := if n % 2 = 0 then n + 1 else n - 1

/-- The field port of a BITW pair (R112). -/
def isField (s : State) (n : Nat) : Bool := n % 2 == fld (pairCfg s n) 5 5

/-- The ports a mask of FWDMASK leaves on (R105): both ports of a PRP or HSR pair when it names either. -/
def egressMask (s : State) (mask : Nat) : Nat :=
  (List.range 2).foldl (fun a k =>
    let m := mask / 2 ^ (2 * k) % 4
    let mode := pairMode s (2 * k)
    a + (if (mode = 1 ∨ mode = 2) ∧ m ≠ 0 then 3 else m) * 2 ^ (2 * k)) 0

/-- A port sends: link up, its domain on, its page not in the safe state, no port hold (R128 to R130). -/
def portSends (s : State) (n : Nat) : Bool := (getPort s n).up && bit s.pwc.port n && !pageSafe s (0x10 + n) && !s.boot.portHold

/-- A frame that cannot leave a port is discarded there: PBP_TXDROP and TXDROP (R115, R129). -/
def portDrop (s : State) (n : Nat) : State := setEvt (incReg s (pbpReg n 0x48)) (0x10 + n) 4

/-- A frame put on queue k of a port; false when it is discarded at a full queue or at a port that does not send. -/
def enqueueAt (s : State) (n k h : Nat) : State × Bool :=
  let p := getPort s n
  if portSends s n then
    if k = 1 then (setPort s n { p with q1 := p.q1 ++ [h] }, true)
    else if k = 2 then
      if p.q2.length < 512 then (setPort s n { p with q2 := p.q2 ++ [h] }, true) else (portDrop s n, false)
    else if p.q3.length < 512 then (setPort s n { p with q3 := p.q3 ++ [h] }, true) else (portDrop s n, false)
  else (portDrop s n, false)

/-- A frame queued on every port of a mask; the answer is the mask of ports that took it. -/
def enqueueMask (s : State) (mask k h : Nat) : State × Nat :=
  (List.range 4).foldl (fun r n =>
    if bit mask n then let q := enqueueAt r.1 n k h; (q.1, if q.2 then r.2 + 2 ^ n else r.2) else r) (s, 0)

/-! ### Completions of transmit descriptors (R91, R317) -/

/-- A descriptor of a slice or of a manager ring completes: entry of KIND TX with its code and TXSTAT. One whose rings the module has forgotten
writes none (R307): it has a TAG that no descriptor carries. -/
def txComplete (s : State) (src : FrameSrc) (ts port ctx code txstat : Nat) : State :=
  match src with
  | .port _ => s
  | .desc none tag => if 2 ^ 16 ≤ tag then s else mgrCq s ts 1 port ctx tag code txstat
  | .desc (some i) tag =>
    let s := if code = 0x01 then s else txDrop s i
    let x := getSlice s i
    if 2 ^ 16 ≤ tag then s
    else if x.writes then cqWriteReserved s i ts 1 port ctx tag code txstat
    else setSlice s i { x with cqResv := x.cqResv - 1 }

/-! ### Delivery (R72, R73, R316) -/

/-- The head word (R72). -/
def headWord (len verdict pflags ts : Nat) : Nat := 2 ^ 63 + len % 2 ^ 15 * 2 ^ 48 + verdict % 256 * 2 ^ 40 + pflags % 256 * 2 ^ 32 + ts % 2 ^ 32

/-- Ingress port of a frame, 3 for a descriptor (R417). -/
def FrameRec.srcPort (f : FrameRec) : Nat := match f.src with | .port n => n | .desc _ _ => 3

/-- A delivery begins (R73, R316): a buffer and completion entries are taken, the head slot is zeroed and the payload writes start;
a frame that finds none is dropped for the slice, and not tried again. -/
def beginDelivery (s : State) (h : Nat) : State :=
  match getFrame s h with
  | some f =>
    match f.ctx.bind (getCtx s) with
    | some c =>
      let i := c.slice
      let x := getSlice s i
      let early := x.early && !c.hold
      let need := if early then 2 else 1
      if f.delivery.isSome || f.rxDropped then s
      else if x.st == .active && x.rings && decide (0 < x.rxPosted) && decide (need ≤ x.cqFree) && decide (f.frame.bytes.length + 8 ≤ x.bufSz) then
        let (d, s) := readBuffer s
        let s := modSlice s i (fun x => { x with rxHead := (x.rxHead + 1) % 2 ^ x.rxLog, cqResv := x.cqResv + need, inFlight := x.inFlight + 1 })
        let s := sliceWrite s i d.1 (leBytes 8 0)
        let s := sliceWrite s i (d.1 + 8) f.frame.bytes
        let s := setFrame s h (some { f with delivery := some ⟨i, d.2, d.1, true, false⟩ })
        if early then cqWriteReserved s i f.ts 3 f.srcPort (f.ctx.getD 0) d.2 0 0 else s
      else rxDrop (setFrame s h (some { f with rxDropped := true })) i (f.ctx.getD 0)
    | none => s
  | none => s

/-- A frame with its verdict owes its slice a delivery (R282). -/
def FrameRec.deliveryDue (f : FrameRec) : Bool := f.stage == .verdict && decide (bnat (f.egress != 0) < f.consumers)

/-- No earlier frame of the context still owes its delivery: the frames of one context are delivered in order (R62, R316). -/
def deliveryTurn (s : State) (h : Nat) (f : FrameRec) : Bool :=
  match f.ctx with
  | some i => (ctxFrames s i).all (fun e => decide (h ≤ e.1) || !e.2.deliveryDue)
  | none => true

/-- The frame's delivery to its slice begins once gates 1 to 3 are passed and its last byte is in, for a cut-through context whose
policy delivers (R73, R76). -/
def tryDeliver (s : State) (h : Nat) : State :=
  match getFrame s h with
  | some f =>
    match f.ctx.bind (getCtx s) with
    | some c =>
      if f.gated && f.rxDone && f.stage == .running && !c.pubDir && !c.hold && f.delivery.isNone && (c.policy == 0 || c.policy == 2)
          && deliveryTurn s h f then
        beginDelivery s h
      else s
    | none => s
  | none => s

/-! ### Background items (R214) -/

/-- The background owner of a context, as a bobbin number. -/
def ownerOf (s : State) (i : Nat) : Nat := match getCtx s i with | some c => 32 * c.home + c.bgOwner | none => 0

/-- An item posted to a bobbin's queue of 64; one that finds it full is dropped (R214). -/
def postItem (s : State) (b : Nat) (it : BgItem) : State :=
  let x := getBob s b
  if x.queue.length < 64 then setBob s b { x with queue := x.queue ++ [it] }
  else setEvt (incReg s (regAddr (0x40 + b / 32) 0x44)) (0x40 + b / 32) 7

def getGroup (s : State) (g : Nat) : Option Group := smapGet (fun _ => none) s.groups g

def setGroup (s : State) (g : Nat) (x : Option Group) : State := { s with groups := smapSet (fun _ => none) s.groups g x }

/-- The members of a balance group: the contexts that name it, with their positions (R86). -/
def members (s : State) (g : Nat) : List (Nat × Ctx) := (ctxList s).filter (fun e => e.2.bal && e.2.bgroup == g && !e.2.pubDir)

/-- An evaluation of a context completed (R271, R277): its flags join the deferred ones. -/
def deferFlags (s : State) (i flags : Nat) : State :=
  modCtx s i (fun c => { c with deferred := Nat.lor c.deferred flags, pendingEval := true })

/-- An instant that the tracker is done with: no longer collected, and kept among the last eight, so that a late frame does not open it
again (R86). -/
def Group.close (x : Group) (smp : Nat) : Group :=
  { x with instants := x.instants.filter (fun t => t.1 != smp), closed := (smp :: x.closed.filter (· != smp)).take 8 }

/-- An instant that is not evaluated: BAL_INCOMPLETE for every member (R86, R277). -/
def instantMissed (s : State) (g smp : Nat) : State :=
  match getGroup s g with
  | some x =>
    let s := setGroup s g (some (x.close smp))
    (members s g).foldl (fun s e => deferFlags s e.1 0x10) s
  | none => s

/-- BAL_EVAL posted for an instant; a full queue sets BAL_INCOMPLETE for it (R214). -/
def postBalEval (s : State) (g smp : Nat) : State :=
  match getGroup s g with
  | some x =>
    let b := 32 * x.pillow + x.owner
    let full := decide (64 ≤ (getBob s b).queue.length)
    let s := postItem s b ⟨2, 0x40000 + g, smp, []⟩
    if full then instantMissed s g smp else s
  | none => s

/-- A member has passed an instant with its channel values: the balance tracker collects it, and posts BAL_EVAL when every member has
passed it (R86, R214). It holds eight instants: the oldest one makes way unevaluated. -/
def balCollect (s : State) (g member smp : Nat) (vals : List Int) : State :=
  let s := match getGroup s g with
    | some x => if x.instants.any (fun t => t.1 == smp) ∨ x.instants.length < 8 then s
        else match x.instants with | t :: _ => instantMissed s g t.1 | [] => s
    | none => s
  match getGroup s g with
  | some x =>
    let old := match x.instants.find? (fun t => t.1 == smp) with
      | some t => t
      | none => (smp, 0, [])
    let t := (smp, Nat.lor old.2.1 (2 ^ member), old.2.2 ++ [(member, vals)])
    let others := x.instants.filter (fun t => t.1 != smp)
    let s := setGroup s g (some { x with instants := others ++ [t] })
    let all := (members s g).foldl (fun a e => Nat.lor a (2 ^ e.2.bmember)) 0
    if t.2.1 = all then postBalEval s g smp else s
  | none => s

/-- An authentic frame of a balance-group member (R222): one instant per ASDU, for a frame with smpSynch 2, and none for an instant that
the tracker is done with (R86). -/
def balTrack (s : State) (c : Ctx) (f : Frame) : State :=
  if c.bal && !c.pubDir && f.smpSynch == 2 then
    let done := match getGroup s c.bgroup with | some x => x.closed | none => []
    ((f.smpCnts.zip f.samples).filter (fun e => !done.contains e.1)).foldl (fun s e =>
      balCollect s c.bgroup c.bmember e.1 (if c.bsign then e.2.map (fun v => -v) else e.2)) s
  else s

/-! ### The end of a frame -/

/-- A pass code of R78: 0x01 to 0x10. -/
def isPass (code : Nat) : Bool := decide (1 ≤ code ∧ code ≤ 0x10)

/-- The fail codes that write a record (R79). -/
def recordsFail (code : Nat) : Bool := decide (0x20 ≤ code ∧ code ≤ 0x26) || decide (0xA0 ≤ code ∧ code ≤ 0xA3)

/-- PIL instance of a frame's record: the bobbin that held it, or 0x200 + pillow (R417). -/
def FrameRec.pilInst (f : FrameRec) : Nat := match f.bobbin with | some b => b | none => 0x200 + f.pillow

/-- The record words of a fail verdict (R417). -/
def failWords (f : FrameRec) (ctx : Nat) : List Nat :=
  [ctx, f.srcPort,
   if f.frame.form == .goose || f.frame.form == .rgoose4 || f.frame.form == .rgoose6 then f.frame.stNum else f.frame.smpCnts.headD 0,
   match f.frame.ext with | some e => e.keyId | none => 0,
   if f.frame.form == .goose || f.frame.form == .rgoose4 || f.frame.form == .rgoose6 then f.frame.sqNum else 0]

/-- The context after a passing frame (R66): staged words, SEEN, LOST, CTX_LASTTS, the highest invocation value, CTX_PASS. -/
def Ctx.passFrame (c : Ctx) (f : FrameRec) (staged : SMap (Option Word)) : Ctx :=
  let c := (List.range 3).foldl (fun c k => match f.rpl[k]? with | some v => c.setWord (0x20 + 4 * k) v | none => c) c
  let c := staged.foldl (fun c e => match e.2 with | some v => c.setWord (4 * e.1) v | none => c) c
  let c := (c.setSeenLost true false).setWord 0x1C (w32 f.ts)
  let c := c.setIv (if c.pubDir then (if f.pubRec.isSome then max c.iv (f.iv + 1) else min (f.iv + 1) (2 ^ 64 - 1)) else max c.iv f.iv)
  { c.setWord 0x38 (satInc (c.word 0x38)) with lastTs := f.ts, ttl := f.frame.ttl }

/-- A context whose frame failed: CTX_FAIL (R79). -/
def Ctx.failFrame (c : Ctx) : Ctx := c.setWord 0x3C (satInc (c.word 0x3C))

/-- Staged scratch and balance-window bytes applied to the pillow's shared RAM (R222): offsets in the shared RAM. -/
def applyStage (s : State) (p : Nat) (st : SMap (Option Byte)) : State :=
  st.foldl (fun s e => match e.2 with | some v => writeByte s (0x810000000 + p * 0x100000 + e.1) v | none => s) s

/-- The bobbin's staged state of its frame dropped. -/
def Bobbin.clearStage (x : Bobbin) : Bobbin := { x with stage := [], ctxStage := [], posts := [] }

/-- PBP_PAIRCFG of the ingress pair of a frame, as it was where the frame outlived a change of MODE (R107). -/
def FrameRec.inCfg (s : State) (f : FrameRec) (n : Nat) : Word := f.pairWas.getD (pairCfg s n)

/-- The egress of a passing frame (R80, R105, R112): the ports it leaves on, for subscribers and publishers. Within a BITW pair R112
decides; on the ports of the other pair FWDMASK does. -/
def passMask (s : State) (c : Ctx) (f : FrameRec) (code : Nat) : Nat :=
  let forwards := c.policy == 1 || c.policy == 2
  match f.src with
  | .port n =>
    let w := f.inCfg s n
    if fld w 1 0 = 3 then
      let field := n % 2 == fld w 5 5
      let through := c.pubDir || decide (code ≤ 5) || (forwards && f.frame.ext.isNone && !field)
      let fwd := if forwards && !c.pubDir then egressMask s c.fwdMask else 0
      (if through then 2 ^ otherPort n else 0) + (fwd - Nat.land fwd (3 * 2 ^ (n / 2 * 2)))
    else if forwards then egressMask s c.fwdMask else 0
  | .desc _ _ => egressMask s c.fwdMask

/-- The module publishes: SINGLE, ACTIVE or ALONE, with its egress not stopped (R340, R342). -/
def pairPublishes (s : State) : Bool :=
  (s.pair.st == .single || ((s.pair.st == .active || s.pair.st == .alone) && s.pair.psOut != .dying)) && !s.boot.ccDead

/-- Bytes that the security extension of an algorithm adds to a layer-2 frame (R103), and the security fields to a routed one (R104). -/
def extAdded (kind alg : Nat) : Nat :=
  if kindRouted kind then
    match alg with | 1 => 12 | 2 => 18 | 3 => 34 | 4 => 18 | 5 => 26 | 6 => 26 | _ => 0
  else
    match alg with | 1 => 22 | 2 => 28 | 3 => 44 | 4 => 28 | 5 => 36 | _ => 0

/-- Exactly n bytes of a list, 0 beyond its end. -/
def exactly (n : Nat) (bs : List Byte) : List Byte := (List.range n).map (fun i => bs.getD i 0)

/-- A two-byte field of a frame, most significant byte first, at a position. -/
def get16 (bs : List Byte) (off : Nat) : Nat := ofBe [bs.getD off 0, bs.getD (off + 1) 0]
def put16 (bs : List Byte) (off v : Nat) : List Byte := setAt (setAt bs off (b8 (v / 256))) (off + 1) (b8 v)

/-- The bytes of a layer-2 frame without its extension of n bytes: the extension cut out and the header length field lowered by as much,
every other byte unchanged (R103, R112). -/
def stripBytes (n : Nat) (bs : List Byte) : List Byte :=
  let off := Config.extOffset bs
  let b := put16 bs (Config.lengthAt bs) (get16 bs (Config.lengthAt bs) + 2 ^ 16 - n)
  exactly (bs.length - n) (b.take off ++ b.drop (off + n))

/-- The frame as it leaves through its BITW pair: without its extension towards the field port where STRIP is 1 (R112), shorter by what the
extension added (R103). -/
def stripExt (s : State) (f : FrameRec) : Option Frame :=
  match f.src with
  | .port n =>
    let w := f.inCfg s n
    if fld w 1 0 = 3 ∧ n % 2 ≠ fld w 5 5 ∧ fld w 6 6 = 1 then
      f.frame.ext.map (fun e => { f.frame with
        ext := none, bytes := stripBytes (extAdded 0 e.alg) f.frame.bytes })
    else none
  | .desc _ _ => none

/-- The coding that PBP_CFG selects. -/
def portSpeed (s : State) (n : Nat) : Nat := fld (getReg s (pbpReg n 0x20)) 2 0

/-- The egress timestamp of a frame that starts to leave now: on SGMII less the transmit latency of PBP_PHYLAT (R124). -/
def txTime (s : State) (n : Nat) : Nat := ptpNow s - (if portSpeed s n = 4 then fld (getReg s (pbpReg n 0x2C)) 31 16 else 0)

/-- A PTP message with its correction field raised by a number of ns (R123). PRESUMED (log entry 141): IEEE 1588 has the field, in units of 2^−16 ns,
at byte 8 of the message, which follows the EtherType and an HSR tag. -/
def ptpCorrected (b : List Byte) (ns : Nat) : List Byte :=
  let off := if ofBe ((b.drop 12).take 2) = 0x892F then 28 else 22
  b.take off ++ beBytes 8 ((ofBe ((b.drop off).take 8) + ns * 65536) % 2 ^ 64) ++ b.drop (off + 8)

/-- The frame as it leaves a port (R105, R111, R112, R123): a sync of the transparent clock with its residence time and its ingress link's
delay; through its BITW pair in the form of R112; a published or forwarded frame with the trailer or tag of the port's PRP or HSR pair, and
without any on a port of an ENDPOINT pair; anything else unchanged. -/
def FrameRec.leaving (s : State) (f : FrameRec) (n : Nat) : Frame :=
  let base := match f.out, f.src with
    | some g, .port m => if m / 2 = n / 2 then g else f.frame
    | _, _ => f.frame
  if f.ctx.isNone then
    match f.link with
    | some d => { base with bytes := ptpCorrected base.bytes (txTime s n - f.ts + d) }
    | none => base
  else
    let mode := pairMode s n
    let plain : Frame := if base.redSeq.isSome && f.srcPort != 3 then
        { base with redSeq := none, hsrTagged := false, bytes := exactly (base.bytes.length - 6) (Config.bare base.bytes) }
      else { base with redSeq := none, hsrTagged := false }
    if mode = 1 ∨ mode = 2 then
      match f.seqs.find? (fun e => e.1 == n / 2) with
      | some (_, q) => { plain with redSeq := some q, hsrTagged := mode == 2,
                                    bytes := exactly (plain.bytes.length + 6) (Config.redundant plain.bytes mode q (n % 2)) }
      | none => plain
    else if mode = 0 then plain
    else base

def getPairNet (s : State) (k : Nat) : PairNet := smapGet (fun _ => ⟨[], 0⟩) s.pairNet k

def setPairNet (s : State) (k : Nat) (x : PairNet) : State := { s with pairNet := smapSet (fun _ => ⟨[], 0⟩) s.pairNet k x }

/-- The PRP or HSR sequence numbers of a frame that leaves on the ports of a mask, each from the counter of its pair (R111). -/
def takeSeq (s : State) (h mask : Nat) : State :=
  (List.range 2).foldl (fun s k =>
    if (pairMode s (2 * k) = 1 ∨ pairMode s (2 * k) = 2) ∧ mask / 2 ^ (2 * k) % 4 ≠ 0 then
      let x := getPairNet s k
      modFrame (setPairNet s k { x with seqNo := (x.seqNo + 1) % 65536 }) h
        (fun f => { f with seqs := f.seqs.filter (fun e => e.1 != k) ++ [(k, x.seqNo)] })
    else s) s

/-- A STANDBY's frame compared with the partner's publish record (R337): BRD_MATCH, or BRD_DIVERGE with its event and record. -/
def compareRecord (s : State) (f : FrameRec) : State :=
  match f.pubRec with
  | some r =>
    if r.digest = Config.frameDigest f.frame.bytes r.seqNo then incReg s 0xD0034
    else record (setEvt (incReg s 0xD0038) 0xD0 3) 0x0602 0xC 0 [r.ctx, r.first, r.last]
  | none => s

/-- The consumers of a frame that passed (R282): delivery and egress. -/
def passOn (s : State) (h : Nat) (c : Ctx) (code : Nat) : State :=
  match getFrame s h with
  | some f =>
    let deliver := !c.pubDir && (c.policy == 0 || c.policy == 2)
    let mask := if c.pubDir && !pairPublishes s then 0 else passMask s c f code
    let s := if c.pubDir && !pairPublishes s then compareRecord s f else takeSeq s h mask
    let (s, took) := enqueueMask s mask (if c.prio then 2 else 3) h
    let f := (getFrame s h).getD f
    let f := { f with out := stripExt s f, egress := took }
    let n := bnat deliver + bnat (took != 0)
    let s := setFrame s h (some { f with consumers := n, stage := .verdict })
    let s := if c.pubDir && took == 0 then
        txComplete s f.src 0 0 (f.ctx.getD 0) (if mask = 0 then 0x01 else 0xA1) (if mask = 0 then 3 else 2)
      else s
    if n = 0 then freeFrame s h else s
  | none => s

/-- A failed frame (R79): delivered marked where its delivery has begun or FAILPOL is 1, otherwise discarded; a published frame's
descriptor completes with the code. -/
def failOn (s : State) (h : Nat) (c : Ctx) (code : Nat) : State :=
  match getFrame s h with
  | some f =>
    let deliver := !c.pubDir && (f.delivery.isSome || c.failPol)
    let s := setFrame s h (some { f with consumers := bnat deliver, stage := .verdict })
    let s := if c.pubDir then txComplete s f.src 0 0 (f.ctx.getD 0) code 1 else s
    if deliver then s else freeFrame s h
  | none => s

/-- The flags of a frame's head word beside those given (R84, R85): TEST while the plug is energised, and the deferred flags where the
frame ends with a head word that no VERDICT.PUT has given them to; the answer says whether they are taken. -/
def headFlags (s : State) (f : FrameRec) (code flags : Nat) : Nat × Bool :=
  let t := if bit s.stn.si 0 then Nat.lor flags 0x40 else flags
  match f.ctx.bind (getCtx s) with
  | some c =>
    if c.pendingEval && !c.pubDir && !isPass code && (f.delivery.isSome || c.failPol) then (Nat.lor (Nat.lor t c.deferred) 0x80, true) else (t, false)
  | none => (t, false)

/-- The end of a frame with its final code and flags: staged state committed or discarded, counters, records, delivery and
forwarding, and the frame boundary of its context (R61, R66, R79, R80, R222, R271). -/
def finishVerdict (s : State) (h code flags : Nat) : State :=
  match getFrame s h with
  | none => s
  | some f =>
    if f.stage == .verdict || f.stage == .done then s
    else
      let r := headFlags s f code flags
      let s := setFrame s h (some { f with verdict := code, pflags := r.1, stage := .verdict, lanePending := false })
      match f.ctx with
      | none => freeFrame s h
      | some i =>
        match getCtx s i with
        | none => freeFrame s h
        | some c =>
          let c := if r.2 then { c with pendingEval := false, deferred := 0 } else c
          let bx := f.bobbin.map (getBob s)
          let staged := match bx with | some b => b.ctxStage | none => []
          let s := setCtx s i (some (if isPass code then c.passFrame f staged else c.failFrame))
          let s := if recordsFail code then record s (0x300 + code) 0x4 f.pilInst (failWords f i) else s
          let s := match f.bobbin, bx with
            | some b, some x =>
              let s := if isPass code || code == 0x80 then
                  x.posts.foldl (fun s it => postItem s (ownerOf s i) it) (applyStage s f.pillow x.stage)
                else s
              modBob s b (fun x => x.clearStage)
            | _, _ => s
          let s := if isPass code || code == 0x80 then balTrack s c f.frame else s
          let s := if isPass code then passOn s h c code else failOn s h c code
          let s := boundary s i
          let s := match getCtx s i with
            | some c => if isPass code && f.ksel && c.nstate == 2 && c.autoc && !c.pubDir then commitCtx s i (ptpSec32 s + c.overlap) else s
            | none => s
          ctxSettle s i

/-! ### Bobbin levels going idle -/

/-- Lane requests of a bobbin that no arbiter has admitted are taken back: its LANE.REQ has not issued them (R228, R270). -/
def dropWaiting (s : State) (b : Nat) : State :=
  let other := fun (e : Nat × LaneReq) => e.2.bobbin != some b
  let p := getPil s (b / 32)
  let s := setPil s (b / 32) { p with arb := { p.arb with waiting := p.arb.waiting.filter other } }
  { s with firn := { s.firn with needs := s.firn.needs.map (fun n => { n with waiters := n.waiters.filter other }) } }

/-- The foreground level lets its frame go, with everything staged, and what a shadow run holds. -/
def Bobbin.fgClear (x : Bobbin) : Bobbin :=
  { x.clearStage with
    frame := none, put := false, stop := false, shadow := none, await := none, result := none, copy := none
    wbuf := x.wbuf.filter (fun w => !w.fg) }

/-- The shadow run of a frame ends (R225). -/
def dropShadow (s : State) (p h : Nat) : State :=
  (bobsOf p).foldl (fun s k => if (getBob s k).shadow == some h then modBob s k Bobbin.fgClear else s) s

/-- The shadow run of a bobbin is over: its level is idle, and what it has put stays for the comparison (R225). -/
def shadowIdle (s : State) (b : Nat) : State :=
  modBob s b (fun x => { x.clearStage with frame := none, put := false, stop := false, copy := none, wbuf := x.wbuf.filter (fun w => !w.fg) })

/-- A shadow run puts its outcome (R225). -/
def shadowPut (s : State) (b code flags : Nat) : State :=
  modBob s b (fun x => { x with put := true, result := some ⟨b, code, flags, x.stage, x.ctxStage, x.posts⟩ })

/-- A shadow run that ends without VERDICT.PUT puts PROGRAM_TRAP and nothing staged; it raises no event and no record (R225). -/
def shadowTrap (s : State) (b : Nat) : State := shadowIdle (shadowPut (modBob s b Bobbin.clearStage) b 0xA3 0) b

/-- The foreground level goes idle: the bobbin lets its frame go, and a finished frame's record goes with it. -/
def fgIdle (s : State) (b : Nat) : State :=
  let x := getBob s b
  let s := dropWaiting (setBob s b x.fgClear) b
  match x.frame, x.shadow with
  | some h, none =>
    let s := dropShadow s (b / 32) h
    match getFrame s h with
    | some f => if f.stage == .done then setFrame s h none else s
    | none => s
  | _, _ => s

/-- The background level goes idle: its item's buffered writes go. -/
def bgIdle (s : State) (b : Nat) : State :=
  modBob s b (fun x => { x with item := none, bgStage := [], wbuf := x.wbuf.filter (fun w => w.fg) })

end Sys2Proof.Machine
end

