-- ==== Sys2Proof/Machine/PairOps.lean ====
section
/-! DEFINITION. Machine/PairOps.lean: the operations on the pair that other blocks share: state changes, DYING, the recovery window,
double faults, BLOCK and the takeover (R340 to R343, R351, R352). -/
namespace Sys2Proof.Machine

/-- BRD_CFG in force: AUTOSW is treated as 0 in the BRD safe state (R356). -/
def brdCfg (s : State) : Word := getReg s 0xD0020

/-- BLOCK asserted under BLOCKEN (R352). -/
def assertBlock (s : State) : State :=
  if fld (brdCfg s) 1 1 = 1 then { s with pair := { s.pair with block := true } } else s

/-- The tone of a pair state (R340): ACTIVE while the module publishes, STANDBY otherwise. -/
def PairState.tone : PairState → Sense
  | .single => .active | .active => .active | .alone => .active
  | .binding => .standby | .standby => .standby | .detached => .standby | .held => .standby

/-- The drive of a module that may drive a tone: DYING stays once driven (R340). -/
def PairSt.drive (p : PairSt) : PairSt := { p with psOut := if p.psOut = .dying then .dying else p.st.tone }

/-- The reservation of the invocation field that R174 asks for is on its way to NAND. -/
def reservePending (s : State) (i : Nat) (c : Ctx) : Bool :=
  s.journal.any (fun r => r.items.any (fun it => match it with
    | .ctx j (some d) => j == i && decide (c.reserve < d.reserve)
    | _ => false))

/-- The reservation that a STANDBY keeps: the mirrored value plus 2^40 plus 2^20 (R343). -/
def standbyReserve (s : State) (i : Nat) (c : Ctx) : State :=
  if c.reserve ≤ c.iv + 2 ^ 40 + 2 ^ 19 ∧ reservePending s i c = false then
    journalAdd s [.ctx i (some { c with reserve := c.iv + 2 ^ 40 + 2 ^ 20 })]
  else s

/-- Every publisher's reservation as a STANDBY keeps it, so that publishing after a takeover waits for no journal write (R343). -/
def standbyReserveAll (s : State) : State :=
  (ctxList s).foldl (fun s e => if e.2.pubDir then standbyReserve s e.1 e.2 else s) s

/-- A change of the pair state (R342): ROLECHG, PAIR_ROLE with its event, BLOCK on entry to HELD (R352), and a STANDBY's
reservations (R343). -/
def setPairState (s : State) (st : PairState) (event : Nat) : State :=
  if s.pair.st = st then s
  else
    let old := s.pair.st
    let s := { s with pair := { s.pair with st := st }.drive }
    let s := record (setEvt s 0xD0 0) 0x0600 0xC 0 [old.code, st.code, event]
    if st = .held then assertBlock s else if st = .standby then standbyReserveAll s else s

/-- Entry to DYING on a trigger of R340: heartbeats, publish records and new published frames stop. -/
def pairDying (s : State) : State := { s with pair := { s.pair with psOut := .dying } }

/-- The recovery window opens (R351): 0x1 takeover, 0x2 link loss, 0x3 pair-sense fault, 0x4 ambiguous loss. -/
def openWindow (s : State) (first : Nat) : State :=
  morSync { s with pair := { s.pair with recov := true, firstFault := first, failMask := 0 } }

/-- The pairs of faults that R351 lists, by the codes of PAIR_DOUBLE (R417). -/
def doubleListed (first second : Nat) : Bool :=
  match first with
  | 1 => (decide (1 ≤ second ∧ second ≤ 5)) || second == 9
  | 2 => second == 6 || second == 7
  | 3 => second == 8
  | _ => false

/-- A second fault: inside the recovery window a listed pair is a DOUBLE event with its record and BLOCK; the frames of the pillows
given end with PAIR_FAIL until the window ends (R351, R352). -/
def doubleFault (s : State) (second mask : Nat) : State :=
  if s.pair.recov && doubleListed s.pair.firstFault second then
    let s := record (setEvt s 0xD0 6) 0x0604 0xC 0 [s.pair.firstFault, second]
    let s := assertBlock s
    { s with pair := { s.pair with failMask := Nat.lor s.pair.failMask mask } }
  else s

/-- Frames of a pillow end with PAIR_FAIL until the window ends (R351). -/
def pairFails (s : State) (p : Nat) : Bool := s.pair.recov && bit s.pair.failMask p

/-- The takeover of R343; a stale one also advances the sequence counters of PRP and HSR. -/
def takeover (s : State) (stale : Bool) (event : Nat) : State :=
  let s := setPairState (incReg s 0xD0030) .alone event
  let s := (ctxList s).foldl (fun s e => if e.2.pubDir then setCtx s e.1 (some (e.2.setIv (min (e.2.iv + 2 ^ 40) (2 ^ 64 - 1)))) else s) s
  let s := if stale then
      (List.range 2).foldl (fun s k =>
        { s with pairNet := smapMod (fun _ => ⟨[], 0⟩) s.pairNet k (fun x => { x with seqNo := (x.seqNo + 2 ^ 15) % 2 ^ 16 }) }) s
    else s
  let s := { s with pair := { s.pair with heldFrames := [], psOut := if zeroisedNow s then s.pair.psOut else .active } }
  openWindow s 1

/-- BRD_STATE (R355). -/
def brdStateWord (s : State) : Word :=
  let p := s.pair
  pack [(p.st.code, 29), (p.member, 28), (bnat p.pref, 27), (p.psIn.code, 25), (bnat p.hb, 24), (p.lanes, 22), (bnat p.recov, 21),
    (bnat p.block, 20), (bnat p.rpart, 19)]

/-- The counters that a publish record names: first and last smpCnt, or stNum and sqNum (R335). -/
def pubCounters (c : Ctx) (f : Frame) : Nat × Nat :=
  if c.isSv then (f.smpCnts.headD 0, f.smpCnts.getLastD 0) else (f.stNum, f.sqNum)

/-- The publish record that an ACTIVE sends for a frame whose last byte has left (R335). -/
def publishRecordOf (i : Nat) (c : Ctx) (f : FrameRec) : PubRecord :=
  let k := pubCounters c f.frame
  let q := match f.seqs with | e :: _ => e.2 | [] => 0
  ⟨i, k.1, k.2, f.iv, q, Config.frameDigest f.frame.bytes q⟩

/-- The final record of a switchover, with the exact publisher counters (R346). -/
def finalRecord (s : State) : MirrorItem :=
  .final ((ctxList s).filterMap (fun e => if e.2.pubDir then some (e.1, e.2.iv) else none))
    ((List.range 2).map (fun k => (k, (getPairNet s k).seqNo)))

/-- The ACTIVE sends its final record and is STANDBY (R346). -/
def switchOver (s : State) : State :=
  let s := setPairState (mirrorSend s (finalRecord s)) .standby 5
  { s with pair := { s.pair with partnerSt := .active } }

/-- The automatic switchover of R346 is due: AUTOSW, ACTIVE with the partner STANDBY, the page not in its safe state. -/
def autoSwitch (s : State) : State :=
  if fld (brdCfg s) 0 0 = 1 ∧ pageSafe s 0xD0 = false ∧ s.pair.st = .active ∧ s.pair.partnerSt = .standby then
    switchOver s
  else s

end Sys2Proof.Machine
end

