-- ==== Sys2Proof/Machine/PortOps.lean ====
section
/-! DEFINITION. Machine/PortOps.lean: ports going down, frames leaving or losing an egress queue, the lookup of R54, and admission to
a pillow (R54 to R58, R95, R98 to R115, R128 to R131). -/
namespace Sys2Proof.Machine

/-! ### Frames and their egress -/

/-- A frame of the pool before its gates are judged. -/
def FrameRec.fresh (f : Frame) (src : FrameSrc) (ts : Nat) (ctx : Option Nat) (pillow cells order : Nat) (high : Bool) : FrameRec :=
  { frame := f, src := src, ts := ts, ctx := ctx, pillow := pillow, cells := cells, stage := .ready, high := high, order := order,
    bobbin := none, gate := 0, window := none, passCode := 1, ksel := false, rpl := [], wrote := [], given := [], vote := [], laneStatus := none,
    lanePending := false, gated := false, iv := 0, verdict := 0, pflags := 0, delivery := none, rxDropped := false, out := none, seqs := [], badFcs := false, link := none, pairWas := none,
    egress := 0, consumers := 0, plain := false, rerun := false, rxDone := false, tck := 0, tnk := 0, sent := none, txDone := false, pubRec := none }

/-- A frame put into the pool; the answer is its handle. -/
def addFrame (s : State) (f : FrameRec) : Nat × State :=
  let h := s.pool.next
  (h, setFrame { s with pool := { s.pool with next := h + 1 } } h (some f))

/-- A frame has left a port, or will not leave it any more: its cells go once no port and no delivery needs them (R282). -/
def leavePort (s : State) (n h : Nat) : State :=
  match getFrame s h with
  | some f =>
    let e := if bit f.egress n then f.egress - 2 ^ n else f.egress
    let s := setFrame s h (some { f with egress := e })
    if e = 0 then releaseFrame s h else s
  | none => s

/-- A queued frame discarded at its port (R115, R116, R129, R130): counted, and its descriptor completes with EGRESS_DROP when no
other port sends it. -/
def dropQueued (s : State) (n h : Nat) : State :=
  let s := portDrop s n
  match getFrame s h with
  | some f =>
    let last := f.egress == 2 ^ n
    let s := if last && !f.txDone then txComplete s f.src 0 0 (f.ctx.getD 3) 0xA1 2 else s
    leavePort s n h
  | none => s

/-- Every frame queued on a port or leaving it discarded. -/
def flushPort (s : State) (n : Nat) : State :=
  let p := getPort s n
  let hs := (match p.tx with | some h => [h] | none => []) ++ p.q1 ++ p.q2 ++ p.q3
  let s := setPort s n { p with q1 := [], q2 := [], q3 := [], tx := none, txFrame := none }
  hs.foldl (fun s h => dropQueued s n h) s

/-- A frame taken out of the pool before any delivery, without verdict: a bobbin that runs it stops (R107, R108, R272). -/
def withdrawFrame (s : State) (h : Nat) : State :=
  match getFrame s h with
  | some f =>
    let s := match f.bobbin with
      | some b => modBob s b (fun x => if x.frame = some h then { x with stop := true, await := none } else x)
      | none => s
    freeFrame { s with pair := { s.pair with heldFrames := s.pair.heldFrames.filter (· != h) } } h
  | none => s

/-- A frame that the module ends under its bobbin: the level stops at its next instruction (R272). -/
def endUnder (s : State) (h code : Nat) : State :=
  let b := (getFrame s h).bind (fun f => f.bobbin)
  let s := finishVerdict s h code 0
  match b with
  | some b => modBob s b (fun x => if x.frame = some h then { x with stop := true, await := none } else x)
  | none => s

/-! ### Links (R98, R99, R128 to R131) -/

/-- The port may bring its link up: a coding, its domain on, no port hold, no reset (R128). -/
def portEnabled (s : State) (n : Nat) : Bool := portSpeed s n != 0 && bit s.pwc.port n && !s.boot.portHold && !s.boot.inReset && bit s.pwc.clkOk 0

/-- The ingress timestamp of a frame that starts now: on SGMII less the receive latency of PBP_PHYLAT (R124). -/
def rxTime (s : State) (n : Nat) : Nat := ptpNow s - (if portSpeed s n = 4 then fld (getReg s (pbpReg n 0x2C)) 15 0 else 0)

/-- PBP_LINK (R131). -/
def pbpLink (s : State) (n : Nat) : Word :=
  let p := getPort s n
  pack [(bnat p.up, 31), (p.speedAct, 28), (bnat p.fecAct, 27), (bnat p.los, 26), (bnat p.spdErr, 25), (bnat p.phySpeed, 24)]

/-- The copy of a frame that was passed on around the ring and proves bad: it ends on the egress port with an inverted FCS (R110). -/
def endCopy (s : State) (copy : Option Nat) : State :=
  match copy with
  | some h => modFrame s h (fun f => { f with badFcs := true })
  | none => s

/-- A frame in reception that is lost with its link: one whose header reached classification ends with FCS_ERROR (R100). -/
def rxLost (s : State) (n : Nat) : State :=
  let p := getPort s n
  let s := endCopy (setPort s n { p with rx := .nowhere, rxFrame := none, rxPassed := false, rxCopy := none }) p.rxCopy
  match p.rxFrame, p.rx with
  | some _, .pool h => endUnder s h 0x60
  | _, _ => s

/-- A link state: a change of UP is LINKCHG with its LINK record, a fall counts and takes the port's frames (R130, R131). -/
def setLink (s : State) (n : Nat) (up : Bool) : State :=
  let p := getPort s n
  let s := setPort s n { p with up := up, speedAct := if up then portSpeed s n else 0, fecAct := p.fecAct && up }
  if p.up = up then s
  else
    let s := record (setEvt s (0x10 + n) 0) 0x0100 0x2 n [(pbpLink s n).toNat]
    if up then s else flushPort (rxLost (incReg s (pbpReg n 0x4C)) n) n

/-- A port taken down. -/
def portDown (s : State) (n : Nat) : State := setLink s n false

/-! ### The lookup (R54 to R56) -/

/-- The segment of a port (R55). -/
def segmentOf (s : State) (n : Nat) : Nat := fld (getReg s (regAddr 0x20 0x20)) (2 * n + 1) (2 * n)

/-- The lookup key of a frame from a segment; none for a form that is never classified (R54, R101). -/
def keyOf (seg : Nat) (f : Frame) : Option LookupKey :=
  match f.form with
  | .sv => some ⟨seg, false, 0, 0, f.dstMac, 0, f.vlanId, f.appId, 0⟩
  | .goose => some ⟨seg, false, 1, 0, f.dstMac, 0, f.vlanId, f.appId, 0⟩
  | .rsv4 => some ⟨seg, true, 0, 0, f.dstAddr, f.srcAddr, 0, 0, f.udpPort⟩
  | .rsv6 => some ⟨seg, true, 1, 0, f.dstAddr, f.srcAddr, 0, 0, f.udpPort⟩
  | .rgoose4 => some ⟨seg, true, 0, 1, f.dstAddr, f.srcAddr, 0, 0, f.udpPort⟩
  | .rgoose6 => some ⟨seg, true, 1, 1, f.dstAddr, f.srcAddr, 0, 0, f.udpPort⟩
  | _ => none

/-- The context that a key reaches (R56). -/
def lookup (s : State) (k : LookupKey) : Option Nat := (s.cls.table.find? (fun e => e.1 == k)).map (·.2)

/-- The context has a classifier entry: among publishers, those of BITW (R112). -/
def classified (s : State) (i : Nat) : Bool := s.cls.table.any (fun e => e.2 == i)

/-! ### Source fields and counters of published frames (R88, R89) -/

/-- The frame's source fields equal the identity registered for the context (R88). -/
def identOk (c : Ctx) (f : Frame) : Bool :=
  match c.pub with
  | some p => p.srcMac == f.srcMac && p.vlanId == f.vlanId && p.appId == f.appId && p.ident == f.ident
  | none => false

/-- The IP addresses and the UDP port of a routed frame equal the context's lookup fields (R315). -/
def routedOk (c : Ctx) (f : Frame) : Bool :=
  if kindRouted c.kind then
    match c.key with
    | some k => k.dst == f.dstAddr && k.src == f.srcAddr && k.udpPort == f.udpPort
    | none => false
  else true

/-- A frame from the field port of a BITW pair for a publisher context: 0x64 where R88 drops it (R112). -/
def bitwSpoof (c : Ctx) (f : Frame) : Nat :=
  if c.kind ≤ 1 ∧ f.ext.isNone = true ∧ identOk c f = true then 0 else 0x64

/-! ### Admission (R95) -/

/-- Frames of a context that wait for dispatch. -/
def waitingCount (s : State) (i : Nat) : Nat := ((ctxFrames s i).filter (fun e => e.2.stage == .ready)).length

/-- The refusal that R95, R288 or R291 gives a frame of a context: the status bit of its counter, none where it is admitted. -/
def admitRefusal (s : State) (i : Nat) (c : Ctx) : Option Nat :=
  let p := c.moving.getD c.home
  let lim := (cfgOrSafe s (0x40 + p) (if c.prio then 0x100 else 0x104)).toNat
  let cls := if c.prio then 1 else 0
  if lim < (getPil s p).qcells + 12 then some cls
  else if pageSafe s 0xA0 ∧ s.pool.free < txReserve s + 12 then some cls
  else if s.pool.restarting then some cls
  else if (cfgOrSafe s (0x40 + p) 0x108).toNat ≤ waitingCount s i then some 2
  else none

/-- A refusal at admission: CTX_REFUSED, the pillow's counter and its status bit (R95). -/
def refuseFrame (s : State) (i : Nat) (c : Ctx) (k : Nat) : State :=
  let s := setCtx s i (some (c.setWord 0x40 (satInc (c.word 0x40))))
  let p := c.moving.getD c.home
  setEvt (incReg s (regAddr (0x40 + p) (0x110 + 4 * k))) (0x40 + p) k

/-- A received frame of a context admitted at its first cell with 12 cells reserved, or refused (R95). A frame that reaches a
publisher context is one to publish from a BITW field port: anything else of it is judged SPOOF (R112). DESIGN CHOICE (log entry 131): a frame
without extension from the field port that reaches a subscriber context is judged as any frame of that context. A context that is
moving takes its frames at the destination (R233). -/
def admitFrame (s : State) (n i : Nat) (c : Ctx) (f : Frame) : State × RxTo :=
  match admitRefusal s i c with
  | some k => (refuseFrame s i c k, .nowhere)
  | none =>
    let p := c.moving.getD c.home
    let s := claimRx s p 12
    let o := (getPil s p).order
    let s := modPil s p (fun x => { x with order := o + 1 })
    let r := FrameRec.fresh f (.port n) (rxTime s n) (some i) p 12 o c.prio
    let gate := if c.pubDir then (if pairMode s n = 3 ∧ isField s n = true then bitwSpoof c f else 0x64) else 0
    let (h, s) := addFrame (enqueued s (inputNo p c.pubDir c.prio)) { r with gate := gate }
    (s, .pool h)

/-! ### The end of a delivery (R72, R73, R82, R316) -/

/-- The head word and the completion entry of a delivery that has begun (R72, R316). -/
def writeHead (s : State) (h : Nat) : State :=
  match getFrame s h with
  | some f =>
    match f.delivery with
    | some d =>
      let x := getSlice s d.slice
      let s := modSlice s d.slice (fun x => { x with inFlight := x.inFlight - 1 })
      if x.writes then
        let s := sliceWrite s d.slice d.addr (leBytes 8 (headWord f.frame.bytes.length f.verdict f.pflags f.ts))
        let s := setFrame s h (some { f with delivery := some { d with head := true } })
        cqWriteReserved s d.slice f.ts 0 f.srcPort (f.ctx.getD 0) d.bufId f.verdict f.pflags
      else modSlice s d.slice (fun x => { x with cqResv := x.cqResv - 1 })
    | none => s
  | none => s

/-- The plaintext of ALG 6 is never delivered after a fail: LENGTH is 0 (R82). -/
def dropPlain (s : State) (h : Nat) : State :=
  match getFrame s h with
  | some f =>
    match f.ctx.bind (getCtx s) with
    | some c => if c.alg = 6 ∧ isPass f.verdict = false ∧ f.delivery.isNone = true then
        setFrame s h (some { f with frame := { f.frame with bytes := [] } }) else s
    | none => s
  | none => s

/-- The delivery of a frame with its verdict is finished: begun first where it has not begun, then the head word; the frame's cells
are released (R73, R76, R79, R282). -/
def finishDelivery (s : State) (h : Nat) : State :=
  match getFrame s h with
  | some f => if f.deliveryDue then releaseFrame (writeHead (beginDelivery (dropPlain s h) h) h) h else s
  | none => s

end Sys2Proof.Machine
end

