-- ==== Sys2Proof/Machine/Flags.lean ====
section
/-! DEFINITION. Machine/Flags.lean: the registers, predicates and sticky flags of one level of a bobbin (R243, R246, R248). -/
namespace Sys2Proof.Machine

/-- General register n of a level: g0 reads as 0 (R243). -/
def Level.reg (l : Level) (n : Nat) : Word := if n = 0 then 0 else smapGet (fun _ => 0) l.g n

/-- General register n written; a write to g0 is discarded (R243). -/
def Level.setReg (l : Level) (n : Nat) (v : Word) : Level := if n = 0 then l else { l with g := smapSet (fun _ => 0) l.g n v }

/-- Predicate n: p0 reads as true (R243). -/
def Level.pred (l : Level) (n : Nat) : Bool := n == 0 || bit l.p n

/-- Predicate n, 1 to 7, written. -/
def Level.setPred (l : Level) (n : Nat) (b : Bool) : Level :=
  { l with p := if bit l.p n then (if b then l.p else l.p - 2 ^ n) else (if b then l.p + 2 ^ n else l.p) }

/-- The pc moved past the instruction. -/
def Level.adv (l : Level) : Level := { l with pc := l.pc + 4 }

/-- Sticky ESTAT flags set, none cleared (R246): V 1, DZ 2, SAT 4, AV 8. -/
def Level.flag (l : Level) (m : Nat) : Level := { l with estat := Nat.lor l.estat m }

/-- ESTAT flag masks (R246). -/
def flagV : Nat := 1
def flagDZ : Nat := 2
def flagSAT : Nat := 4
def flagAV : Nat := 8

/-- Clamping to a range, with the SAT flag where it clamps (R253). -/
def satTo (x lo hi : Int) : Int × Nat := if x < lo then (lo, flagSAT) else if hi < x then (hi, flagSAT) else (x, 0)

/-- The 32-bit pattern of an integer, modulo 2^32. -/
def wInt (x : Int) : Word := BitVec.ofInt 32 x

/-- A clamped result as a word with its flag. -/
def satWord (x lo hi : Int) : Word × Nat := let r := satTo x lo hi; (wInt r.1, r.2)

/-- The guard of R248: the predicate after inversion by N. -/
def Level.guard (l : Level) (guard : Nat) (n : Bool) : Bool := l.pred guard != n

/-- Address generator n of a level (R261). -/
def Level.agen (l : Level) (n : Nat) : AgSt := smapGet (fun _ => AgSt.zero) l.ag n

def Level.setAgen (l : Level) (n : Nat) (a : AgSt) : Level := { l with ag := smapSet (fun _ => AgSt.zero) l.ag n a }

/-- Accumulator 0 or 1. -/
def Level.acc (l : Level) (n : Nat) : Int := if n = 0 then l.acc0 else l.acc1

def Level.setAcc (l : Level) (n : Nat) (v : Int) : Level := if n = 0 then { l with acc0 := v } else { l with acc1 := v }

/-- ALU function codes 0x00 to 0x13 (R253, R255): result and flags; none for a reserved code. -/
def aluFn (fn : Nat) (a b : Word) : Option (Word × Nat) :=
  let big := fun (x y : Int) => satWord (if fn = 0x0A ∨ fn = 0x0C then x + y else x - y)
  match fn with
  | 0x00 => some (a + b, 0)
  | 0x01 => some (a - b, 0)
  | 0x02 => some (a &&& b, 0)
  | 0x03 => some (a ||| b, 0)
  | 0x04 => some (a ^^^ b, 0)
  | 0x05 => some (a &&& ~~~b, 0)
  | 0x06 => some (if a.toInt < b.toInt then a else b, 0)
  | 0x07 => some (if a.toInt < b.toInt then b else a, 0)
  | 0x08 => some (if a.toNat < b.toNat then a else b, 0)
  | 0x09 => some (if a.toNat < b.toNat then b else a, 0)
  | 0x0A => some (big a.toInt b.toInt (-2147483648) 2147483647)
  | 0x0B => some (big a.toInt b.toInt (-2147483648) 2147483647)
  | 0x0C => some (big a.toNat b.toNat 0 4294967295)
  | 0x0D => some (big a.toNat b.toNat 0 4294967295)
  | 0x0E => some (0 - a, if a = 0x80000000#32 then flagV else 0)
  | 0x0F => some (satWord (-a.toInt) (-2147483648) 2147483647)
  | 0x10 => some (if a.toInt < 0 then 0 - a else a, if a = 0x80000000#32 then flagV else 0)
  | 0x11 => some (satWord (if a.toInt < 0 then -a.toInt else a.toInt) (-2147483648) 2147483647)
  | 0x12 => some (satWord a.toInt (-32768) 32767)
  | 0x13 => some (satWord a.toInt (-128) 127)
  | _ => none

/-- A unary ALU function, whose rb field must be 0 (R253). -/
def aluUnary (fn : Nat) : Bool := decide (0x0E ≤ fn ∧ fn ≤ 0x13)

/-- MULDIV functions with the edge results of R255. -/
def mulDivFn (fn : Nat) (a b : Word) : Option (Word × Nat) :=
  let ov := a = 0x80000000#32 ∧ b = 0xFFFFFFFF#32
  match fn with
  | 0 => some (a * b, 0)
  | 1 => some (wInt (Int.fdiv (a.toInt * b.toInt) (2 ^ 32)), 0)
  | 2 => some (w32 (a.toNat * b.toNat / 2 ^ 32), 0)
  | 3 => some (if b = 0 then (0, flagDZ) else if ov then (a, flagV) else (wInt (Int.tdiv a.toInt b.toInt), 0))
  | 4 => some (if b = 0 then (0, flagDZ) else (w32 (a.toNat / b.toNat), 0))
  | 5 => some (if b = 0 then (a, flagDZ) else if ov then (0, flagV) else (wInt (Int.tmod a.toInt b.toInt), 0))
  | 6 => some (if b = 0 then (a, flagDZ) else (w32 (a.toNat % b.toNat), 0))
  | _ => none

/-- Shift functions (R255, R256): a count of 32 or more empties SLL and SRL, fills SRA with the sign, and is taken modulo 32 by
the rotations. -/
def shiftFn (fn : Nat) (a : Word) (n : Nat) : Option Word :=
  match fn with
  | 0 => some (if 32 ≤ n then 0 else a <<< n)
  | 1 => some (if 32 ≤ n then 0 else a >>> n)
  | 2 => some (a.sshiftRight (min n 32))
  | 3 => some (a.rotateLeft (n % 32))
  | 4 => some (a.rotateRight (n % 32))
  | _ => none

/-- Leading zero bits (R258). -/
def clzFrom (a : Nat) : Nat → Nat
  | 0 => 0
  | n + 1 => if bit a n then 0 else 1 + clzFrom a n

/-- Byte permutation: byte j of the result is byte sel[2j+1:2j] (R258). -/
def permFn (a : Word) (sel : Nat) : Word :=
  w32 ((List.range 4).foldl (fun acc j => acc + bits a.toNat (8 * bits sel (2 * j + 1) (2 * j) + 7) (8 * bits sel (2 * j + 1) (2 * j)) * 2 ^ (8 * j)) 0)

/-- BFX: the field of width w at pos, zero- or sign-extended (R257). -/
def bfxFn (a : Word) (pos w : Nat) (sg : Bool) : Word :=
  let f := a.toNat / 2 ^ pos % 2 ^ w
  if sg then wInt (sgn w f) else w32 f

/-- BFI: the low w bits of ra placed at pos of rd (R257). -/
def bfiFn (rd a : Word) (pos w : Nat) : Word :=
  let m := w32 ((2 ^ w - 1) * 2 ^ pos)
  (rd &&& ~~~m) ||| w32 (a.toNat % 2 ^ w * 2 ^ pos)

/-- The conditions of R266. -/
def condFn (c : Nat) (a b : Word) : Option Bool :=
  match c with
  | 0 => some (a == b)
  | 1 => some (a != b)
  | 2 => some (decide (a.toInt < b.toInt))
  | 3 => some (decide (b.toInt ≤ a.toInt))
  | 4 => some (decide (a.toNat < b.toNat))
  | 5 => some (decide (b.toNat ≤ a.toNat))
  | 6 => some (a &&& b != 0)
  | 7 => some (a &&& b == 0)
  | _ => none

/-- The combination of a condition into its predicate (R266). -/
def combFn (comb : Nat) (old c : Bool) : Bool :=
  match comb with
  | 0 => c
  | 1 => old && c
  | _ => old || c

/-- The sum of products of MAC (R259); none for the reserved op. -/
def macSum (op : Nat) (a b : Word) : Option Int :=
  let lo := fun (x : Word) => sgn 16 x.toNat
  let hi := fun (x : Word) => sgn 16 (x.toNat / 65536)
  match op with
  | 0 => some (lo a * lo b + hi a * hi b)
  | 1 => some (lo a * hi b + hi a * lo b)
  | 2 => some (lo a * lo b - hi a * hi b)
  | _ => none

/-- The accumulator after MAC, with SAT or AV (R259). -/
def macAcc (acc sum : Int) (sub sat : Bool) : Int × Nat :=
  let t := acc + (if sub then -sum else sum)
  if sat then satTo t (-140737488355328) 140737488355327
  else
    let w := sgn 48 (t % (2 ^ 48 : Int)).toNat
    (w, if w = t then 0 else flagAV)

/-- ACCRD by mode (R260): result and flags. -/
def accRead (acc : Int) (mode sh : Nat) : Word × Nat :=
  match mode with
  | 0 => (wInt acc, 0)
  | 1 => (wInt (Int.fdiv acc (2 ^ 32)), 0)
  | 2 => satWord (Int.fdiv acc (2 ^ sh : Nat)) (-2147483648) 2147483647
  | _ => satWord (Int.fdiv acc (2 ^ sh : Nat)) (-32768) 32767

/-- ACCWR: bits [47:32] from ra, [31:0] from rb, signed (R260). -/
def accWrite (a b : Word) : Int := sgn 48 (a.toNat % 65536 * 2 ^ 32 + b.toNat)

/-- LEN of an address generator (R261). -/
def AgSt.len (a : AgSt) : Nat := fld a.cfg 15 0 + 1

def AgSt.mode (a : AgSt) : Nat := fld a.cfg 31 30

/-- The k low bits of x reversed (R262). -/
def revBits : Nat → Nat → Nat
  | 0, _ => 0
  | k + 1, x => x % 2 * 2 ^ k + revBits k (x / 2)

/-- The exponent of a power of two. -/
def log2Of (n : Nat) : Nat := Nat.log2 n

/-- The address of an access (R262). -/
def AgSt.addr (a : AgSt) (disp : Int) : Word :=
  let e : Word :=
    match a.mode with
    | 0 => wInt (a.idx.toNat + disp)
    | 1 => w32 (((a.idx.toNat + disp) % (a.len : Int)).toNat)
    | _ => a.idx
  a.base + e <<< fld a.cfg 29 28

/-- The generator after an access with UPD = 1 (R262). -/
def AgSt.advance (a : AgSt) : AgSt :=
  match a.mode with
  | 0 => { a with idx := a.idx + a.inc }
  | 1 => { a with idx := w32 ((((a.idx.toNat : Int) + a.inc.toInt) % (a.len : Int)).toNat) }
  | _ =>
    let k := log2Of a.len
    { a with idx := w32 (revBits k ((revBits k a.idx.toNat + a.inc.toNat) % 2 ^ k)) }

/-- A CFG value that AGSET refuses (R261). -/
def agCfgBad (v : Word) : Bool :=
  let len := fld v 15 0 + 1
  fld v 31 30 == 3 || fld v 27 16 != 0 || (fld v 31 30 == 2 && (decide (len < 2) || 2 ^ log2Of len != len))

end Sys2Proof.Machine
end

