-- ==== Sys2Proof/Machine/Operands.lean ====
section
/-! DEFINITION. Machine/Operands.lean: the operand formats of the Pypian-2 instruction word (R248, R250). Every operand field of a
word and the reserved bits of each format. -/
namespace Sys2Proof.Machine

/-- The 32-bit word that an OpWord stands for under a MAJOR (R248). -/
def wordOf (major : Nat) (w : OpWord) : Word :=
  pack [(w.guard.toNat, 29), (bnat w.n, 28), (major, 22), (w.ops.toNat, 0)]

/-- Bits [hi:lo] of the operand field. -/
def opf (w : OpWord) (hi lo : Nat) : Nat := bits w.ops.toNat hi lo

/-- rd of formats R, I, H, S, B, P, L, G and of the stream operations. -/
def opRd (w : OpWord) : Nat := opf w 21 17
/-- ra of formats R, I, M, AW, S, B, P, C and CI. -/
def opRa (w : OpWord) : Nat := opf w 16 12
/-- rb of formats R, M, AW and C; count of S; pos of B. -/
def opRb (w : OpWord) : Nat := opf w 11 7
/-- fn of formats R and S. -/
def opFn (w : OpWord) : Nat := opf w 6 0

/-- imm12 of format I, sign-extended (R254). -/
def opImmS (w : OpWord) : Word := wInt (sgn 12 (opf w 11 0))
/-- imm12 of format I, zero-extended (R254). -/
def opImmZ (w : OpWord) : Word := w32 (opf w 11 0)
/-- imm16 of format H. -/
def opImm16 (w : OpWord) : Nat := opf w 15 0
/-- imm9 of format CI, sign-extended. -/
def opImm9 (w : OpWord) : Word := wInt (sgn 9 (opf w 8 0))
/-- off22 of format J, in words. -/
def opOff (w : OpWord) : Word := wInt (4 * sgn 22 (opf w 21 0))
/-- disp of format L. -/
def opDisp (w : OpWord) : Int := sgn 10 (opf w 9 0)

/-- Reserved operand bits: the ranges (hi, lo) that must read 0, cause 0x05 (R250). -/
def rsvdBits (w : OpWord) (ranges : List (Nat × Nat)) : List Nat :=
  if ranges.all (fun r => opf w r.1 r.2 == 0) then [] else [0x05]

/-- The cause that a word's decoding raises: the lowest of those met (R249, R274). GUARD 0b000 with N = 1 is GUARD_NEVER. -/
def decodeCause (w : OpWord) (causes : List Nat) : Option Nat :=
  let cs := if w.guard = 0 ∧ w.n then 0x03 :: causes else causes
  match cs with
  | [] => none
  | c :: rest => some (rest.foldl min c)

end Sys2Proof.Machine
end

