-- ==== Sys2Proof/Machine/BobbinOps.lean ====
section
/-! DEFINITION. Machine/BobbinOps.lean: a bobbin's memories and their protection (R210, R211, R222, R238 to R240, R264, R265), its
levels, and its traps (R272 to R276). -/
namespace Sys2Proof.Machine

/-! ### Levels -/

/-- The level that runs: the foreground level while a frame is held, else the background level while an item is in progress (R24). -/
def activeFg (x : Bobbin) : Option Bool := if x.frame.isSome then some true else if x.item.isSome then some false else none

def Bobbin.level (x : Bobbin) (fg : Bool) : Level := if fg then x.fg else x.bg

def Bobbin.setLevel (x : Bobbin) (fg : Bool) (l : Level) : Bobbin := if fg then { x with fg := l } else { x with bg := l }

/-- The level of a bobbin written. -/
def putLevel (s : State) (b : Nat) (fg : Bool) (l : Level) : State := modBob s b (fun x => x.setLevel fg l)

/-- The frame record that a bobbin holds. -/
def heldFrame (s : State) (x : Bobbin) : Option FrameRec := x.frame.bind (getFrame s)

/-- The context of the level: of the held frame, or the item's target; none for a BAL_EVAL item. -/
def levelCtx (s : State) (x : Bobbin) (fg : Bool) : Option Nat :=
  if fg then (heldFrame s x).bind (fun f => f.ctx)
  else match x.item with
    | some it => if it.target < 0x40000 then some it.target else none
    | none => none

/-- The balance group of the level: that of its context, or of a BAL_EVAL item (R211). -/
def levelGroup (s : State) (x : Bobbin) (fg : Bool) : Option Nat :=
  let ofCtx := (levelCtx s x fg).bind (fun i => (getCtx s i).bind (fun c => if c.bal then some c.bgroup else none))
  if fg then ofCtx
  else match x.item with
    | some it => if 0x40000 ≤ it.target then some (it.target - 0x40000) else ofCtx
    | none => none

/-- The image that a pillow runs for a context's KIND and DIR (R217). -/
def imageFor (s : State) (p : Nat) (kind : Nat) (pub : Bool) : Option Image :=
  match ((getPil s p).assign.getD (2 * kind + bnat pub) none) with
  | some (id, ver) => s.images.find? (fun m => m.pgmId == id && m.pgmVer == ver)
  | none => none

/-- The image of the program that a level runs. -/
def levelImage (s : State) (b : Nat) (x : Bobbin) (fg : Bool) : Option Image :=
  let byCtx := fun (i : Nat) => (getCtx s i).bind (fun c => imageFor s (b / 32) c.kind c.pubDir)
  match levelCtx s x fg with
  | some i => byCtx i
  | none =>
    match levelGroup s x fg with
    | some g => match members s g with
      | e :: _ => byCtx e.1
      | [] => none
    | none => none

/-! ### Memory map (R211) -/

/-- Where a bobbin address leads. -/
inductive Loc
  | iram (off : Nat)
  | dram (off : Nat)
  /-- Shared RAM, addressed directly. -/
  | shared (off : Nat)
  | frame (off : Nat)
  /-- The scratch window: the offset in the context's scratch. -/
  | scratch (off : Nat)
  | balance (off : Nat)
  | control (off : Nat)
  | nowhere
  deriving DecidableEq, Repr

def locOf (a : Nat) : Loc :=
  if a < 0x8000 then .iram a
  else if 0x10000000 ≤ a ∧ a < 0x10010000 then .dram (a - 0x10000000)
  else if 0x20000000 ≤ a ∧ a < 0x20100000 then .shared (a - 0x20000000)
  else if 0x30000000 ≤ a ∧ a < 0x30000600 then .frame (a - 0x30000000)
  else if 0x31000000 ≤ a ∧ a < 0x31002000 then .scratch (a - 0x31000000)
  else if 0x32000000 ≤ a ∧ a < 0x32000800 then .balance (a - 0x32000000)
  else if 0x40000000 ≤ a ∧ a < 0x40001000 then .control (a - 0x40000000)
  else .nowhere

/-- The keys of bobbin-private RAM in the model's memory. -/
def iramKey (b off : Nat) : Nat := 2 ^ 40 + b * 2 ^ 18 + off
def dramKey (b off : Nat) : Nat := 2 ^ 40 + b * 2 ^ 18 + 0x10000 + off
/-- A pillow's shared RAM on the fabric (R295). -/
def sharedKey (p off : Nat) : Nat := 0x810000000 + p * 0x100000 + off

/-- The images that a pillow assigns, in the order of their first entries (R217, log entry 15). -/
def assigned (s : State) (p : Nat) : List Image :=
  ((getPil s p).assign.filterMap id).eraseDups.filterMap (fun e => s.images.find? (fun m => m.pgmId == e.1 && m.pgmVer == e.2))

/-- The images that lie before one in a pillow's RAMs. -/
def imagesBefore (s : State) (p : Nat) (m : Image) : List Image :=
  (assigned s p).takeWhile (fun y => !(y.pgmId == m.pgmId && y.pgmVer == m.pgmVer))

/-- DBASE: where the running image's data section lies: after the data of the images assigned to earlier entries (R247, log entry
15). -/
def dataBase (s : State) (p : Nat) (m : Image) : Nat := 0x10002000 + ((imagesBefore s p m).foldl (fun a y => a + y.dataLen) 0)

/-- The image's code base in instruction RAM, after the runtime's 4 KiB (R210, log entry 15). -/
def codeBase (s : State) (p : Nat) (m : Image) : Nat := 0x1000 + ((imagesBefore s p m).foldl (fun a y => a + y.codeLen) 0)

/-- The code of a pillow's images as every instruction RAM of the pillow holds it, and their data sections (R210, R235). -/
def codeImage (s : State) (p : Nat) : List Byte := (assigned s p).flatMap (fun m => m.code)
def dataImage (s : State) (p : Nat) : List Byte := (assigned s p).flatMap (fun m => m.data)

/-- One byte of an instruction RAM: the runtime's 4 KiB, then the images' code. -/
def iramByte (s : State) (b off : Nat) : Byte :=
  if off < 0x1000 then readByte s (iramKey b off) else (codeImage s (b / 32)).getD (off - 0x1000) 0

/-- One byte of a data RAM. The cells of the image data sections hold the exclusive-or of the byte with the loaded one, so that a bobbin
just loaded lists none of them. -/
def dramByte (s : State) (b off : Nat) : Byte :=
  if 0x2000 ≤ off ∧ off < 0x4000 then readByte s (dramKey b off) ^^^ (dataImage s (b / 32)).getD (off - 0x2000) 0
  else readByte s (dramKey b off)

/-- One byte of a data RAM written. -/
def dramWrite (s : State) (b off : Nat) (v : Byte) : State :=
  if 0x2000 ≤ off ∧ off < 0x4000 then writeByte s (dramKey b off) (v ^^^ (dataImage s (b / 32)).getD (off - 0x2000) 0)
  else writeByte s (dramKey b off) v

/-- The shared-RAM offset behind a window address, none where the level has no such area or it is too small. -/
def windowOff (s : State) (x : Bobbin) (fg : Bool) (l : Loc) : Option Nat :=
  match l with
  | .scratch off => (levelCtx s x fg).bind (fun i => (getCtx s i).bind (fun c => if off < c.scrLen then some (c.scrBase + off) else none))
  | .balance off => (levelGroup s x fg).bind (fun g => (getGroup s g).map (fun y => y.base + off))
  | .shared off => some off
  | _ => none

/-! ### Protection (R238 to R240) -/

/-- The words of the runtime's locked regions: image code, data RAM, shared constants, and the three windows (log entry 14). -/
def mpuBaseInit (n : Nat) : Word :=
  match n with
  | 0 => w32 (0x00001000 + 0x2D) | 1 => w32 (0x10002000 + 0x36) | 2 => w32 (0x20000000 + 0x26) | 3 => w32 (0x30000000 + 0x36)
  | 4 => w32 (0x31000000 + 0x36) | 5 => w32 (0x32000000 + 0x36) | _ => 0

def mpuLimInit (n : Nat) : Word :=
  match n with
  | 0 => w32 (0x00007FC0 + 3) | 1 => w32 (0x1000FFC0 + 3) | 2 => w32 (0x2000FFC0 + 3) | 3 => w32 (0x300005C0 + 3)
  | 4 => w32 (0x31001FC0 + 3) | 5 => w32 (0x320007C0 + 3) | _ => 0

def Bobbin.mpuB (x : Bobbin) (n : Nat) : Word := smapGet mpuBaseInit x.mpuBase n
def Bobbin.mpuL (x : Bobbin) (n : Nat) : Word := smapGet mpuLimInit x.mpuLim n

/-- The access kinds: read, write, execute. -/
inductive Acc | rd | wr | ex
  deriving DecidableEq, Repr

/-- The lowest-numbered enabled region that contains a byte (R238). -/
def regionOf (x : Bobbin) (a : Nat) : Option Nat :=
  (List.range 8).find? (fun n => fld (x.mpuL n) 0 0 == 1 && decide (fld (x.mpuB n) 31 6 ≤ a / 64) && decide (a / 64 ≤ fld (x.mpuL n) 31 6))

/-- The default map of supervisor accesses (R211): the part of the map alone. -/
def defaultMap (k : Acc) (l : Loc) : Bool :=
  match l, k with
  | .iram _, .rd => true | .iram _, .ex => true | .iram _, .wr => false
  | .nowhere, _ => false
  | _, .ex => false
  | _, _ => true

/-- The cause that forbids one byte, 0 where it is permitted (R238 to R241, R264). -/
def byteCause (s : State) (b : Nat) (x : Bobbin) (fg super : Bool) (k : Acc) (a : Nat) : Nat :=
  let l := locOf a
  let prot :=
    match regionOf x a with
    | some n =>
      let w := x.mpuB n
      match k, super with
      | .rd, false => if fld w 5 5 = 1 then 0 else 2
      | .wr, false => if fld w 4 4 = 1 then 0 else 3
      | .ex, false => if fld w 3 3 = 1 then 0 else 4
      | .rd, true => if fld w 2 2 = 1 then 0 else 2
      | .wr, true => if fld w 1 1 = 1 then 0 else 3
      | .ex, true => if fld w 0 0 = 1 then 0 else 4
    | none => if super then (if defaultMap k l then 0 else 5) else 1
  if prot ≠ 0 then prot
  else match l with
    | .nowhere => if super then 5 else 1
    | .frame _ => if k = .wr ∧ !(fg && x.tx) then 3 else 0
    | .scratch off =>
      match levelCtx s x fg, windowOff s x fg l with
      | some i, some _ =>
        if k = .wr then
          let bgPart := match levelImage s b x fg, getCtx s i with
            | some m, some c => decide (c.scrLen - m.scrBg ≤ off)
            | _, _ => false
          let isInit := match x.item with | some it => it.kind == 0 | none => false
          if fg then (if bgPart then 6 else 0) else if isInit || bgPart then 0 else 6
        else 0
      | _, _ => 6
    | .balance _ =>
      let evalItem := match x.item with | some it => it.kind == 2 | none => false
      match windowOff s x fg l with
      | some _ => if k = .wr ∧ fg = false ∧ evalItem = false then 6 else 0
      | none => 6
    | _ => 0

/-- The first forbidden byte of an access and its cause (R239). -/
def accessFault (s : State) (b : Nat) (x : Bobbin) (fg super : Bool) (k : Acc) (a n : Nat) : Option (Nat × Nat) :=
  ((List.range n).map (fun i => ((byteCause s b x fg super k ((a + i) % 2 ^ 32)), (a + i) % 2 ^ 32))).find? (fun e => e.1 != 0)

/-! ### Reading and writing bytes -/

/-- The place of a level's trap state in the control page (log entry 14). -/
def trapBase (fg : Bool) : Nat := if fg then 0x100 else 0x140

/-- The control page as a level reads it: protection words at 8·n and 8·n + 4, BGPOST at 0x80 and 0x84, the trap state of the two levels
from 0x100 and 0x140, of which a level reaches its own alone (R211, R243, log entry 14). -/
def controlWord (x : Bobbin) (fg : Bool) (off : Nat) : Word :=
  let l := x.level fg
  if off < 0x40 then (if off % 8 = 0 then x.mpuB (off / 8) else x.mpuL (off / 8))
  else if off = 0x80 then x.bgArg
  else if off < trapBase fg then 0
  else match off - trapBase fg with
    | 0x0 => l.epc | 0x4 => w32 l.ecause | 0x8 => l.eval | 0xC => w32 (bnat l.emode) | 0x10 => w32 (bnat l.trapped)
    | _ => 0

/-- A byte that the level's own buffered stores hold: the youngest one (R265). -/
def bufByte (x : Bobbin) (fg : Bool) (a : Nat) : Option Byte :=
  x.wbuf.foldl (fun r w => if w.fg == fg && decide (w.addr ≤ a) then (match w.bytes[a - w.addr]? with | some v => some v | none => r) else r) none

/-- The bytes of the held frame as the bobbin sees them: a shadow run has its own copy (R225). -/
def heldBytes (s : State) (x : Bobbin) : List Byte :=
  match x.copy with
  | some c => c
  | none => match heldFrame s x with | some f => f.frame.bytes | none => []

/-- One byte as a load of a level sees it: buffered stores, then staged writes, then memory (R222, R265). A byte of the frame
window beyond the frame is an open value: number k (log entry 9). -/
def loadByte (s : State) (b : Nat) (x : Bobbin) (fg : Bool) (a k : Nat) : Byte :=
  match bufByte x fg a with
  | some v => v
  | none =>
    match locOf a with
    | .iram off => iramByte s b off
    | .dram off => dramByte s b off
    | .shared off => readByte s (sharedKey (b / 32) off)
    | .frame off =>
      match (heldBytes s x)[off]? with
      | some v => v
      | none => b8 (Config.freeValue (s.freeCtr + k))
    | .control off => b8 ((controlWord x fg (off / 4 * 4)).toNat / 2 ^ (8 * (off % 4)))
    | l =>
      match windowOff s x fg l with
      | some off =>
        match smapGet (fun _ => none) (if fg then x.stage else x.bgStage) off with
        | some v => v
        | none => readByte s (sharedKey (b / 32) off)
      | none => 0

/-- The bytes of a load, and the state that has drawn the open values of bytes beyond the frame. -/
def loadBytes (s : State) (b : Nat) (x : Bobbin) (fg : Bool) (a n : Nat) : List Byte × State :=
  let bs := (List.range n).map (fun k => loadByte s b x fg ((a + k) % 2 ^ 32) k)
  let open_ := (List.range n).any (fun k => match locOf ((a + k) % 2 ^ 32) with
    | .frame off => ((heldBytes s x)[off]?).isNone
    | _ => false)
  (bs, if open_ then { s with freeCtr := s.freeCtr + n } else s)

/-- An item for the held context posted by a write of its kind to BGPOST: staged with the frame, for the kinds that R277 permits. -/
def Bobbin.bgPut (x : Bobbin) (i : Option Nat) (kind : Nat) : Bobbin :=
  match i with
  | some i => if kind = 1 ∨ kind = 3 then { x with posts := x.posts ++ [⟨kind, i, x.bgArg.toNat, []⟩] } else x
  | none => x

/-- A word of the control page written by a level: a protection word that is not locked (R238), the argument of BGPOST, and of the level's
own trap state EPC and EMODE, which R247 lets supervisor code write. -/
def controlWrite (x : Bobbin) (fg locked : Bool) (off : Nat) (v : Word) : Bobbin :=
  let l := x.level fg
  if off < 0x40 then
    if locked then x
    else if off % 8 = 0 then { x with mpuBase := smapSet mpuBaseInit x.mpuBase (off / 8) v }
    else { x with mpuLim := smapSet mpuLimInit x.mpuLim (off / 8) (v &&& 0xFFFFFFC3#32) }
  else if off = 0x80 then { x with bgArg := v }
  else if off = trapBase fg then x.setLevel fg { l with epc := v &&& 0xFFFFFFFC#32 }
  else if off = trapBase fg + 0xC then x.setLevel fg { l with emode := fld v 0 0 == 1 }
  else x

/-- The regions that are locked, as a store finds them: one store writes a word of them whole (R238). -/
def Bobbin.locks (x : Bobbin) : List Bool := (List.range 8).map (fun n => fld (x.mpuL n) 1 1 == 1)

/-- One byte stored where it is checked to go. A foreground write to a window is staged, and a shadow run's write to the frame goes to its
own copy (R225); INIT writes apply at once (R218, R222). -/
def storeByte (s : State) (b : Nat) (fg : Bool) (locks : List Bool) (a : Nat) (v : Byte) : State :=
  let x := getBob s b
  match locOf a with
  | .dram off => dramWrite s b off v
  | .shared off => writeByte s (sharedKey (b / 32) off) v
  | .frame off =>
    match x.copy, x.frame with
    | some c, _ => setBob s b { x with copy := some (setAt c off v) }
    | none, some h => modFrame s h (fun f => { f with frame := { f.frame with bytes := setAt f.frame.bytes off v } })
    | none, none => s
  | .control off =>
    let w := controlWord x fg (off / 4 * 4)
    let sh := 8 * (off % 4)
    let new := w32 (w.toNat - bits w.toNat (sh + 7) sh * 2 ^ sh + v.toNat * 2 ^ sh)
    if off = 0x84 then setBob s b (if fg then x.bgPut (levelCtx s x true) v.toNat else x)
    else setBob s b (controlWrite x fg (locks.getD (off / 8) false) (off / 4 * 4) new)
  | .iram _ => s
  | .nowhere => s
  | l =>
    match windowOff s x fg l with
    | some off =>
      if fg then setBob s b { x with stage := smapSet (fun _ => none) x.stage off (some v) }
      else match x.item with
        | some it => if it.kind = 0 then writeByte s (sharedKey (b / 32) off) v
                     else setBob s b { x with bgStage := smapSet (fun _ => none) x.bgStage off (some v) }
        | none => s
    | none => s

/-- Bytes stored at rising addresses, with the locks as the store found them. -/
def storeBytes (s : State) (b : Nat) (fg : Bool) (locks : List Bool) (a : Nat) : List Byte → State
  | [] => s
  | v :: vs => storeBytes (storeByte s b fg locks (a % 2 ^ 32) v) b fg locks (a + 1) vs

/-- The staging buffer of 512 bytes would overflow (R222). -/
def stageFull (s : State) (b : Nat) (fg : Bool) (a n : Nat) : Bool :=
  let x := getBob s b
  let st := if fg then x.stage else x.bgStage
  let isInit := !fg && (match x.item with | some it => it.kind == 0 | none => false)
  let new := (List.range n).filter (fun i => match windowOff s x fg (locOf ((a + i) % 2 ^ 32)), locOf ((a + i) % 2 ^ 32) with
    | some _, .shared _ => false
    | some off, _ => (smapGet (fun _ => (none : Option Byte)) st off).isNone
    | none, _ => false)
  !isInit && !new.isEmpty && decide (512 < st.length + new.length)

/-- A store checked and carried out, or its fault: cause and first forbidden byte (R239, R264). -/
def storeChecked (s : State) (b : Nat) (fg super : Bool) (a : Nat) (bs : List Byte) : State × Option (Nat × Nat) :=
  match accessFault s b (getBob s b) fg super .wr a bs.length with
  | some e => (s, some e)
  | none => if stageFull s b fg a bs.length then (s, some (6, a)) else (storeBytes s b fg (getBob s b).locks a bs, none)

/-! ### PIL events of faults and traps -/

def pilPage (b : Nat) : Nat := 0x40 + b / 32

/-- MPUFAULT with its capture of the first fault since MPUFAULT was last cleared (R240, R241). -/
def mpuCapture (s : State) (b : Nat) (user imprecise : Bool) (cause addr : Nat) : State :=
  let p := pilPage b
  let s := if bit (getPage s p).stat 5 then s
    else
      let s := setReg s (regAddr p 0x48) (pack [(1, 31), (bnat imprecise, 30), (b % 32, 25), (bnat user, 24), (cause, 20)])
      setReg s (regAddr p 0x4C) (if imprecise then 0 else w32 addr)
  setEvt s p 5

/-- The PROGRAM_TRAP record's context word: context, or 0x4_0000 + group (R417). -/
def trapTarget (s : State) (x : Bobbin) (fg : Bool) : Nat :=
  match levelCtx s x fg with
  | some i => i
  | none => match levelGroup s x fg with
    | some g => 0x40000 + g
    | none => 0

/-- The TRAP event, count and record of a level whose program ends (R219, R276): reported cause, with the level's EVAL and EPC. -/
def trapReport (s : State) (b : Nat) (fg : Bool) (cause : Nat) : State :=
  let x := getBob s b
  let l := x.level fg
  let s := setEvt (incReg s (regAddr (pilPage b) 0x40)) (pilPage b) 6
  record s 0x0410 0x4 b [cause, l.eval.toNat, l.epc.toNat, trapTarget s x fg]

/-- The scratch of a context zeroed in shared RAM. -/
def zeroScratch (s : State) (i : Nat) : State :=
  match getCtx s i with
  | some c => writeBytes s (sharedKey c.home c.scrBase) (List.replicate c.scrLen 0)
  | none => s

/-- A background item abandoned without commit; an INIT leaves the scratch zero (R276). -/
def abandonItem (s : State) (b : Nat) : State :=
  let s := match (getBob s b).item with
    | some it => if it.kind = 0 then modCtx (zeroScratch s it.target) it.target (fun c => { c with initDue := false }) else s
    | none => s
  bgIdle s b

/-- The bobbin runs a frame whose two outcomes differed, as its third run (R226). -/
def thirdRun (s : State) (x : Bobbin) : Bool := match heldFrame s x with | some f => !f.vote.isEmpty | none => false

/-- A foreground program that is over without its verdict: the frame ends with 0xA3, a verdict already put stands, and a third run's 0xA3
waits for the comparison (R219, R226, R276). -/
def fgFail (s : State) (b : Nat) : State :=
  let x := getBob s b
  match x.frame with
  | some h =>
    if x.put then fgIdle s b
    else if thirdRun s x then setBob s b { x.clearStage with put := true, stop := true, await := some (0xA3, 0) }
    else fgIdle (finishVerdict s h 0xA3 0) b
  | none => fgIdle s b

/-- The runtime ends a program that it treats as fatal (R276): the frame with 0xA3 unless its verdict stands, or the item. A shadow run
raises no event and no record (R225). -/
def endFatal (s : State) (b : Nat) (fg : Bool) (cause : Nat) : State :=
  let x := getBob s b
  if fg && x.shadow.isSome then (if x.put then shadowIdle s b else shadowTrap s b)
  else
    let s := trapReport s b fg cause
    if fg then fgFail s b else abandonItem s b

/-- Trap entry (R273): EPC, ECAUSE, EVAL, EMODE, the vector of R274. -/
def Level.trapEnter (l : Level) (epc : Word) (cause : Nat) (value : Word) : Level :=
  { l with epc := epc, ecause := cause, eval := value, emode := l.super, super := true, trapped := true,
           pc := if cause % 128 < 0x20 then 0x100 else if cause % 128 < 0x40 then 0x140 else 0x180 }

/-- A trap that the runtime treats as fatal (R273, R276): a trap inside a trap runs no handler and reports 0x42; a
memory-protection cause is captured (R240). The cause carries IMPRECISE in bit 7. -/
def fatalTrap (s : State) (b : Nat) (fg : Bool) (cause : Nat) (value : Word) : State :=
  let x := getBob s b
  let l := x.level fg
  let c := cause % 128
  let s := if 0x31 ≤ c ∧ c ≤ 0x36 ∧ (fg && x.shadow.isSome) = false then
      mpuCapture s b (!l.super) (128 ≤ cause) (c - 0x30) value.toNat else s
  if l.trapped then endFatal s b fg 0x42
  else endFatal (putLevel s b fg (l.trapEnter l.pc cause value)) b fg cause

/-- The level stops: its frame has ended under it (R272). -/
def stopLevel (s : State) (b : Nat) : State := fgIdle s b

/-! ### One instruction -/

/-- What an instruction's own work answers: the next state, or the cause and value of a trap. -/
inductive Res
  | ok (s : State)
  | trap (cause : Nat) (value : Word)
  /-- The instruction cannot issue yet. -/
  | stall

/-- The word that a bobbin fetches from its instruction RAM. -/
def iramWord (s : State) (b : Nat) (pc : Word) : Word := w32 (ofLe ((List.range 4).map (fun i => iramByte s b (pc.toNat + i))))

/-- The cause of a fetched word whose MAJOR names no instruction of the table (R251): 0x01 for 0x36 to 0x3F, 0x02 for the unassigned values;
0 for every other word. -/
def majorCause (w : Word) : Nat :=
  let m := fld w 27 22
  if 0x36 ≤ m then 0x01
  else if m = 0x07 ∨ m = 0x12 ∨ m = 0x13 ∨ (0x1A ≤ m ∧ m ≤ 0x1F) ∨ m = 0x26 ∨ m = 0x27 ∨ (0x2D ≤ m ∧ m ≤ 0x2F) then 0x02
  else 0

/-- One instruction of MAJOR opcode m at the running level of bobbin b (R24, R248, R249, R265, R272 to R274): a level whose frame
has ended stops; VERDICT.PUT of a shadowed frame waits for the comparison (R225); a pending imprecise fault is delivered; the fetch is
checked, and a fetched word of no MAJOR of the table traps as decoding has it; a word that decoding refuses traps whatever its guard; a
guarded-off word only advances; an instruction that uses the register that waits for LRES stalls; else body runs. -/
def pypRun (s : State) (b m : Nat) (w : OpWord) (causes : List Nat) (uses : List Nat) (body : State → Bool → Level → Res) : State :=
  let x := getBob s b
  match activeFg x with
  | none => s
  | some fg =>
    let l := x.level fg
    if fg && x.await.isSome then s
    else if fg && x.stop then stopLevel s b
    else match l.pend with
    | some (cause, a) => fatalTrap (putLevel s b fg { l with pend := none }) b fg (0x80 + 0x30 + cause) (w32 a)
    | none =>
      match accessFault s b x fg l.super .ex l.pc.toNat 4 with
      | some (_, a) => fatalTrap s b fg 0x34 (w32 a)
      | none =>
        let word := iramWord s b l.pc
        if majorCause word ≠ 0 then fatalTrap s b fg (majorCause word) word
        else match decodeCause w causes with
        | some c => fatalTrap s b fg c (wordOf m w)
        | none =>
          if l.guard w.guard.toNat w.n then
            if (match l.lres with | some r => uses.contains r | none => false) then s
            else match body s fg l with
              | .ok s' => s'
              | .trap c v => fatalTrap s b fg c v
              | .stall => s
          else putLevel s b fg l.adv

/-- An instruction that only works on its level: the level after it, its pc advanced. -/
def pypLevel (s : State) (b m : Nat) (w : OpWord) (causes : List Nat) (uses : List Nat) (f : Level → Level) : State :=
  pypRun s b m w causes uses (fun s fg l => .ok (putLevel s b fg (f l).adv))

end Sys2Proof.Machine
end

