-- ==== Sys2Proof/Machine/PlausOps.lean ====
section
/-! DEFINITION. Machine/PlausOps.lean: balance groups, deferred flags, the PLAUSIBILITY fails in force, and plausibility captures
(R84 to R87, R214, R277, R469). -/
namespace Sys2Proof.Machine

/-! ### Captures (R469) -/

def getCapt (s : State) (p : Nat) : CaptSt := smapGet (fun _ => ⟨[], 1, 0⟩) s.captures p

def setCapt (s : State) (p : Nat) (x : CaptSt) : State := { s with captures := smapSet (fun _ => ⟨[], 1, 0⟩) s.captures p x }

/-- A capture is complete 2 ms after its detection (R469, log entry 26). -/
def Capture.complete (s : State) (x : Capture) : Bool := decide (x.madeAt + 2000000 ≤ s.boot.now)

/-- n bytes from a list, 0 beyond its end. -/
def padTo (n : Nat) (bs : List Byte) : List Byte := (List.range n).map (fun i => bs.getD i 0)

/-- The member entries of a capture: context, SCRLEN, BMEMBER, and the flag of a member missing at the instant (never here). -/
def captMember (e : Nat × Ctx) : List Byte := leBytes 4 (e.1 % 2 ^ 18) ++ leBytes 2 e.2.scrLen ++ [b8 e.2.bmember, 0]

/-- The bytes of a capture slot (R469): kind, channels, group, time, smpCnt, SEQ of the PLAUS record, members, history. -/
def captBytes (s : State) (p kind channels group time smp morSeq cseq : Nat) (ms : List (Nat × Ctx)) (history : List Byte) : List Byte :=
  leBytes 4 0x4B585043 ++ leBytes 2 1 ++ [b8 kind, b8 ms.length] ++ leBytes 4 cseq ++ [b8 p, b8 channels] ++ leBytes 2 group
    ++ leBytes 8 time ++ leBytes 2 smp ++ leBytes 2 0 ++ leBytes 4 morSeq ++ padTo 128 (ms.flatMap captMember) ++ leBytes 96 0
    ++ padTo 2048 history
    ++ ms.flatMap (fun e => padTo 8192 (readBytes s (sharedKey p e.2.scrBase) e.2.scrLen))

/-- A detection written into the capture area, 64 slots in ring order; one that falls in the writing of another is lost (R469). -/
def writeCapture (s : State) (p kind channels group time smp morSeq : Nat) (ms : List (Nat × Ctx)) (history : List Byte) : State :=
  let x := getCapt s p
  if x.slots.any (fun k => !k.complete s) then setCapt s p { x with lost := x.lost + 1 }
  else
    let k : Capture :=
      { cseq := x.next, kind := kind, group := group, members := ms.length, morSeq := morSeq,
        bytes := captBytes s p kind channels group time smp morSeq x.next ms history, madeAt := s.boot.now }
    let old := if x.slots.length < 64 then x.slots else x.slots.drop 1
    setCapt s p { x with slots := old ++ [k], next := x.next + 1 }

/-- A PLAUS record, and the SEQ it was written with, 0 where it was suppressed or dropped (R87, R469). -/
def plausRecord (s : State) (p target flags : Nat) : Nat × State :=
  let t := record s 0x0202 0x4 (0x200 + p) [target, flags]
  let wrote := match t.mor.newest with | some r => r.code == 0x0202 && t.mor.seq != s.mor.seq | none => false
  (if wrote then t.mor.seq else 0, t)

/-! ### Evaluations (R85 to R87) -/

/-- The PTP time of a sample count of the second nearest now. -/
def instantTime (s : State) (smp rate : Nat) : Nat :=
  let off := smp * 1000000000 / (max rate 1)
  (ptpNow s + 500000000 - off) / 1000000000 * 1000000000 + off

/-- A phase violates its tolerance (R86): |Σ s·i| > TOLABS + TOLREL·Σ|i|, with 1 mA per LSB, TOLABS in 10 mA and TOLREL in 0.1 %. -/
def phaseBad (g : Group) (vals : List (Nat × List Int)) (ph : Nat) : Bool :=
  let v := vals.map (fun e => e.2.getD ph 0)
  let tot := v.foldl (fun a x => a + x) 0
  let abs := v.foldl (fun a x => a + x.natAbs) 0
  decide (10000 * g.tolAbs + g.tolRel * abs < 1000 * tot.natAbs)

/-- The instant violates in some phase (R86). -/
def instantBad (g : Group) (vals : List (Nat × List Int)) : Bool := (List.range g.channels).any (phaseBad g vals)

/-- The BALANCE fail of a group's members begins or ends (R87). -/
def setBalFail (s : State) (g : Nat) (on : Bool) : State :=
  (members s g).foldl (fun s e => modCtx s e.1 (fun c => { c with failBal := on })) s

/-- A balance detection (R87, R469): its record and its capture. -/
def balDetect (s : State) (g : Nat) (x : Group) (smp : Nat) : State :=
  let s := setBalFail s g true
  let (q, s) := plausRecord s x.pillow (0x40000 + g) 8
  writeCapture s x.pillow 1 x.channels g (instantTime s smp x.smpRate) smp q (members s g) (readBytes s (sharedKey x.pillow x.base) 2048)

/-- BAL_EVAL of an instant that every member has passed (R86, R87): the counts of violating and clean instants, the detection, the end
of a fail, and the deferred flags of every member. -/
def balEval (s : State) (g smp : Nat) : State :=
  match getGroup s g with
  | some x =>
    match x.instants.find? (fun t => t.1 == smp) with
    | some (_, _, vals) =>
      let bad := instantBad x vals
      let y : Group := { x.close smp with bad := if bad then x.bad + 1 else 0, clean := if bad then 0 else x.clean + 1 }
      let hit := decide (y.persist ≤ y.bad)
      let begins := hit && !y.failing
      let ends := y.failing && decide (y.persist ≤ y.clean)
      let y := { y with failing := (y.failing || hit) && !ends }
      let s := setGroup s g (some y)
      let s := if begins then balDetect s g y smp else if ends then setBalFail s g false else s
      (members s g).foldl (fun s e => deferFlags s e.1 (if hit then 8 else 0)) s
    | none => s
  | none => s

/-- HARMONIC as an item posted it for a context (R87): a detection that was not in force writes its record and its capture, whose time
and count of the first sample the spec does not say how to find (open values); a clean cycle ends the fail. -/
def harmPost (s : State) (i flags : Nat) : State :=
  match getCtx s i with
  | some c =>
    let hit := bit flags 2
    let s := setCtx s i (some { c with failHarm := hit })
    if hit && !c.failHarm then
      let (q, s) := plausRecord s c.home i 4
      let (t, s) := draw s
      let (n, s) := draw s
      writeCapture s c.home 2 4 0xFFFF t (n % 65536) q [(i, c)] []
    else s
  | none => s

/-- The flags that an item posted, by context, take effect at its return (R277). -/
def postFlags (s : State) (it : BgItem) : State :=
  it.flags.foldl (fun s e =>
    let s := deferFlags s e.1 e.2
    if it.kind = 1 ∨ (it.kind = 3 ∧ bit e.2 2) then harmPost s e.1 e.2 else s) s

/-- The return of a background item (R218, R222, R277): its buffered writes commit, a balance instant is evaluated, its flags take
effect; after INIT the context's first frame may be dispatched. -/
def itemReturn (s : State) (b : Nat) : State :=
  let x := getBob s b
  match x.item with
  | some it =>
    let s := applyStage s (b / 32) x.bgStage
    let s := if it.kind = 0 then postFlags (modCtx s it.target (fun c => { c with initDue := false })) it
      else if it.kind = 2 then postFlags (balEval s (it.target - 0x40000) it.arg) it
      else postFlags s it
    bgIdle s b
  | none => s

end Sys2Proof.Machine
end

