-- ==== Sys2Proof/Machine/Pypian.lean ====
section
/-! DEFINITION. Machine/Pypian.lean: the instructions of Pypian-2 (R243 to R278), one meaning per row of the table. Every instruction
names the reserved values that its decoding refuses, the registers it uses, and its work on its level. -/
namespace Sys2Proof.Machine

/-! ### Integer instructions -/

/-- ALU (R253). -/
def execAlu (b : Fin 512) (w : OpWord) (s : State) : Host.Outcome State Fault Refusal :=
  let causes := (if (aluFn (opFn w) 0 0).isNone then [0x04] else []) ++ (if aluUnary (opFn w) && opRb w != 0 then [0x05] else [])
  .next (pypLevel s b 0x00 w causes [opRd w, opRa w, opRb w] (fun l =>
    match aluFn (opFn w) (l.reg (opRa w)) (l.reg (opRb w)) with
    | some (v, f) => (l.setReg (opRd w) v).flag f
    | none => l))

/-- ADDI (R254). -/
def execAddi (b : Fin 512) (w : OpWord) (s : State) : Host.Outcome State Fault Refusal :=
  .next (pypLevel s b 0x01 w [] [opRd w, opRa w] (fun l => l.setReg (opRd w) (l.reg (opRa w) + opImmS w)))

/-- ANDI (R254). -/
def execAndi (b : Fin 512) (w : OpWord) (s : State) : Host.Outcome State Fault Refusal :=
  .next (pypLevel s b 0x02 w [] [opRd w, opRa w] (fun l => l.setReg (opRd w) (l.reg (opRa w) &&& opImmZ w)))

/-- ORI (R254). -/
def execOri (b : Fin 512) (w : OpWord) (s : State) : Host.Outcome State Fault Refusal :=
  .next (pypLevel s b 0x03 w [] [opRd w, opRa w] (fun l => l.setReg (opRd w) (l.reg (opRa w) ||| opImmZ w)))

/-- XORI (R254). -/
def execXori (b : Fin 512) (w : OpWord) (s : State) : Host.Outcome State Fault Refusal :=
  .next (pypLevel s b 0x04 w [] [opRd w, opRa w] (fun l => l.setReg (opRd w) (l.reg (opRa w) ^^^ opImmZ w)))

/-- MOVHI (R254). -/
def execMovhi (b : Fin 512) (w : OpWord) (s : State) : Host.Outcome State Fault Refusal :=
  .next (pypLevel s b 0x05 w (rsvdBits w [(16, 16)]) [opRd w] (fun l => l.setReg (opRd w) (w32 (opImm16 w * 65536))))

/-- MOVLO (R254). -/
def execMovlo (b : Fin 512) (w : OpWord) (s : State) : Host.Outcome State Fault Refusal :=
  .next (pypLevel s b 0x06 w (rsvdBits w [(16, 16)]) [opRd w]
    (fun l => l.setReg (opRd w) (w32 (fld (l.reg (opRd w)) 31 16 * 65536 + opImm16 w))))

/-- MULDIV (R255). -/
def execMuldiv (b : Fin 512) (w : OpWord) (s : State) : Host.Outcome State Fault Refusal :=
  .next (pypLevel s b 0x08 w (if (mulDivFn (opFn w) 0 1).isNone then [0x04] else []) [opRd w, opRa w, opRb w] (fun l =>
    match mulDivFn (opFn w) (l.reg (opRa w)) (l.reg (opRb w)) with
    | some (v, f) => (l.setReg (opRd w) v).flag f
    | none => l))

/-- MAC (R259). -/
def execMac (b : Fin 512) (w : OpWord) (s : State) : Host.Outcome State Fault Refusal :=
  let causes := (if opf w 18 17 = 3 then [0x04] else []) ++ rsvdBits w [(20, 19), (3, 0)]
  let n := opf w 21 21
  .next (pypLevel s b 0x09 w causes [opRa w, opRb w] (fun l =>
    let a0 := if opf w 4 4 = 1 then 0 else l.acc n
    match macSum (opf w 18 17) (l.reg (opRa w)) (l.reg (opRb w)) with
    | some sum => let r := macAcc a0 sum (opf w 6 6 == 1) (opf w 5 5 == 1); (l.setAcc n r.1).flag r.2
    | none => l))

/-- ACCRD (R260). -/
def execAccrd (b : Fin 512) (w : OpWord) (s : State) : Host.Outcome State Fault Refusal :=
  let sh := opf w 13 8
  let mode := opf w 15 14
  let causes := rsvdBits w [(7, 0)] ++ (if decide (47 < sh) || (decide (mode < 2) && sh != 0) then [0x0E] else [])
  .next (pypLevel s b 0x0A w causes [opRd w] (fun l =>
    let r := accRead (l.acc (opf w 16 16)) mode sh
    (l.setReg (opRd w) r.1).flag r.2))

/-- ACCWR (R260). -/
def execAccwr (b : Fin 512) (w : OpWord) (s : State) : Host.Outcome State Fault Refusal :=
  .next (pypLevel s b 0x0B w (rsvdBits w [(20, 17), (6, 0)]) [opRa w, opRb w]
    (fun l => l.setAcc (opf w 21 21) (accWrite (l.reg (opRa w)) (l.reg (opRb w)))))

/-- SHIFT, the register form (R256). -/
def execShift (b : Fin 512) (w : OpWord) (s : State) : Host.Outcome State Fault Refusal :=
  .next (pypLevel s b 0x0C w (if (shiftFn (opFn w) 0 0).isNone then [0x04] else []) [opRd w, opRa w, opRb w] (fun l =>
    match shiftFn (opFn w) (l.reg (opRa w)) (l.reg (opRb w)).toNat with
    | some v => l.setReg (opRd w) v
    | none => l))

/-- SHIFTI, the immediate form (R256). -/
def execShifti (b : Fin 512) (w : OpWord) (s : State) : Host.Outcome State Fault Refusal :=
  .next (pypLevel s b 0x0D w (if (shiftFn (opFn w) 0 0).isNone then [0x04] else []) [opRd w, opRa w] (fun l =>
    match shiftFn (opFn w) (l.reg (opRa w)) (opf w 11 7) with
    | some v => l.setReg (opRd w) v
    | none => l))

/-- BFX (R257). -/
def execBfx (b : Fin 512) (w : OpWord) (s : State) : Host.Outcome State Fault Refusal :=
  let pos := opf w 11 7
  let wd := opf w 6 2 + 1
  .next (pypLevel s b 0x0E w (rsvdBits w [(0, 0)] ++ (if 32 < pos + wd then [0x07] else [])) [opRd w, opRa w]
    (fun l => l.setReg (opRd w) (bfxFn (l.reg (opRa w)) pos wd (opf w 1 1 == 1))))

/-- BFI (R257). -/
def execBfi (b : Fin 512) (w : OpWord) (s : State) : Host.Outcome State Fault Refusal :=
  let pos := opf w 11 7
  let wd := opf w 6 2 + 1
  .next (pypLevel s b 0x0F w (rsvdBits w [(1, 0)] ++ (if 32 < pos + wd then [0x07] else [])) [opRd w, opRa w]
    (fun l => l.setReg (opRd w) (bfiFn (l.reg (opRd w)) (l.reg (opRa w)) pos wd)))

/-- CLZ (R258). -/
def execClz (b : Fin 512) (w : OpWord) (s : State) : Host.Outcome State Fault Refusal :=
  .next (pypLevel s b 0x10 w (rsvdBits w [(11, 0)]) [opRd w, opRa w]
    (fun l => l.setReg (opRd w) (w32 (clzFrom (l.reg (opRa w)).toNat 32))))

/-- PERM (R258). -/
def execPerm (b : Fin 512) (w : OpWord) (s : State) : Host.Outcome State Fault Refusal :=
  .next (pypLevel s b 0x11 w (rsvdBits w [(11, 8)]) [opRd w, opRa w]
    (fun l => l.setReg (opRd w) (permFn (l.reg (opRa w)) (opf w 7 0))))

/-! ### Memory and address generators -/

/-- The cause of a form that LD or ST refuses (R263). -/
def ldstCauses (w : OpWord) (store : Bool) : List Nat :=
  let size := opf w 16 15
  let sg := opf w 14 14 == 1
  rsvdBits w [(10, 10)] ++ (if (sg && (decide (2 ≤ size) || store)) || (size == 3 && opRd w % 2 == 1) then [0x08] else [])

/-- The registers that a load or store of a size names. -/
def ldstRegs (w : OpWord) : List Nat := if opf w 16 15 = 3 then [opRd w, opRd w + 1] else [opRd w]

/-- A loaded value in its registers (R263). -/
def Level.loadInto (l : Level) (rd size : Nat) (sg : Bool) (bs : List Byte) : Level :=
  let v := ofLe bs
  match size with
  | 0 => l.setReg rd (if sg then wInt (sgn 8 v) else w32 v)
  | 1 => l.setReg rd (if sg then wInt (sgn 16 v) else w32 v)
  | 2 => l.setReg rd (w32 v)
  | _ => (l.setReg rd (w32 v)).setReg (rd + 1) (w32 (v / 2 ^ 32))

/-- ns that the line of a port takes for a number of bytes: 25 Gb/s, 10 Gb/s, 1 Gb/s, and on SGMII as the PHY reports (R98, R99). -/
def lineNs (s : State) (port n : Nat) : Nat :=
  match fld (getReg s (pbpReg port 0x20)) 2 0 with
  | 1 => (n * 8 + 24) / 25
  | 2 => (n * 8 + 9) / 10
  | 4 => if (smapGet (fun _ => PortSt.idle) s.ports port).phySpeed then n * 8 else n * 80
  | _ => n * 8

/-- Byte i of a frame has been received (R252): its last byte is in, or the line has had the time for bytes 0 to i since the ingress
timestamp (log entry 132). -/
def byteIn (s : State) (f : FrameRec) (i : Nat) : Bool :=
  f.rxDone || (match f.src with
    | .port n => decide (f.ts + lineNs s n (i + 1) ≤ ptpNow s)
    | .desc _ _ => true)

/-- A load at an address, or the precise fault of its first forbidden byte (R239, R264). A frame-window byte that is not yet
received stalls (R252). -/
def loadAt (s : State) (b : Nat) (fg : Bool) (l : Level) (a n : Nat) (k : Level → List Byte → Level) : Res :=
  let x := getBob s b
  match accessFault s b x fg l.super .rd a n with
  | some (c, byte) => .trap (0x30 + c) (w32 byte)
  | none =>
    let waits := (List.range n).any (fun i => match locOf ((a + i) % 2 ^ 32) with
      | .frame off => (match heldFrame s x with | some f => !byteIn s f off | none => false)
      | _ => false)
    if waits then .stall
    else
      let r := loadBytes s b x fg a n
      .ok (putLevel r.2 b fg (k l r.1).adv)

/-- A store at an address: into the data RAM at once, checked precisely; anywhere else into the write buffer of 8 entries, of which
a full one first drains its oldest (R239, R265). The level l is the one after the instruction. -/
def storeAt (s : State) (b : Nat) (fg : Bool) (l : Level) (a : Nat) (bs : List Byte) (drain : State → State) : Res :=
  let inData := (List.range bs.length).all (fun i => match locOf ((a + i) % 2 ^ 32) with | .dram _ => true | _ => false)
  if inData then
    match storeChecked s b fg l.super a bs with
    | (_, some (c, byte)) => .trap (0x30 + c) (w32 byte)
    | (s, none) => .ok (putLevel s b fg l.adv)
  else
    let s := if 8 ≤ (getBob s b).wbuf.length then drain s else s
    let d := (getBob s b).level fg
    let l := { l with pend := d.pend, epc := d.epc, emode := d.emode }
    .ok (modBob s b (fun x => { x.setLevel fg l.adv with wbuf := x.wbuf ++ [⟨fg, l.super, a, bs⟩] }))

/-- The oldest buffered store leaves the write buffer: checked as it leaves, its refusal is the pending imprecise fault of its level
(R239, R265). -/
def drainOne (s : State) (b : Nat) : State :=
  let x := getBob s b
  match x.wbuf with
  | [] => s
  | e :: rest =>
    let s := setBob s b { x with wbuf := rest }
    match storeChecked s b e.fg e.super e.addr e.bytes with
    | (s, some (c, a)) =>
      modBob s b (fun x => x.setLevel e.fg (let l := x.level e.fg; if l.pend.isSome then l else { l with pend := some (c, a) }))
    | (s, none) => s

/-- LD (R262 to R264). -/
def execLd (b : Fin 512) (w : OpWord) (s : State) : Host.Outcome State Fault Refusal :=
  .next (pypRun s b 0x14 w (ldstCauses w false) (ldstRegs w) (fun s fg l =>
    let a := l.agen (opf w 13 12)
    if a.mode = 2 ∧ opDisp w ≠ 0 then .trap 0x09 (wordOf 0x14 w)
    else
      let size := opf w 16 15
      loadAt s b fg l (a.addr (opDisp w)).toNat (2 ^ size) (fun l bs =>
        let l := l.loadInto (opRd w) size (opf w 14 14 == 1) bs
        if opf w 11 11 = 1 then l.setAgen (opf w 13 12) a.advance else l)))

/-- ST (R262 to R265). -/
def execSt (b : Fin 512) (w : OpWord) (s : State) : Host.Outcome State Fault Refusal :=
  .next (pypRun s b 0x15 w (ldstCauses w true) (ldstRegs w) (fun s fg l =>
    let a := l.agen (opf w 13 12)
    if a.mode = 2 ∧ opDisp w ≠ 0 then .trap 0x09 (wordOf 0x15 w)
    else
      let size := opf w 16 15
      let bs := leBytes (2 ^ size) ((l.reg (opRd w)).toNat + (if size = 3 then (l.reg (opRd w + 1)).toNat * 2 ^ 32 else 0))
      let l := if opf w 11 11 = 1 then l.setAgen (opf w 13 12) a.advance else l
      storeAt s b fg l (a.addr (opDisp w)).toNat bs (fun s => drainOne s b)))

/-- One field of an address generator written: 0 BASE, 1 CFG with IDX cleared, 2 INC, 3 IDX (R261). -/
def AgSt.put (a : AgSt) (field : Nat) (v : Word) : AgSt :=
  match field with
  | 0 => { a with base := v }
  | 1 => { a with cfg := v, idx := 0 }
  | 2 => { a with inc := v }
  | _ => { a with idx := v }

/-- One field of an address generator read (R261). -/
def AgSt.get (a : AgSt) (field : Nat) : Word :=
  match field with
  | 0 => a.base | 1 => a.cfg | 2 => a.inc | _ => a.idx

/-- AGSET (R261). -/
def execAgset (b : Fin 512) (w : OpWord) (s : State) : Host.Outcome State Fault Refusal :=
  .next (pypRun s b 0x16 w (rsvdBits w [(16, 4)]) [opRd w] (fun s fg l =>
    let v := l.reg (opRd w)
    let a := l.agen (opf w 3 2)
    let field := opf w 1 0
    if field = 1 ∧ agCfgBad v then .trap 0x0A (wordOf 0x16 w)
    else if field = 3 ∧ a.mode ≠ 0 ∧ a.len ≤ v.toNat then .trap 0x0B (wordOf 0x16 w)
    else .ok (putLevel s b fg (l.setAgen (opf w 3 2) (a.put field v)).adv)))

/-- AGGET (R261). -/
def execAgget (b : Fin 512) (w : OpWord) (s : State) : Host.Outcome State Fault Refusal :=
  .next (pypLevel s b 0x17 w (rsvdBits w [(16, 4)]) [opRd w] (fun l => l.setReg (opRd w) ((l.agen (opf w 3 2)).get (opf w 1 0))))

/-- STORE_DRAIN: a buffered store leaves the write buffer (R265). -/
def execStoreDrain (b : Fin 512) (s : State) : Host.Outcome State Fault Refusal := .next (drainOne s b)

/-! ### Compare and branch -/

/-- The predicate write of CMP and CMPI (R266). -/
def Level.cmpInto (l : Level) (pd comb cond : Nat) (x y : Word) : Level :=
  match condFn cond x y with
  | some c => l.setPred pd (combFn comb (l.pred pd) c)
  | none => l

/-- CMP (R266). -/
def execCmp (b : Fin 512) (w : OpWord) (s : State) : Host.Outcome State Fault Refusal :=
  let causes := (if opf w 18 17 = 3 then [0x04] else []) ++ rsvdBits w [(2, 0)] ++ (if opf w 21 19 = 0 then [0x06] else [])
    ++ (if 8 ≤ opf w 6 3 then [0x0D] else [])
  .next (pypLevel s b 0x18 w causes [opRa w, opRb w]
    (fun l => l.cmpInto (opf w 21 19) (opf w 18 17) (opf w 6 3) (l.reg (opRa w)) (l.reg (opRb w))))

/-- CMPI (R254, R266). -/
def execCmpi (b : Fin 512) (w : OpWord) (s : State) : Host.Outcome State Fault Refusal :=
  let causes := (if opf w 18 17 = 3 then [0x04] else []) ++ (if opf w 21 19 = 0 then [0x06] else [])
  .next (pypLevel s b 0x19 w causes [opRa w]
    (fun l => l.cmpInto (opf w 21 19) (opf w 18 17) (opf w 11 9) (l.reg (opRa w)) (opImm9 w)))

/-- BR (R267). -/
def execBr (b : Fin 512) (w : OpWord) (s : State) : Host.Outcome State Fault Refusal :=
  .next (pypRun s b 0x20 w [] [] (fun s fg l => .ok (putLevel s b fg { l with pc := l.pc + opOff w })))

/-- CALL (R267). -/
def execCall (b : Fin 512) (w : OpWord) (s : State) : Host.Outcome State Fault Refusal :=
  .next (pypRun s b 0x21 w [] [31] (fun s fg l => .ok (putLevel s b fg { l.setReg 31 (l.pc + 4) with pc := l.pc + opOff w })))

/-- The word of MAJOR 0x22 with its fn (R251, R267): JR 0, RET 1, ERET 2, EXIT 3. -/
def withFn (w : OpWord) (fn : Nat) : OpWord := { w with ops := BitVec.ofNat 22 (opf w 21 2 * 4 + fn) }

/-- Causes of MAJOR 0x22: reserved bits, and a non-zero ra with fn 1 to 3. -/
def jrCauses (w : OpWord) (fn : Nat) : List Nat :=
  rsvdBits w (if fn = 0 then [(21, 17), (11, 2)] else [(21, 2)])

/-- JR (R267). -/
def execJr (b : Fin 512) (w : OpWord) (s : State) : Host.Outcome State Fault Refusal :=
  .next (pypRun s b 0x22 (withFn w 0) (jrCauses w 0) [opRa w] (fun s fg l =>
    let t := l.reg (opRa w)
    if fld t 1 0 ≠ 0 then .trap 0x2C (wordOf 0x22 (withFn w 0)) else .ok (putLevel s b fg { l with pc := t })))

/-- RET (R267): a return to g31; a target that is not a multiple of 4 cannot be a pc (R243), and traps as JR does. -/
def execRet (b : Fin 512) (w : OpWord) (s : State) : Host.Outcome State Fault Refusal :=
  .next (pypRun s b 0x22 (withFn w 1) (jrCauses w 1) [31] (fun s fg l =>
    let t := l.reg 31
    if fld t 1 0 ≠ 0 then .trap 0x2C (wordOf 0x22 (withFn w 1)) else .ok (putLevel s b fg { l with pc := t })))

/-- ERET (R245, R273). -/
def execEret (b : Fin 512) (w : OpWord) (s : State) : Host.Outcome State Fault Refusal :=
  .next (pypRun s b 0x22 (withFn w 2) (jrCauses w 2) [] (fun s fg l =>
    if l.super then .ok (putLevel s b fg { l with super := l.emode, pc := l.epc, trapped := false })
    else .trap 0x2D (wordOf 0x22 (withFn w 2))))

/-- The return from the entry point (R219, R267): without VERDICT.PUT the frame ends with 0xA3, cause NO_VERDICT. -/
def entryReturn (s : State) (b : Nat) (fg : Bool) : State :=
  if fg then
    let x := getBob s b
    if x.shadow.isSome then (if x.put then shadowIdle s b else shadowTrap s b)
    else if x.put then fgIdle s b
    else if x.frame.isSome then fgFail (trapReport s b true 0x44) b
    else s
  else itemReturn s b

/-- Every buffered store of a level leaves the write buffer; it is empty within 12 cycles (R265). -/
def drainAll (s : State) (b : Nat) : Nat → State
  | 0 => s
  | n + 1 => if (getBob s b).wbuf.isEmpty then s else drainAll (drainOne s b) b n

/-- EXIT (R218, R219, R267): buffered stores leave first, and a fault among them is delivered before the return. -/
def execExit (b : Fin 512) (w : OpWord) (s : State) : Host.Outcome State Fault Refusal :=
  .next (pypRun s b 0x22 (withFn w 3) (jrCauses w 3) [] (fun s fg _ =>
    let s' := drainAll s b 9
    match ((getBob s' b).level fg).pend with
    | some _ => .ok s'
    | none => if fg && (getBob s' b).shadow.isNone
              && (match heldFrame s' (getBob s' b) with | some f => f.lanePending && !(getBob s' b).put | none => false) then .stall
              else .ok (entryReturn s' b fg)))

/-- FENCE (R265): issues once the level's write buffer is empty. -/
def execFence (b : Fin 512) (w : OpWord) (s : State) : Host.Outcome State Fault Refusal :=
  .next (pypRun s b 0x24 w (rsvdBits w [(21, 0)]) [] (fun s fg _ =>
    let s' := drainAll s b 9
    .ok (putLevel s' b fg ((getBob s' b).level fg).adv)))

/-! ### Special registers (R247) -/

/-- A special register that user mode may not reach. -/
def spSuper (n : Nat) : Bool := decide (8 ≤ n ∧ n ≤ 0xB)

/-- An unassigned special register. -/
def spRsvd (n : Nat) : Bool := decide (5 ≤ n ∧ n ≤ 7) || decide (0xC ≤ n)

/-- A read-only special register. -/
def spRO (n : Nat) : Bool := n == 2 || n == 3 || n == 4 || n == 9 || n == 0xA

/-- Engine cycles since reset, 1.2 cycles per nanosecond (R247). -/
def cycleNow (s : State) : Word := w32 (s.boot.now * 6 / 5)

/-- The content of a special register (R247). -/
def spRead (s : State) (b : Nat) (fg : Bool) (l : Level) (n : Nat) : Word :=
  match n with
  | 0 => w32 l.estat
  | 1 => w32 (Nat.lor (l.p % 256) 1)
  | 2 => cycleNow s
  | 3 => w32 (bnat fg + 2 * bnat l.super)
  | 4 => match levelImage s b (getBob s b) fg with | some m => w32 (dataBase s (b / 32) m) | none => 0x10002000
  | 8 => l.epc
  | 9 => w32 l.ecause
  | 0xA => l.eval
  | _ => w32 (bnat l.emode)

/-- A special register written (R246, R247). -/
def spWrite (l : Level) (n : Nat) (v : Word) : Level :=
  match n with
  | 0 => { l with estat := v.toNat % 16 }
  | 1 => { l with p := v.toNat % 256 / 2 * 2 }
  | 8 => { l with epc := v &&& 0xFFFFFFFC#32 }
  | _ => { l with emode := fld v 0 0 == 1 }

/-- The word of MAJOR 0x25 with its bit [5] (R251): MFS 0, MTS 1. -/
def withDir (w : OpWord) (mts : Bool) : OpWord := { w with ops := BitVec.ofNat 22 (opf w 21 6 * 64 + bnat mts * 32 + opf w 4 0) }

/-- MFS (R245, R247). -/
def execMfs (b : Fin 512) (w : OpWord) (s : State) : Host.Outcome State Fault Refusal :=
  let n := opf w 4 0
  .next (pypRun s b 0x25 (withDir w false) (rsvdBits w [(16, 6)] ++ (if spRsvd n then [0x0C] else [])) [opRd w] (fun s fg l =>
    if spSuper n && !l.super then .trap 0x2D (wordOf 0x25 (withDir w false))
    else .ok (putLevel s b fg (l.setReg (opRd w) (spRead s b fg l n)).adv)))

/-- MTS (R245, R247). EPC holds a pc, a multiple of 4. -/
def execMts (b : Fin 512) (w : OpWord) (s : State) : Host.Outcome State Fault Refusal :=
  let n := opf w 4 0
  .next (pypRun s b 0x25 (withDir w true) (rsvdBits w [(16, 6)] ++ (if spRsvd n || spRO n then [0x0C] else [])) [opRd w] (fun s fg l =>
    let v := l.reg (opRd w)
    if n = 0 ∧ 16 ≤ v.toNat then .trap 0x0C (wordOf 0x25 (withDir w true))
    else if spSuper n && !l.super then .trap 0x2D (wordOf 0x25 (withDir w true))
    else .ok (putLevel s b fg (spWrite l n v).adv)))

/-! ### Stream operations (R268 to R272) -/

/-- The frame kind of R59 for a frame form. -/
def kindOf (f : FrameForm) : Option Nat :=
  match f with
  | .sv => some 0 | .goose => some 1 | .rsv4 => some 2 | .rsv6 => some 3 | .rgoose4 => some 4 | .rgoose6 => some 5
  | _ => none

/-- t of a GOOSE frame in the compressed form of LAST_T (R59). -/
def compressT (sec frac : Nat) : Nat := sec % 2 ^ 22 * 1024 + frac / 2 ^ 14 % 1024

/-- The word of a FRAME.GET selector (R268). Offsets into the APDU are those that the parser finds in the frame's bytes, whose
encoding is IEC 61850's: they are open values of the frame (log entry 7). -/
def frameWord (f : FrameRec) (sel : Nat) : Word :=
  let fr := f.frame
  let k := (kindOf fr.form).getD 0
  let sv := kindSv k
  match sel with
  | 0x0 => pack [(fr.bytes.length % 65536, 16), (f.srcPort, 6), (bnat (fr.vlanTags != 0), 5), (bnat fr.ext.isSome, 4), (k, 0)]
  | 0x1 => pack [(Config.apduOffset fr.bytes % 65536, 16), ((if fr.ext.isSome then Config.extOffset fr.bytes % 65536 else 0xFFFF), 0)]
  | 0x2 => if sv then pack [(Config.asduOffset fr.bytes % 65536, 16), (Config.asduStride fr.bytes % 4096, 4), (fr.smpCnts.length % 16, 0)] else 0
  | 0x3 => if sv then pack [(fr.smpCnts.getLastD 0 % 65536, 16), (fr.smpCnts.headD 0 % 65536, 0)] else 0
  | 0x4 => if sv then pack [(bnat fr.simulation, 8), (fr.smpSynch % 256, 0)] else 0
  | 0x5 => if sv then 0 else w32 fr.stNum
  | 0x6 => if sv then 0 else w32 fr.sqNum
  | 0x7 => if sv then 0 else w32 (compressT fr.tSec fr.tFrac)
  | 0x8 => if sv then 0 else w32 fr.ttl
  | 0x9 => match fr.ext with | some e => w32 e.keyId | none => 0
  | 0xA => match fr.ext with | some e => w32 e.alg | none => 0
  | 0xB => w32 f.ts
  | _ => w32 (f.ts / 2 ^ 32)

/-- A stream operation at the foreground level before VERDICT.PUT (R272): its frame and handle; otherwise the cause. -/
def streamOp (s : State) (b : Nat) (fg : Bool) (v : Word) (k : Nat → FrameRec → Res) : Res :=
  if !fg then .trap 0x28 v
  else
    let x := getBob s b
    if x.put then .trap 0x29 v
    else match x.frame with
      | some h => match getFrame s h with
        | some f => k h f
        | none => .ok (stopLevel s b)
      | none => .stall

/-- FRAME.GET (R268). -/
def execFrameGet (b : Fin 512) (w : OpWord) (s : State) : Host.Outcome State Fault Refusal :=
  .next (pypRun s b 0x28 w (rsvdBits w [(16, 4)] ++ (if 0xD ≤ opf w 3 0 then [0x0F] else [])) [opRd w] (fun s fg l =>
    streamOp s b fg (wordOf 0x28 w) (fun _ f => .ok (putLevel s b fg (l.setReg (opRd w) (frameWord f (opf w 3 0))).adv))))

/-- Tag bytes of an algorithm (R103, R104). -/
def tagLen (alg : Nat) : Nat :=
  match alg with
  | 1 => 10 | 2 => 16 | 3 => 32 | 4 => 8 | 5 => 16 | 6 => 16 | _ => 0

/-- Two byte ranges (offset, length) overlap. -/
def overlaps (a n c m : Nat) : Bool := decide (0 < n) && decide (0 < m) && decide (a < c + m) && decide (c < a + n)

/-- The lowest cause that a request block meets (R137, R275); a length outside its bounds, or a field that its OP leaves at 0,
counts as a range outside the frame. -/
def laneReqCause (alg len : Nat) (blk : List Nat) : Option Nat :=
  let q := fun i => blk.getD i 0
  let op := bits (q 0) 31 28
  let aoff := bits (q 1) 31 16
  let alen := bits (q 1) 15 0
  let coff := bits (q 2) 31 16
  let clen := bits (q 2) 15 0
  let toff := bits (q 3) 31 16
  let iv := bits (q 3) 15 0
  let t := tagLen alg
  let enc := op = 3 ∨ op = 4
  let hasIv := 4 ≤ alg
  if op = 0 ∨ 5 ≤ op then some 0x20
  else if bits (q 0) 26 0 ≠ 0 then some 0x21
  else if (if enc then alg ≠ 6 else ¬ (1 ≤ alg ∧ alg ≤ 5)) then some 0x22
  else if len < aoff + alen ∨ alen = 0 ∨ 1518 < alen ∨ len < toff + t ∨ (if enc then len < coff + clen ∨ clen = 0 ∨ 1518 < clen else coff ≠ 0 ∨ clen ≠ 0)
      ∨ (if hasIv then len < iv + 12 else iv ≠ 0) then some 0x23
  else if overlaps toff t aoff alen || overlaps toff t coff clen then some 0x24
  else if enc ∧ coff ≠ aoff + alen then some 0x25
  else if hasIv ∧ overlaps iv 12 toff t then some 0x26
  else none

/-- The class of a frame's request (R143): HIGH for a HIGH context's frame, otherwise NORMAL. -/
def classOf (c : Ctx) : Nat := if c.prio then 2 else 1

/-- A lane request of a bobbin's frame put in front of the pillow's arbiter at the bobbin's position (R144). -/
def laneSubmit (s : State) (b h : Nat) (c : Ctx) (rd : Nat) (blk : List Nat) : State :=
  let r : LaneReq :=
    { id := s.pool.next, op := bits (blk.getD 0 0) 31 28, cls := classOf c, bobbin := some b, frame := some h, block := blk,
      key := some (if bits (blk.getD 0 0) 27 27 = 1 then c.nextRef else c.curRef), slot := none, target := none, loadCtx := none,
      arg := [], left := 0, rest := 0, restore := 0, status := 0, out := [], val := 0, started := false, rd := rd, startAt := 0 }
  let s := { s with pool := { s.pool with next := s.pool.next + 1 } }
  modPil s (b / 32) (fun p => { p with arb := { p.arb with waiting := p.arb.waiting ++ [(b % 32, r)] } })

/-- A request of the bobbin's frame waits in front of the arbiter. -/
def laneWaiting (s : State) (b : Nat) : Bool :=
  (getPil s (b / 32)).arb.waiting.any (fun e => e.2.bobbin == some b) || (s.firn.needs.any (fun n => n.waiters.any (fun e => e.2.bobbin == some b)))

/-- The recorded results of earlier runs that the present run has not received yet: it gets them in their order (R153). -/
def recordsLeft (f : FrameRec) : List (List Nat × Nat) :=
  f.wrote.drop (f.given.filter (fun e => decide (2 ≤ bits (e.1.getD 0 0) 31 28) && bits e.2 27 24 == 0)).length

/-- The result of the same request of an earlier run of the frame, for its re-run (R153). -/
def recordedResult (f : FrameRec) (blk : List Nat) : Option Nat := ((recordsLeft f).find? (fun e => e.1 == blk)).map (·.2)

/-- The causes of R137 that need no frame: a level without one. -/
def laneReqForm (blk : List Nat) : Option Nat :=
  let op := bits (blk.getD 0 0) 31 28
  if op = 0 ∨ 5 ≤ op then some 0x20 else if bits (blk.getD 0 0) 26 0 ≠ 0 then some 0x21 else none

/-- The lowest cause that a LANE.REQ meets (R137, R270, R272, R274): what its block names, 0x27 for a block that is misaligned or outside the
foreground work area, then the level and the order. A block that lies in no data RAM is not read. -/
def laneCause (s : State) (b : Nat) (fg : Bool) (a : Nat) (blk : List Nat) : Option Nat :=
  let x := getBob s b
  let held := (heldFrame s x).bind (fun f => (f.ctx.bind (getCtx s)).map (fun c => (c.alg, (heldBytes s x).length)))
  let named := match fg, held with
    | true, some (alg, len) => laneReqCause alg len blk
    | _, _ => laneReqForm blk
  let readable := decide (0x10000000 ≤ a) && decide (a + 16 ≤ 0x10010000)
  match (if readable then named else none) with
  | some c => some c
  | none =>
    if a % 16 ≠ 0 ∨ a < 0x10004000 ∨ 0x10008000 < a + 16 then some 0x27
    else if !fg then some 0x28
    else if x.put then some 0x29
    else none

/-- Bytes n from position off of one list put over another. -/
def overlay (dst src : List Byte) (off n : Nat) : List Byte :=
  (List.range n).foldl (fun a i => match src[off + i]? with | some v => setAt a (off + i) v | none => a) dst

/-- The LANE.REQ of a shadow run (R225): it receives the LRES of the scheduled run's matching request, with what that request wrote; one that
the scheduled run has put its verdict without is no match, and the shadow run puts an outcome of its own (log entry 67). -/
def shadowLane (s : State) (b : Nat) (l : Level) (f : FrameRec) (alg rd : Nat) (blk : List Nat) : Res :=
  match f.given.find? (fun e => e.1 == blk) with
  | some (_, lres) =>
    let q := fun i => blk.getD i 0
    let tag := if bits (q 0) 31 28 = 2 ∨ bits (q 0) 31 28 = 4 then tagLen alg else 0
    let wrote := fun (bs : List Byte) =>
      overlay (overlay bs f.frame.bytes (bits (q 2) 31 16) (bits (q 2) 15 0)) f.frame.bytes (bits (q 3) 31 16) tag
    .ok (modBob s b (fun x => { x.setLevel true (l.setReg rd (w32 lres)).adv with copy := x.copy.map wrote }))
  | none =>
    if (f.bobbin.map (fun k => (getBob s k).await.isSome)).getD true then .ok (shadowIdle (shadowPut (modBob s b Bobbin.clearStage) b 0xA0 0) b)
    else .stall

/-- LANE.REQ (R137, R270): the block is read from the data RAM and checked; the level waits at the instruction until the last byte
is in, an earlier request is done, and the arbiter admits this one (LANE_ADMISSION). A request that wrote into the cells in an
earlier run of the frame gets its recorded result, and a writing request that differs from the recorded ones ends the frame with 0xA0
(R153). -/
def execLaneReq (b : Fin 512) (w : OpWord) (s : State) : Host.Outcome State Fault Refusal :=
  .next (pypRun s b 0x29 w (rsvdBits w [(11, 0)]) [opRd w, opRa w] (fun s fg l =>
    let a := (l.reg (opRa w)).toNat
    let blk := (List.range 4).map (fun i => ofLe ((List.range 4).map (fun k => dramByte s b (a - 0x10000000 + 4 * i + k))))
    match laneCause s b fg a blk with
    | some cause => .trap cause (wordOf 0x29 w)
    | none =>
      streamOp s b fg (wordOf 0x29 w) (fun h f =>
        match f.ctx.bind (getCtx s) with
        | none => .ok (stopLevel s b)
        | some c =>
          if !f.rxDone then .stall
          else if (getBob s b).shadow.isSome then shadowLane s b l f c.alg (opRd w) blk
          else if f.lanePending || laneWaiting s b then .stall
          else match recordedResult f blk with
            | some lres =>
              let f := { f with laneStatus := some 0, given := f.given ++ [(blk, lres)] }
              .ok (putLevel (setFrame s h (some f)) b fg (l.setReg (opRd w) (w32 lres)).adv)
            | none =>
              if f.rerun && !(recordsLeft f).isEmpty && decide (2 ≤ bits (blk.getD 0 0) 31 28) then
                .ok (stopLevel (finishVerdict s h 0xA0 0) b)
              else .ok (laneSubmit s b h c (opRd w) blk))))

/-- The context words that a program may write: the fields marked RW (R59): for SV the window state, for GOOSE all three replay
words, and CTX_PGM0 to CTX_PGM3. The mask of RO bits of a word. CTX_RPL2 is RW in R59's table for every context, though an SV context has
no field in it: a program may write it there too (R269). -/
def ctxRO (c : Ctx) (off : Nat) : Nat :=
  if 0x4C ≤ off ∧ off ≤ 0x58 then 0
  else if off = 0x20 then (if c.isSv then 0xFFFF0000 else 0)
  else if off = 0x24 ∨ off = 0x28 then 0
  else allBits

/-- CTX.LD (R269). -/
def execCtxLd (b : Fin 512) (w : OpWord) (s : State) : Host.Outcome State Fault Refusal :=
  let off := opf w 6 0
  let causes := rsvdBits w [(11, 7)] ++ (if off % 4 ≠ 0 ∨ 0x5C < off then [0x10] else [])
  .next (pypRun s b 0x2B w causes [opRd w, opRa w] (fun s fg l =>
    if fg then
      if opRa w ≠ 0 then .trap 0x05 (wordOf 0x2B w)
      else streamOp s b fg (wordOf 0x2B w) (fun _ f =>
        match f.ctx.bind (getCtx s) with
        | none => .ok (stopLevel s b)
        | some c =>
          let v := match smapGet (fun _ => none) (getBob s b).ctxStage (off / 4) with
            | some v => v
            | none => c.word off
          .ok (putLevel s b fg (l.setReg (opRd w) v).adv))
    else
      match getCtx s (l.reg (opRa w)).toNat with
      | some c => if c.home = b / 32 then .ok (putLevel s b fg (l.setReg (opRd w) (c.word off)).adv) else .trap 0x2B (wordOf 0x2B w)
      | none => .trap 0x2B (wordOf 0x2B w)))

/-- CTX.ST (R269). -/
def execCtxSt (b : Fin 512) (w : OpWord) (s : State) : Host.Outcome State Fault Refusal :=
  let off := opf w 6 0
  let causes := rsvdBits w [(16, 7)] ++ (if off % 4 ≠ 0 ∨ 0x5C < off then [0x10] else [])
  .next (pypRun s b 0x2C w causes [opRd w] (fun s fg l =>
    streamOp s b fg (wordOf 0x2C w) (fun _ f =>
      match f.ctx.bind (getCtx s) with
      | none => .ok (stopLevel s b)
      | some c =>
        let v := l.reg (opRd w)
        let ro := ctxRO c off
        if Nat.land v.toNat ro ≠ Nat.land (c.word off).toNat ro then .trap 0x2A (wordOf 0x2C w)
        else .ok (modBob (putLevel s b fg l.adv) b (fun x => { x with ctxStage := smapSet (fun _ => none) x.ctxStage (off / 4) (some v) })))))

/-- The verdict that a lane status requires (R140). -/
def statusVerdict (st : Nat) : Nat :=
  match st with
  | 1 => 0x20 | 2 => 0x23 | 3 => 0x24 | 4 => 0x25 | 5 => 0x26 | 6 => 0xA1 | _ => 0

/-- A verdict value that traps with 0x11 (R271): reserved bits, a reserved code, a code of the module's own, or a tag verdict on a
context with ALG 0. -/
def verdictBad (alg : Nat) (v : Word) : Bool :=
  let code := fld v 7 0
  let defined := [0x01, 0x02, 0x03, 0x04, 0x05, 0x10, 0x20, 0x21, 0x22, 0x23, 0x24, 0x25, 0x26, 0x40, 0x41, 0x42, 0x61, 0x62, 0x63, 0x80, 0xA1, 0xA3]
  fld v 31 15 != 0 || !defined.contains code || (alg == 0 && decide (1 ≤ code ∧ code ≤ 5))

/-- The code that the module's checks of R63 to R68 allow: a pass of a frame whose gates failed becomes the gates' code, and a pass
of the tag becomes the pass code of R65, R67 and R68 (log entry 16). -/
def gateCode (f : FrameRec) (pub : Bool) (code : Nat) : Nat :=
  if isPass code && !pub then (if f.gate ≠ 0 then f.gate else if code = 0x10 then 0x10 else f.passCode) else code

/-- Both lanes of a pillow are out of service (R22). -/
def lanesOut (s : State) (p : Nat) : Bool :=
  (smapGet (fun _ => LaneSt.init) s.lanes (2 * p)).st != .service && (smapGet (fun _ => LaneSt.init) s.lanes (2 * p + 1)).st != .service

/-- VERDICT.PUT (R22, R271): the value is checked, the lane status and the gates override a pass, no frame of a pillow without a lane in
service passes, TEST, the deferred flags and ENFORCE are applied, and the frame ends. -/
def verdictPut (s : State) (h : Nat) (f : FrameRec) (i : Nat) (c : Ctx) (put flags : Nat) : State :=
  let code := if c.alg ≠ 0 ∧ isPass put then
      match f.laneStatus with
      | none => 0xA3
      | some 0 => put
      | some st => statusVerdict st
    else put
  let s := if code ≠ put then record s 0x0203 0x4 f.pilInst [i, put, code] else s
  let code := if pairFails s f.pillow then 0xA2
    else if isPass code && lanesOut s f.pillow then 0xA1
    else gateCode f c.pubDir code
  let flags := if bit s.stn.si 0 then Nat.lor flags 0x40 else flags
  let flags := if c.pendingEval then Nat.lor (Nat.lor flags c.deferred) 0x80 else flags
  let s := setCtx s i (some { c with pendingEval := false, deferred := if c.pendingEval then 0 else c.deferred })
  let fails := Nat.land flags 3 ≠ 0 ∨ c.failHarm = true ∨ c.failBal = true
  let code := if c.enforce = true ∧ isPass code = true ∧ fails then 0x80 else code
  finishVerdict s h code flags

/-- A spare of the pillow shadows the frame, so that its VERDICT.PUT waits for the comparison (R225). -/
def shadowed (s : State) (b h : Nat) : Bool := (bobsOf (b / 32)).any (fun k => (getBob s k).shadow == some h)

/-- VERDICT.PUT (R271, R272). -/
def execVerdictPut (b : Fin 512) (w : OpWord) (s : State) : Host.Outcome State Fault Refusal :=
  .next (pypRun s b 0x2A w (rsvdBits w [(21, 17), (11, 0)]) [opRa w] (fun s fg l =>
    let v := l.reg (opRa w)
    let alg := if fg then (((heldFrame s (getBob s b)).bind (fun f => f.ctx.bind (getCtx s))).map Ctx.alg).getD 1 else 1
    if verdictBad alg v then .trap 0x11 (wordOf 0x2A w)
    else streamOp s b fg (wordOf 0x2A w) (fun h f =>
      match f.ctx, f.ctx.bind (getCtx s) with
      | some i, some c =>
        let x := getBob s b
        if (f.lanePending && x.shadow.isNone) || !f.rxDone then .stall
        else
          let s := drainAll s b 9
          if ((getBob s b).level fg).pend.isSome then .ok s
          else
            let s := modBob s b (fun x => { x.setLevel fg (x.level fg).adv with put := true })
            .ok (if x.shadow.isSome then shadowPut s b (fld v 7 0) (fld v 14 8)
                 else if shadowed s b h || thirdRun s x then modBob s b (fun x => { x with await := some (fld v 7 0, fld v 14 8) })
                 else verdictPut s h f i c (fld v 7 0) (fld v 14 8))
      | _, _ => .ok (stopLevel s b))))

/-! ### Traps and services (R273 to R277) -/

/-- A service that the runtime defines at a level (R277): 1 BGPOST foreground, 2 FLAGPOST background, 3 TIME. A service at the
wrong level is none that the runtime defines there. -/
def svcDefined (fg : Bool) (svc : Nat) : Bool := (svc == 1 && fg) || (svc == 2 && !fg) || svc == 3

/-- TRAP (R273, R275 to R277): entry to the service vector; a service that the runtime does not define ends as fatal with 0x41. -/
def execTrap (b : Fin 512) (w : OpWord) (s : State) : Host.Outcome State Fault Refusal :=
  .next (pypRun s b 0x23 w (rsvdBits w [(21, 4)]) [] (fun s fg l =>
    if l.trapped then .ok (endFatal s b fg 0x42)
    else
      let l' := l.trapEnter (l.pc + 4) 0x40 (wordOf 0x23 w)
      let s := putLevel s b fg l'
      .ok (if svcDefined fg (opf w 3 0) then s else endFatal s b fg 0x41)))

/-- The service that a level waits for: it is in the service vector with its svc (R274, R277). -/
def inService (l : Level) (svc : Nat) : Bool := l.trapped && l.super && l.ecause == 0x40 && fld l.eval 3 0 == svc

/-- A service that uses a register which waits for LRES stalls as any instruction does (R270). -/
def svcStalls (l : Level) (regs : List Nat) : Bool := match l.lres with | some r => regs.contains r | none => false

/-- The return of a service (R273, R277): as ERET. -/
def Level.svcReturn (l : Level) : Level := { l with super := l.emode, pc := l.epc, trapped := false }

/-- BGPOST (R277): an item for the held context, staged with the frame; any kind but HARM and USER is fatal. -/
def execBgpost (b : Fin 512) (s : State) : Host.Outcome State Fault Refusal :=
  let x := getBob s b
  .next (if inService x.fg 1 && x.frame.isSome && !svcStalls x.fg [4, 5] then
      let kind := (x.fg.reg 4).toNat
      match levelCtx s x true with
      | some i =>
        if kind = 1 ∨ kind = 3 then
          setBob s b { x with posts := x.posts ++ [⟨kind, i, (x.fg.reg 5).toNat, []⟩], fg := x.fg.svcReturn }
        else endFatal s b true 0x40
      | none => s
    else s)

/-- FLAGPOST (R277): flags of an evaluation, applied at the item's return; any bit outside [4:2] is fatal. -/
def execFlagpost (b : Fin 512) (s : State) : Host.Outcome State Fault Refusal :=
  let x := getBob s b
  .next (if inService x.bg 2 && x.frame.isNone && !svcStalls x.bg [4, 5] then
      match x.item with
      | some it =>
        let v := (x.bg.reg 5).toNat
        if Nat.land v (allBits - 0x1C) = 0 then
          setBob s b { x with item := some { it with flags := it.flags ++ [((x.bg.reg 4).toNat, v)] }, bg := x.bg.svcReturn }
        else endFatal s b false 0x40
      | none => s
    else s)

/-- TIME (R277): PTP seconds in g4 and g5, PTP_STATE in g6. -/
def execTime (b : Fin 512) (s : State) : Host.Outcome State Fault Refusal :=
  let x := getBob s b
  .next (match activeFg x with
    | some fg =>
      let l := x.level fg
      if inService l 3 && !svcStalls l [4, 5, 6] then
        putLevel s b fg ((((l.setReg 4 (w32 s.ptp.sec)).setReg 5 (w32 (s.ptp.sec / 2 ^ 32 % 2 ^ 16))).setReg 6 (ptpStateWord s)).svcReturn)
      else s
    | none => s)

/-! ### Retired Pypian-1 opcodes (R278) -/

/-- The running level of a bobbin executes a Pypian-1 image, outside the runtime. -/
def runsIsa1 (s : State) (b : Nat) : Bool :=
  let x := getBob s b
  match activeFg x with
  | some fg => match levelImage s b x fg with
    | some im => im.isa == 1 && !(x.level fg).trapped
    | none => false
  | none => false

/-- A retired opcode: emulated whole by the runtime in a Pypian-1 image, otherwise OPC_EXT, which decoding raises whatever the guard (R249,
R251). The operand format of the retired opcodes is R (log entry 17). A trap inside the runtime is a double trap. -/
def retired (s : State) (b m : Nat) (w : OpWord) (body : State → Bool → Level → Res) : State :=
  pypRun s b m w (if runsIsa1 s b then [] else [0x01]) [opRd w, opRa w, opRb w] body

/-- MAC40 (R278). -/
def execMac40 (b : Fin 512) (w : OpWord) (s : State) : Host.Outcome State Fault Refusal :=
  .next (retired s b 0x30 w (fun s fg l =>
    let t := l.acc0 + sgn 16 (l.reg (opRa w)).toNat * sgn 16 (l.reg (opRb w)).toNat
    .ok (putLevel s b fg (l.setAcc 0 (sgn 40 (unsgn 40 t))).adv)))

/-- LDX (R278). -/
def execLdx (b : Fin 512) (w : OpWord) (s : State) : Host.Outcome State Fault Refusal :=
  .next (retired s b 0x31 w (fun s fg l =>
    loadAt s b fg l (l.reg (opRa w) + l.reg (opRb w)).toNat 4 (fun l bs => l.setReg (opRd w) (w32 (ofLe bs)))))

/-- STX (R278). -/
def execStx (b : Fin 512) (w : OpWord) (s : State) : Host.Outcome State Fault Refusal :=
  .next (retired s b 0x32 w (fun s fg l =>
    storeAt s b fg l (l.reg (opRa w) + l.reg (opRb w)).toNat (leBytes 4 (l.reg (opRd w)).toNat) (fun s => drainOne s b)))

/-- One bit of a CRC-16, most significant bit first: the polynomial in the low 16 bits (log entry 17). -/
def crc16Bit (poly c : Nat) : Nat := if bit c 15 then (2 * c % 65536) ^^^ (poly % 65536) else 2 * c % 65536

/-- CRC16 (R278): the step of rd over byte ra[7:0]; bits [31:16] of the result are 0. -/
def execCrc16 (b : Fin 512) (w : OpWord) (s : State) : Host.Outcome State Fault Refusal :=
  .next (retired s b 0x33 w (fun s fg l =>
    let poly := (l.reg (opRb w)).toNat
    let c0 := ((l.reg (opRd w)).toNat % 65536) ^^^ ((l.reg (opRa w)).toNat % 256 * 256)
    let c := (List.range 8).foldl (fun c _ => crc16Bit poly c) c0
    .ok (putLevel s b fg (l.setReg (opRd w) (w32 c)).adv)))

/-- SWAPH (R278). -/
def execSwaph (b : Fin 512) (w : OpWord) (s : State) : Host.Outcome State Fault Refusal :=
  .next (retired s b 0x34 w (fun s fg l =>
    let v := l.reg (opRa w)
    .ok (putLevel s b fg (l.setReg (opRd w) (w32 (fld v 15 0 * 65536 + fld v 31 16))).adv)))

/-- DIVSTEP (R278): one restoring-division step on rd and ra. The spec does not say how the partial remainder and the quotient share
the two registers, so both results are open values (log entry 17). -/
def execDivstep (b : Fin 512) (w : OpWord) (s : State) : Host.Outcome State Fault Refusal :=
  .next (retired s b 0x35 w (fun s fg l =>
    let (v, s) := draw s
    let (u, s) := draw s
    .ok (putLevel s b fg ((l.setReg (opRa w) (w32 u)).setReg (opRd w) (w32 v)).adv)))

end Sys2Proof.Machine
end

