-- ==== Sys2Proof/Machine/Frames.lean ====
section
/-! DEFINITION. Machine/Frames.lean: the dispatch of a frame to a bobbin, with the gates of replay, time and key epoch that the module
judges (R60 to R71, R88 to R90, R112, R174, R213, R225, R244, R337, R348). -/
namespace Sys2Proof.Machine

/-! ### Replay windows (R63, R64) -/

/-- What a window check answers: the verdict code that fails it (0: none), the outcome, the replay words it stages, and the samples
that LAST advances (R65). -/
structure WindowRes where
  fail : Nat
  out : Option Window
  rpl : List Word
  adv : Nat
  deriving DecidableEq, Repr

def WindowRes.bad (code : Nat) : WindowRes := ⟨code, none, [], 0⟩

/-- Consecutive counts modulo m, all below m (R63). -/
def countsOk (m : Nat) : List Nat → Bool
  | [] => false
  | [a] => decide (a < m)
  | a :: b :: l => decide (a < m) && (a + 1) % m == b && countsOk m (b :: l)

/-- A 32-bit left shift; shifts of 32 or more give 0 (R63). -/
def shl32 (x n : Nat) : Nat := if 32 ≤ n then 0 else x * 2 ^ n % 2 ^ 32

/-- CTX_RPL0 with LAST, CTX_RPL1 with SEENMAP (R59). -/
def svRpl (c : Ctx) (last map : Nat) : List Word :=
  [w32 (fld (c.word 0x20) 31 16 * 2 ^ 16 + last % 2 ^ 16), w32 map, c.word 0x28]

/-- A count of the frame is LAST or marked in SEENMAP (R63). -/
def svMarked (c : Ctx) (m : Nat) (n : Nat) : Bool :=
  let last := fld (c.word 0x20) 15 0
  n == last || (let j := (last + 2 * m - 1 - n) % m; decide (j < 32) && bit (c.word 0x24).toNat j)

/-- sv_replay (R63), with the reorder depth given. -/
def svReplay (c : Ctx) (reorder : Nat) (counts : List Nat) : WindowRes :=
  let m := c.modulus
  let k := counts.length
  let first := counts.headD 0
  let last := counts.getLastD 0
  let cur := fld (c.word 0x20) 15 0
  let map := (c.word 0x24).toNat
  let mask := 2 ^ reorder - 1
  if !countsOk m counts || decide (8 < counts.length) then .bad 0x61
  else if c.seen = false ∨ c.lost = true then ⟨0, some .baseline, svRpl c last (Nat.land (2 ^ (k - 1) - 1) mask), 0⟩
  else
    let df := (first + m - cur % m) % m
    if 1 ≤ df ∧ 2 * df ≤ m then
      let dl := df + k - 1
      let map' := Nat.lor (Nat.lor (shl32 map dl) (shl32 1 (dl - 1))) (2 ^ (k - 1) - 1)
      ⟨0, some .ahead, svRpl c last (Nat.land map' mask), dl⟩
    else
      let bl := (cur + m - last) % m
      if 1 ≤ bl ∧ bl + k - 1 ≤ reorder then
        let marks := (2 ^ k - 1) * 2 ^ (bl - 1)
        if Nat.land map marks ≠ 0 then .bad 0x40 else ⟨0, some .behind, svRpl c cur (Nat.lor map marks), 0⟩
      else if counts.any (svMarked c m) then .bad 0x40 else .bad 0x41

/-- time_ok of R65: t lies from ts − TWIN to ts + 2 µs. Times are compared in units of 2^−24 ns. -/
def timeOk (c : Ctx) (f : Frame) (ts : Nat) : Bool :=
  let t := f.tSec * 1000000000 * 2 ^ 24 + f.tFrac % 2 ^ 24 * 1000000000
  decide (ts * 2 ^ 24 ≤ t + c.twin * 1000 * 2 ^ 24) && decide (t ≤ (ts + 2000) * 2 ^ 24)

/-- goose_replay (R64); ok is time_ok where the absolute check applies. -/
def gooseReplay (c : Ctx) (f : Frame) (ok : Bool) : WindowRes :=
  let st := f.stNum % 2 ^ 32
  let sq := f.sqNum % 2 ^ 32
  let tc := compressT f.tSec f.tFrac
  let lst := (c.word 0x20).toNat
  let lsq := (c.word 0x24).toNat
  let lt := (c.word 0x28).toNat
  let all := [w32 st, w32 sq, w32 tc]
  if c.seen = false ∨ c.lost = true then ⟨0, some .baseline, all, 0⟩
  else
    let ds := (st + 2 ^ 32 - lst) % 2 ^ 32
    if ds = 0 then
      if lsq < sq ∨ (lsq = 0xFFFFFFFF ∧ sq ≤ 1) then ⟨0, some .retransmit, [c.word 0x20, w32 sq, c.word 0x28], 0⟩ else .bad 0x40
    else if ds < 2 ^ 31 then
      if serialLt tc lt then .bad 0x40 else ⟨0, some .newState, all, 0⟩
    else if serialLt lt tc && ok then ⟨0, some .restart, all, 0⟩
    else .bad 0x40

/-! ### The time window (R65) -/

/-- The absolute checks apply: LOCKED, or HOLDOVER with an estimated error of at most a quarter of TWIN (R65). -/
def clockServes (s : State) (c : Ctx) : Bool :=
  s.ptp.st == .locked || (s.ptp.st == .holdover && decide (estErrNow s * 4 ≤ c.twin * 1000))

/-- The absolute check of sampled values: ts lies from nominal − 2 µs to nominal + TWIN, S the second whose nominal time lies nearest
ts. Times are scaled by SMPRATE. -/
def svAbsolute (c : Ctx) (first ts : Nat) : Bool :=
  let r := c.smpRate
  let off := first * 1000000000 / r
  let sec := (ts + 500000000 - off) / 1000000000
  let nom := sec * 1000000000 * r + first * 1000000000
  decide (nom ≤ ts * r + 2000 * r) && decide (ts * r ≤ nom + c.twin * 1000 * r)

/-- The sum of the logged steps between two times, ns (R120). -/
def stepsBetween (s : State) (lo hi : Nat) : Int :=
  s.ptp.steps.foldl (fun a e => let t := e.sec * 1000000000 + e.ns; if lo < t ∧ t ≤ hi then a + e.size else a) 0

/-- The relative check (R65, R120). -/
def svRelative (s : State) (c : Ctx) (ts n : Nat) : Bool :=
  let d : Int := ((ts + 2 ^ 32 - (c.word 0x1C).toNat) % 2 ^ 32 : Nat) - stepsBetween s c.lastTs ts
  let e : Int := d * c.smpRate - (n * 1000000000 : Nat)
  decide (e.natAbs ≤ c.twin * 1000 * c.smpRate)

/-- The time check of a frame: whether it fails, and whether an absolute check was skipped for the clock (R65). -/
def timeCheck (s : State) (c : Ctx) (f : Frame) (ts : Nat) (w : WindowRes) : Bool × Bool :=
  if c.twin = 0 then (false, false)
  else if c.isSv then
    if f.smpSynch = 2 ∧ fld (c.word 0x20) 26 26 = 0 then
      if clockServes s c then (!svAbsolute c (f.smpCnts.headD 0) ts, false) else (false, true)
    else if w.out = some .baseline then (false, false)
    else (!svRelative s c ts w.adv, false)
  else if w.out = some .retransmit then (false, false)
  else if clockServes s c then (!timeOk c f ts, false) else (false, true)

/-! ### Key epochs (R68) -/

/-- The fail code of a key identifier (0: accepted), its pass code, and whether the next key is selected (R68). -/
def keyEpoch (s : State) (c : Ctx) (kid : Nat) : Nat × Nat × Bool :=
  if kid = (c.word 0x0C).toNat then (0, 0x01, false)
  else if kid = (c.word 0x10).toNat then
    match c.nstate with
    | 2 => (0, 0x03, true)
    | 3 => if serialLt (ptpSec32 s) (c.word 0x14).toNat then (0, 0x02, true) else (0x22, 0, false)
    | _ => (0x21, 0, false)
  else (0x21, 0, false)

/-! ### The gates of a subscriber frame -/

/-- What the module judges of a subscriber frame before its bobbin runs: the gate code (0: every gate is passed), the window outcome,
the pass code, the key selection and the staged replay words (R63 to R70, R103). -/
structure Gate where
  code : Nat
  window : Option Window
  pass : Nat
  ksel : Bool
  rpl : List Word
  deriving DecidableEq, Repr

def Gate.fail (code : Nat) : Gate := ⟨code, none, 0, false, []⟩

/-- The extension's own faults: absent where ALG needs one, or not decodable on any context (R103). -/
def extFault (c : Ctx) (f : Frame) : Nat :=
  match f.ext with
  | none => if c.alg = 0 then 0 else 0x62
  | some e => if e.wellFormed then 0 else 0x61

/-- The gates of a subscriber frame, in their order. -/
def subscriberGate (s : State) (c : Ctx) (f : Frame) (ts : Nat) : Gate :=
  if keylessNow s then .fail 0x23
  else if extFault c f ≠ 0 then .fail (extFault c f)
  else
    let ok := c.twin = 0 || !clockServes s c || timeOk c f ts
    let w := if c.isSv then svReplay c c.reorder f.smpCnts else gooseReplay c f ok
    if w.fail ≠ 0 then .fail w.fail
    else
      let t := timeCheck s c f ts w
      if t.1 then .fail 0x42
      else
        let k := match f.ext with
          | some e => if c.alg = 0 then (0, 0x01, false) else keyEpoch s c e.keyId
          | none => (0, 0x01, false)
        if k.1 ≠ 0 then .fail k.1
        else if (match f.ext with | some e => e.alg != c.alg | none => false) = true then .fail 0x63
        else
          let pass := if w.out = some .baseline ∨ w.out = some .restart then 0x04 else if t.2 then 0x05 else k.2.1
          ⟨0, w.out, pass, k.2.2, w.rpl⟩

/-! ### Publishing (R88 to R90, R103, R104, R112, R174) -/

/-- The counters of a published frame: 0, or PUB_ORDER where a subscriber would refuse them (R89); and the words staged. -/
def publishOrder (c : Ctx) (f : Frame) : WindowRes :=
  if c.isSv then
    let w := svReplay c 0 f.smpCnts
    if w.fail ≠ 0 then .bad 0x65 else w
  else
    let w := gooseReplay c { f with tSec := 0, tFrac := 0 } false
    let all := [w32 f.stNum, w32 f.sqNum, w32 (compressT f.tSec f.tFrac)]
    match w.out with
    | some .retransmit => { w with rpl := [c.word 0x20, w32 f.sqNum, c.word 0x28] }
    | some .baseline => { w with rpl := all }
    | _ =>
      let ds := (f.stNum + 2 ^ 32 - (c.word 0x20).toNat) % 2 ^ 32
      if 1 ≤ ds ∧ ds < 2 ^ 31 then ⟨0, some .newState, all, 0⟩ else .bad 0x65

/-- A layer-2 frame's bytes with its security extension, the tag still zero (R103): the extension at the end of the APDU and the header length
field raised by what it adds, every other byte unchanged. -/
def extendL2 (alg kid iv : Nat) (bs : List Byte) : List Byte :=
  let n := extAdded 0 alg
  let off := Config.apduEnd bs
  let b := put16 bs (Config.lengthAt bs) (get16 bs (Config.lengthAt bs) + n)
  b.take off ++ exactly n (Config.extBytes alg (beBytes 4 kid ++ (if 4 ≤ alg then beBytes 8 iv else []))) ++ b.drop off

/-- A routed frame's bytes with its security fields, the tag still zero (R104): TimeOfCurrentKey, TimeToNextKey, algorithm and Key ID over what
the host supplied, the invocation field directly after Key ID, the signature field at the end of the session, and the lengths and the
checksum corrected. -/
def extendRouted (alg kid iv tck tnk : Nat) (bs : List Byte) : List Byte :=
  let off := Config.extOffset bs
  let fields := beBytes 4 tck ++ beBytes 2 tnk ++ beBytes 2 (Config.sessionAlg alg) ++ beBytes 4 kid
  let b := (fields.zip (List.range 12)).foldl (fun a e => setAt a (off + e.2) e.1) bs
  let b := if 4 ≤ alg then b.take (off + 12) ++ beBytes 8 iv ++ b.drop (off + 12) else b
  let b := b ++ exactly 2 (Config.sigHead alg) ++ List.replicate (tagLen alg) 0
  (Config.routedFix b).foldl (fun a e => setAt a e.1 e.2) b

/-- A frame with its security extension or its routed security fields, the tag still zero (R103, R104). -/
def extendFrame (c : Ctx) (r : FrameRec) (iv : Nat) : Frame :=
  if c.alg = 0 then r.frame
  else
    let kid := (c.word 0x0C).toNat
    { r.frame with
      bytes := if kindRouted c.kind then extendRouted c.alg kid iv r.tck r.tnk r.frame.bytes else extendL2 c.alg kid iv r.frame.bytes
      ext := some ⟨c.alg, kid, if 4 ≤ c.alg then iv else 0, true⟩ }

/-- A frame from a BITW field port that its extension would carry beyond 1,522 bytes, FCS included (R112). -/
def bitwTooLong (c : Ctx) (r : FrameRec) : Bool :=
  match r.src with
  | .port _ => decide (1522 < r.frame.bytes.length + 4 + extAdded c.kind c.alg)
  | .desc _ _ => false

/-- A new reservation is journalled when the field comes within 2^19 of the present one (R174). -/
def reserveIv (s : State) (i : Nat) (c : Ctx) : State :=
  if c.reserve ≤ c.iv + 2 ^ 19 ∧ reservePending s i c = false then journalAdd s [.ctx i (some { c with reserve := c.iv + 2 ^ 20 })] else s

/-- The record names this frame (R337). -/
def recordFits (i : Nat) (c : Ctx) (f : Frame) (r : PubRecord) : Bool :=
  r.ctx == i && (r.first, r.last) == pubCounters c f

/-- What a published frame meets before it runs: its end with a code, a wait, or the frame to run with its staged words (R88 to R90,
R112, R174, R337). -/
inductive PubStart
  | fails (code : Nat)
  | waits (s : State)
  | runs (s : State) (r : FrameRec)

/-- The checks of a published frame, in their order: a ZEROISED module publishes nothing (R70); the first frame that finds the field exhausted,
and the first of a run that is too long, write their records. DESIGN CHOICE (log entry 134): where both PUB_ORDER and IV_EXHAUSTED hold,
PUB_ORDER is tested first. -/
def publishStart (s : State) (h i : Nat) (c : Ctx) (r : FrameRec) : State × PubStart :=
  if keylessNow s then (s, .fails 0x23)
  else if r.gate ≠ 0 then (s, .fails r.gate)
  else if r.rerun then (s, .runs s r)
  else
    let w := publishOrder c r.frame
    if w.fail ≠ 0 then (s, .fails w.fail)
    else if bitwTooLong c r then
      let s := if c.bitwNoted then s else record (modCtx s i (fun c => { c with bitwNoted := true })) 0x0102 0x2 r.srcPort [i, r.frame.bytes.length + 4 + extAdded c.kind c.alg]
      (s, .fails 0x61)
    else if c.iv = 2 ^ 64 - 1 then
      let s := if c.ivNoted then s else record (modCtx s i (fun c => { c with ivNoted := true })) 0x0204 0x4 (0x200 + c.home) [i]
      (s, .fails 0x66)
    else
      let s := reserveIv s i c
      let standby := s.pair.st == .standby && (match r.src with | .desc _ _ => true | .port _ => false)
      match standby, takeFirst (recordFits i c r.frame) s.pair.records with
      | true, none =>
        (s, .waits (if s.pair.heldFrames.contains h then s else { s with pair := { s.pair with heldFrames := s.pair.heldFrames ++ [h] } }))
      | true, some (q, rest) =>
        let s := { s with pair := { s.pair with records := rest, heldFrames := s.pair.heldFrames.filter (· != h) } }
        (s, .runs s { r with frame := { extendFrame c r q.iv with redSeq := some q.seqNo }, iv := q.iv, pubRec := some q, rpl := w.rpl, window := w.out })
      | false, _ =>
        if c.iv < c.reserve then (s, .runs s { r with frame := extendFrame c r c.iv, iv := c.iv, rpl := w.rpl, window := w.out })
        else (s, .waits s)

/-! ### Dispatch (R213) -/

/-- A frame of the pillow that can be dispatched: its context is on the pillow that holds the frame (R233), INIT has returned or no bobbin is
left to run it (R230), and no earlier frame of it is short of VERDICT.PUT (R62, R213, R218). A held frame waits for its record (R337). -/
def dispatchable (s : State) (h : Nat) (r : FrameRec) : Bool :=
  r.stage == .ready &&
    (match r.ctx, r.ctx.bind (getCtx s) with
      | some i, some c =>
        (!c.initDue || (schedBobs s r.pillow).isEmpty) && r.pillow == c.home
          && (ctxFrames s i).all (fun e => e.1 == h || !(e.2.stage == .running || (e.2.stage == .ready && decide (e.2.order < r.order))))
          && (!s.pair.heldFrames.contains h || !(s.pair.st == .standby) || s.pair.records.any (recordFits i c r.frame))
      | _, _ => false)

/-- a is dispatched before b: a frame to be re-run is at the head of the order (R228); then HIGH before NORMAL, then the earliest admission,
then the lower context index (R213). -/
def dispatchBefore (a b : Nat × FrameRec) : Bool :=
  if a.2.rerun != b.2.rerun then a.2.rerun
  else if a.2.high != b.2.high then a.2.high
  else if a.2.order ≠ b.2.order then decide (a.2.order < b.2.order)
  else decide (a.2.ctx.getD 0 < b.2.ctx.getD 0)

/-- The frame that a pillow dispatches next. -/
def nextFrame (s : State) (p : Nat) : Option (Nat × FrameRec) :=
  ((frameList s).filter (fun e => e.2.pillow == p && dispatchable s e.1 e.2)).foldl
    (fun best e => match best with
      | none => some e
      | some b => if dispatchBefore e b then some e else some b) none

/-- The scheduled bobbins that may run a frame: a third run is neither of the two that differed (R226). -/
def eligible (s : State) (p : Nat) (r : FrameRec) : List Nat := (schedBobs s p).filter (fun b => !r.vote.any (fun o => o.bobbin == b))

/-- The bobbin that takes it: scheduled, its foreground level free, without a background item where there is one, the lowest index. -/
def nextBobbin (s : State) (p : Nat) (r : FrameRec) : Option Nat :=
  let free := (eligible s p r).filter (fun b => (getBob s b).frame.isNone)
  match free.find? (fun b => (getBob s b).item.isNone) with
  | some b => some b
  | none => free.head?

/-- Paired commits that are due for a context at a frame's timestamp (R348). -/
def dueCommits (s : State) (i ts : Nat) : State :=
  let due := s.pair.commitAt.filter (fun e => e.1 == i && decide (e.2.1 ≤ ts))
  let s := { s with pair := { s.pair with commitAt := s.pair.commitAt.filter (fun e => !(e.1 == i && decide (e.2.1 ≤ ts))) } }
  due.foldl (fun s e => commitCtx s i e.2.2) s

/-- PIL_CTRL in force (R241, R242). -/
def pilCtrl (s : State) (p : Nat) : Word := cfgOrSafe s (0x40 + p) 0x28

/-- The level at the entry point of a frame (R218, R244). -/
def entryLevel (i : Nat) (r : FrameRec) (pc : Nat) (tx : Bool) : Level :=
  let l := { Level.entry with pc := w32 pc }
  let l := (l.setReg 1 (w32 i)).setReg 2 (w32 r.srcPort)
  if tx then l else l.setReg 3 (w32 r.ts)

/-- The spare shadows one frame in every 2^SHADOW dispatched, but no re-run and none in the recovery window (R225, R351): it runs the same
entry point on its own copy of the frame. -/
def startShadow (s : State) (p h : Nat) (r : FrameRec) (l : Level) (tx : Bool) : State :=
  let k := fld (pilCtrl s p) 7 4
  let n := (getPil s p).dispatched
  match (bobsOf p).find? (fun b => (getBob s b).role == .spare) with
  | some b =>
    if k ≠ 0 ∧ n % 2 ^ k = 0 ∧ s.pair.recov = false ∧ r.rerun = false ∧ (getBob s b).shadow.isNone = true ∧ (getBob s b).frame.isNone = true then
      let run := fun (x : Bobbin) => { x.fgClear with frame := some h, tx := tx, fg := l, shadow := some h, copy := some r.frame.bytes }
      incReg (modBob s b run) (regAddr (0x40 + p) 0x38)
    else s
  | none => s

/-- The frame goes to a bobbin, at RX or TX of the image that serves its context (R213, R217, R218). -/
def runFrame (s : State) (p h i b : Nat) (c : Ctx) (r : FrameRec) : State :=
  match imageFor s p c.kind c.pubDir with
  | none => finishVerdict s h 0xA0 0
  | some m =>
    match (if c.pubDir then m.tx else m.rx) with
    | none => finishVerdict s h 0xA0 0
    | some e =>
      let s := setFrame (dequeue s (inputNo p c.pubDir r.high) (some h)).2 h (some { r with stage := .running, bobbin := some b, laneStatus := none, given := [] })
      let l := entryLevel i r (codeBase s p m + e) c.pubDir
      let s := modBob s b (fun x => { x.clearStage with frame := some h, tx := c.pubDir, put := false, stop := false, fg := l })
      let s := modPil s p (fun x => { x with dispatched := x.dispatched + 1 })
      startShadow s p h r l c.pubDir

/-- A pillow that dispatches. -/
def pillowRuns (s : State) (p : Nat) : Bool :=
  match (getPil s p).st with
  | .service | .draining | .returning | .failed => true
  | .off | .starting | .drained => false

/-- The dispatcher finds the pillow's input queues empty: a dequeue there is an underrun, whose handle it takes no action on (R286, log entry
135); with frames that wait it takes none. -/
def dispatchNone (s : State) (p : Nat) : State :=
  if (frameList s).any (fun e => e.2.stage == .ready && e.2.pillow == p) then s else (dequeue s (inputNo p false false) none).2

/-- FRAME_DISPATCH (R213): the next dispatchable frame of a pillow is judged and goes to a bobbin. On a pillow that has no
bobbin to schedule, or for a third run none but the two that differed, it ends with ENGINE_FAULT (R226, R230). -/
def frameDispatch (s : State) (p : Nat) : State :=
  if !pillowRuns s p then s
  else match nextFrame s p with
    | none => dispatchNone s p
    | some (h, r) =>
      let i := r.ctx.getD 0
      let s := dueCommits s i r.ts
      match getCtx s i with
      | none => s
      | some c =>
        if (eligible s p r).isEmpty then finishVerdict s h 0xA0 0
        else if c.pubDir then
          match publishStart s h i c r with
          | (t, .fails code) => finishVerdict t h code 0
          | (_, .waits t) => t
          | (_, .runs t q) =>
            match nextBobbin s p r with
            | some b => runFrame t p h i b c q
            | none => s
        else
          match nextBobbin s p r with
          | some b =>
            let g := subscriberGate s c r.frame r.ts
            runFrame s p h i b c { r with gate := g.code, window := g.window, passCode := g.pass, ksel := g.ksel, rpl := g.rpl }
          | none => s

/-- FRAME_DISPATCH (R213). -/
def execFrameDispatch (pillow : Fin 16) (s : State) : Host.Outcome State Fault Refusal := .next (frameDispatch s pillow)

end Sys2Proof.Machine
end

