-- ==== Sys2Proof/Machine/LaneOps.lean ====
section
/-! DEFINITION. Machine/LaneOps.lean: what the lane commands share: states and records, queues and work, the cycles of a request, its
outcome on the frame's bytes, and the delivery of its result (R133 to R155, R473). -/
namespace Sys2Proof.Machine

def getLane (s : State) (n : Nat) : LaneSt := smapGet (fun _ => LaneSt.init) s.lanes n

def setLane (s : State) (n : Nat) (x : LaneSt) : State := { s with lanes := smapSet (fun _ => LaneSt.init) s.lanes n x }

def modLane (s : State) (n : Nat) (f : LaneSt → LaneSt) : State := setLane s n (f (getLane s n))

/-- The page of a lane. -/
def cplPage (n : Nat) : Nat := 0x60 + n

/-- Register o of a lane's page. -/
def cplReg (n o : Nat) : Nat := regAddr (cplPage n) o

/-- A change of lane state writes a LANE_STATE record (R151). -/
def setLaneState (s : State) (n : Nat) (st : LaneState) : State :=
  let x := getLane s n
  if x.st = st then s else record (setLane s n { x with st := st }) 0x0400 0x5 n [x.st.code, st.code]

/-- A lane is in SERVICE. -/
def laneServes (s : State) (n : Nat) : Bool := (getLane s n).st == .service

/-- Requests of the lane: queued, running and suspended (CPL_STATE.QDEPTH). -/
def LaneSt.depth (x : LaneSt) : Nat := x.queue.length + x.susp.length + bnat x.running.isSome

/-- Lane cycles that have passed since a moment of the model's clock: 1.2 cycles a ns (R133). -/
def cyclesSince (s : State) (t : Nat) : Nat := (s.boot.now - t) * 6 / 5

/-- Work left of a running request; the cycles that restore it are none of it (R147). -/
def LaneReq.remaining (s : State) (r : LaneReq) : Nat := r.left - (cyclesSince s r.startAt - r.restore)

/-- Remaining queued work of a lane in cycles (R145). -/
def laneWork (s : State) (n : Nat) : Nat :=
  let x := getLane s n
  x.queue.foldl (fun a r => a + r.left) 0 + x.susp.foldl (fun a r => a + r.left + 4) 0
    + (match x.running with | some r => r.remaining s | none => 0)

/-- The cycles of a request from its start to its result (R473), its key schedule cached. Operations without a stated count take
the open count of Config (log entry 18). -/
def reqCycles (alg op : Nat) (blk : List Nat) (arg : List Byte) : Nat :=
  let a := bits (blk.getD 1 0) 15 0
  let c := bits (blk.getD 2 0) 15 0
  if op = 1 ∨ op = 2 then
    if alg ≤ 3 then 24 + 16 * ((a + 9 + 63) / 64 + 1) else 24 + (a + 15) / 16 + 16
  else if op = 3 ∨ op = 4 then 24 + (a + 15) / 16 + (c + 15) / 16 + 16 + (c + 63) / 64
  else if op = 8 then 360
  else if op = 0xA then 48
  else Config.laneCycles op arg.length

/-- Cycles of the final step, which writes into the cells (R153, R473): ⌈c ÷ 64⌉ for DECRYPT and ENCRYPT. DESIGN CHOICE (log entry 146): the step
of a GENERATE, whose length the spec does not give, lasts one cycle. -/
def finalCycles (r : LaneReq) : Nat :=
  if r.op = 3 ∨ r.op = 4 then (bits (r.block.getD 2 0) 15 0 + 63) / 64 else if r.op = 2 then 1 else 0

/-- The bytes of a range of a list. -/
def slice (bs : List Byte) (off n : Nat) : List Byte := (bs.drop off).take n

/-- Bytes put over a list from a position; none beyond its end. -/
def patch (bs : List Byte) (off : Nat) (new : List Byte) : List Byte :=
  (new.zip (List.range new.length)).foldl (fun a e => setAt a (off + e.2) e.1) bs

/-- The text combined with the key stream of AES-256-GCM: encryption and decryption alike. -/
def gcmCrypt (key : Nat) (iv text : List Byte) : List Byte :=
  (text.zip (List.range text.length)).map (fun e => e.1 ^^^ Config.gcmStream key iv e.2)

/-- What a frame operation finds and writes: its STATUS and its writes into the cells (R139, R140). -/
def frameOp (alg key op : Nat) (blk : List Nat) (bs : List Byte) : Nat × List (Nat × List Byte) :=
  let q := fun i => blk.getD i 0
  let aad := slice bs (bits (q 1) 31 16) (bits (q 1) 15 0)
  let text := slice bs (bits (q 2) 31 16) (bits (q 2) 15 0)
  let coff := bits (q 2) 31 16
  let toff := bits (q 3) 31 16
  let iv := if 4 ≤ alg then slice bs (bits (q 3) 15 0) 12 else []
  let n := tagLen alg
  let found := slice bs toff n
  match op with
  | 1 => (if found = beBytes n (Config.mac alg key iv aad) then 0 else 1, [])
  | 2 => (0, [(toff, beBytes n (Config.mac alg key iv aad))])
  | 3 => if found = beBytes n (Config.gcmTag key iv aad text) then (0, [(coff, gcmCrypt key iv text)]) else (1, [])
  | _ =>
    let ct := gcmCrypt key iv text
    (0, [(coff, ct), (toff, beBytes n (Config.gcmTag key iv aad ct))])

/-- The result word LRES (R140). -/
def lresWord (status lane : Nat) : Nat := 2 ^ 31 + status * 2 ^ 24 + lane * 2 ^ 16

/-- A bobbin's request is admitted (R144, R270): its instruction completes with rd waiting for LRES; a VERIFY marks gates 1 to 3 passed, and
delivery may begin (R73). -/
def admitBobbin (s : State) (r : LaneReq) : State :=
  match r.bobbin, r.frame with
  | some b, some h =>
    let x := getBob s b
    if x.frame = some h then
      let s := setBob s b { x with fg := { x.fg with lres := some r.rd }.adv }
      tryDeliver (modFrame s h (fun f => { f with lanePending := true, gated := f.gated || r.op == 1 })) h
    else s
  | _, _ => s

/-- A bobbin's request completes (R140, R141, R153): a successful write goes into the cells and is recorded, and the frame is
bound to the STATUS and the LRES word reaches the bobbin where it still runs the frame (R228: else the result is discarded, and the
frame's re-run waits no longer). -/
def completeFrameReq (s : State) (lane : Nat) (r : LaneReq) (status : Nat) : State :=
  match r.bobbin, r.frame with
  | some b, some h =>
    let lres := lresWord status lane
    let x := getBob s b
    let mine := fun (f : FrameRec) => decide (x.frame = some h ∧ f.bobbin = some b)
    let holds := match getFrame s h with | some f => mine f | none => false
    let s := modFrame s h (fun f =>
      let m := mine f
      let f := if status = 0 ∧ r.out ≠ [] then
          { f with frame := { f.frame with bytes := r.out.foldl (fun a e => patch a e.1 e.2) f.frame.bytes }
                   wrote := f.wrote ++ [(r.block, lres)], plain := f.plain || r.op == 3 }
        else f
      if m then { f with laneStatus := some status, lanePending := false, given := f.given ++ [(r.block, lres)] }
      else { f with lanePending := false })
    if holds then
      match x.fg.lres with
      | some rd => setBob s b { x with fg := { x.fg with lres := none }.setReg rd (w32 lres) }
      | none => s
    else s
  | _, _ => s

/-- A request that reaches no lane completes at once (R140, R145, R162): it is admitted and done, with the even lane of the pillow. -/
def completeUnlaned (s : State) (p : Nat) (r : LaneReq) (status : Nat) : State :=
  completeFrameReq (admitBobbin s r) (2 * p) r status

/-- The request that leaves the queue next: highest class first, admission order within a class (R146). -/
def nextReq (q : List LaneReq) : Option (LaneReq × List LaneReq) :=
  let top := q.foldl (fun a r => max a r.cls) 0
  takeFirst (fun r => r.cls == top) q

/-- The class of the highest request waiting in the queue, one above the class itself; 0 for none. -/
def topClass (q : List LaneReq) : Nat := q.foldl (fun a r => max a (r.cls + 1)) 0

/-- A request of lower class that resumes before anything of the queue starts (R148). -/
def resumesFirst (x : LaneSt) : Bool :=
  match x.susp with
  | r :: _ => decide (topClass x.queue ≤ r.cls + 1)
  | [] => false

/-- The lane can start a request now: it works, runs nothing, and no suspended request goes first. -/
def laneFree (x : LaneSt) : Bool := (x.st == .service || x.st == .draining) && x.running.isNone && !resumesFirst x

/-- Moved requests enter a lane's queue as entries free, in their order (R152). -/
def admitMoved (s : State) (n : Nat) : State :=
  let p := n / 2
  let x := getLane s n
  let m := (getPil s p).arb.moved
  if x.st = .service then
    let k := 64 - x.depth
    modPil (setLane s n { x with queue := x.queue ++ m.take k }) p (fun y => { y with arb := { y.arb with moved := m.drop k } })
  else s

/-- A lane that drains and has become empty: DRAINED (R151), then a self-test that waited for it (R155). -/
def laneDrained (s : State) (n : Nat) : State :=
  let x := getLane s n
  if x.st = .draining ∧ x.depth = 0 then
    let s := setEvt s (cplPage n) 2
    if x.stDue then modLane (setLaneState s n .selftest) n (fun x => { x with stDue := false }) else s
  else s

/-- The lane stops taking requests and drains (R151, R155). -/
def laneDrain (s : State) (n : Nat) : State :=
  if (getLane s n).st = .service then laneDrained (setLaneState s n .draining) n else s

/-- The lane is requested in service: INSVC, with the page not in its safe state (R151, R155). -/
def laneWanted (s : State) (n : Nat) : Bool := fld (getReg s (cplReg n 0x20)) 0 0 == 1 && !pageSafe s (cplPage n)

/-- The lane goes where a passed self-test leads (R151). -/
def laneEnter (s : State) (n : Nat) : State :=
  if laneWanted s n then admitMoved (setLaneState s n .service) n else laneDrained (setLaneState s n .draining) n

end Sys2Proof.Machine
end

