-- ==== Sys2Proof/Machine/DomainOps.lean ====
section
/-! DEFINITION. Machine/DomainOps.lean: power domains going off and on, with their pages (R39, R151, R435, R439). -/
namespace Sys2Proof.Machine

/-- Every word of a page at its reset value, BLK_CFGREF included (R39). -/
def pageReset (s : State) (p : Nat) : State :=
  { s with regs := s.regs.filter (fun e => e.1 / 0x1000 != p), pages := s.pages.filter (fun e => e.1 != p) }

/-- A completed switching of a group's domain counted in PWC_SWCNT (R439). -/
def countSwitch (s : State) (group : Nat) : State := incReg s (regAddr 0x131 (0x20 + 4 * (group - 1)))

/-- Bit n of a domain mask set or cleared. -/
def maskSet (m n : Nat) (on : Bool) : Nat :=
  if bit m n then (if on then m else m - 2 ^ n) else (if on then m + 2 ^ n else m)

/-- The state of a lane whose domain is switched: ABORTED is left at boot only (R151). -/
def LaneState.kept (a b : LaneState) : LaneState := match a with | .aborted => .aborted | _ => b

/-- A lane's domain off: the lane is OFF and holds nothing (R151). -/
def laneOff (s : State) (n : Nat) : State :=
  if bit s.pwc.lane n then
    let s := setLaneState s n ((getLane s n).st.kept .off)
    let s := modLane s n (fun x => { LaneSt.init with st := x.st })
    countSwitch { s with pwc := { s.pwc with lane := maskSet s.pwc.lane n false } } 3
  else s

/-- A lane's domain on: its page at its reset values, and the self-test (R39, R151). -/
def laneOn (s : State) (n : Nat) : State :=
  if bit s.pwc.lane n then s
  else
    let s := pageReset { s with pwc := { s.pwc with lane := maskSet s.pwc.lane n true } } (cplPage n)
    countSwitch (setLaneState (modLane s n (fun x => { LaneSt.init with st := x.st })) n ((getLane s n).st.kept .selftest)) 3

end Sys2Proof.Machine
end

