-- ==== Sys2Proof/Machine/BootOps.lean ====
section
/-! DEFINITION. Machine/BootOps.lean: domains and units switched off, the power-fail actions (R428), the start-up hold (R425), and the
reset of the module (R419). -/
namespace Sys2Proof.Machine

/-! ### DRAM, LTU and LIU -/

def getDram (s : State) (n : Nat) : DramSt := if n = 0 then s.pool.dram0 else s.pool.dram1

def setDram (s : State) (n : Nat) (x : DramSt) : State :=
  { s with pool := if n = 0 then { s.pool with dram0 := x } else { s.pool with dram1 := x } }

/-- A change of a controller's STATE is DRAMSTATE (R291). -/
def setDramState (s : State) (n : Nat) (st : DramState) : State :=
  let x := getDram s n
  if x.st = st then s else setEvt (setDram s n { x with st := st }) 0xA0 8

/-- A DRAM controller off: its XTS keys are gone (R293, R425, R438). -/
def dramOff (s : State) (n : Nat) : State :=
  let s := setDramState s n .off
  let s := setDram s n { getDram s n with keyVal := false, key := 0 }
  { s with pwc := { s.pwc with dram := maskSet s.pwc.dram n false } }

/-- The LTU's memories cleared, in a state (R191). -/
def ltuClear (s : State) (st : UnitState) : State :=
  { s with ltu := { s.ltu with
      st := st, op := none, queue := [], asking := false, input := [], result := [], rnd := none, coef := 0, keccak := 0 } }

/-- The LIU's operand RAM, modulus register and residues zeroed, in a state (R205). -/
def liuClear (s : State) (st : UnitState) : State :=
  { s with liu := { s.liu with st := st, pw := [], sw := [], modulus := 0, modLen := 0, modInv := 0, modR2 := 0, running := none, res := [],
                               resCmp := none, queue := [], resid := [], secret := false } }

/-- The state of a unit whose domain goes off or comes on: ABORTED lasts until boot, FAULT until a self-test has passed (R191, R204, R205). -/
def UnitState.kept (a b : UnitState) : UnitState := match a with | .aborted => .aborted | .fault => .fault | _ => b

/-- The LTU and the LIU switched off, their memories cleared first (R191, R205, R437). -/
def ltuOff (s : State) : State := if s.pwc.ltu then { ltuClear s (s.ltu.st.kept .off) with pwc := { s.pwc with ltu := false } } else s
def liuOff (s : State) : State := if s.pwc.liu then { liuClear s (s.liu.st.kept .off) with pwc := { s.pwc with liu := false } } else s

/-- The LTU switched on, its page at its reset values (R39). -/
def ltuOn (s : State) : State :=
  if s.pwc.ltu then s
  else { pageReset s 0x90 with
    pwc := { s.pwc with ltu := true }, ltu := { s.ltu with st := s.ltu.st.kept .idle, restarts := 0, maxIter := 0 } }

/-- The LIU switched on, both its pages at their reset values (R39). -/
def liuOn (s : State) : State :=
  if s.pwc.liu then s
  else { pageReset (pageReset s 0x91) 0x92 with pwc := { s.pwc with liu := true }, liu := { s.liu with st := s.liu.st.kept .idle, cmp := 0 } }

/-! ### Bobbins, pillows and ports -/

/-- A bobbin's domain off: it holds nothing (R39, R435). -/
def bobOff (s : State) (b : Nat) : State :=
  if bit s.pwc.bob b then
    let s := setBob s b { Bobbin.init b with role := if (getBob s b).role = .quarantined then .quarantined else .off, quarCount := (getBob s b).quarCount }
    countSwitch { s with pwc := { s.pwc with bob := maskSet s.pwc.bob b false } } 1
  else s

/-- A change of PIL_STATE.STATE is STATECHG (R242). -/
def setPilState (s : State) (p : Nat) (st : PilState) : State :=
  if (getPil s p).st = st then s else setEvt (modPil s p (fun x => { x with st := st })) (0x40 + p) 8

/-- A pillow's fabric off (R435). -/
def pillowOff (s : State) (p : Nat) : State :=
  if bit s.pwc.pil p then
    let s := modPil (setPilState s p .off) p (fun x => { Pillow.init with st := .off, assign := x.assign })
    countSwitch { s with pwc := { s.pwc with pil := maskSet s.pwc.pil p false } } 2
  else s

/-- A port's MAC domain off: its link is down (R128). -/
def portOff (s : State) (n : Nat) : State :=
  if bit s.pwc.port n then
    let s := portDown s n
    countSwitch { s with pwc := { s.pwc with port := maskSet s.pwc.port n false } } 4
  else s

/-- Something done for every number below n. -/
def forAll (n : Nat) (f : State → Nat → State) (s : State) : State := (List.range n).foldl f s

/-! ### Power failure and hold -/

/-- The power-fail actions short of the reset (R428): lanes, Firn slots, XTS keys, LTU, LIU and the copies of keys cleared. -/
def powerFailActions (s : State) : State :=
  let s := pairDying s
  let s := { s with lanes := s.lanes.map (fun (e : Nat × LaneSt) => (e.1, { e.2 with queue := [], running := none, susp := [], cache := [] })) }
  let s := { s with firn := { s.firn with slots := [], needs := [], comps := [], portResult := none } }
  let s := setDram s 0 { s.pool.dram0 with keyVal := false, key := 0 }
  let s := setDram s 1 { s.pool.dram1 with keyVal := false, key := 0 }
  let s := liuClear (ltuClear s s.ltu.st) s.liu.st
  { s with lc := { s.lc with idKey := none } }

/-- Every domain off that R30 does not protect: bobbins and fabrics of pillows without contexts, lanes without requests, port MACs,
DRAM controllers, LTU, LIU, CP_2 and CP_3. PCIe and the station side stay on (log entry 23). -/
def holdDomains (s : State) : State :=
  let s := forAll 16 (fun s p =>
    if (homedOn s p).isEmpty then pillowOff ((bobsOf p).foldl bobOff s) p else s) s
  let s := forAll 32 (fun s n => if (getLane s n).depth = 0 then laneOff s n else s) s
  let s := forAll 4 portOff s
  let s := liuOff (ltuOff (dramOff (dramOff s 0) 1))
  { s with pwc := { s.pwc with cp := Nat.land s.pwc.cp 3 } }

/-- Entry to the start-up hold (R425): in service the cause TEMP first takes the power-fail actions. -/
def enterHold (s : State) (cause : Nat) : State :=
  if s.boot.phase = .hold then s
  else
    let s := if cause = 4 ∧ s.boot.phase = .service then powerFailActions s else s
    let s := pairDying s
    let s := { s with pair := { s.pair with lanes := 0, hb := false, authDone := false }, stn := { s.stn with health := false } }
    let s := { s with boot := { s.boot with portHold := true } }
    let s := forAll 4 portDown s
    let s := holdDomains s
    { s with boot := { s.boot with
        phase := .hold, cause := cause, bootTime := s.boot.now / 1000000
        access := match s.boot.access with | .full => .holdPages | a => a } }

/-! ### Reset -/

/-- The module in internal reset (R419): what NAND, one-time-programmable words, the battery domain, the host's memory and the pins
hold stays; everything else is as State.reset says. -/
def moduleReset (s : State) : State :=
  { State.reset with
    msix := s.msix
    mem := s.mem.filter (fun (e : Nat × Byte) => decide (2 ^ 64 ≤ e.1))
    boot := { BootSt.reset with
      imageA := s.boot.imageA, imageB := s.boot.imageB, prefSlot := s.boot.prefSlot, batteryOk := s.boot.batteryOk, bootCnt := s.boot.bootCnt
      latchSec := s.boot.latchSec, latchNs := s.boot.latchNs, notes := s.boot.notes }
    lc := { LcSt.reset with
      lcw := s.lc.lcw, st := s.lc.st, target := s.lc.target, dieId := s.lc.dieId, mfgKeyHash := s.lc.mfgKeyHash, rootKey := s.lc.rootKey
      fwKeyHash := s.lc.fwKeyHash, fwKeyRevoke := s.lc.fwKeyRevoke, svnMin := s.lc.svnMin, idKill := s.lc.idKill, keyed := s.lc.keyed, devFp := s.lc.devFp
      seedA := s.lc.seedA, seedB := s.lc.seedB, cert := s.lc.cert, certChain := s.lc.certChain }
    pwc := { PwcSt.reset with clkOk := s.pwc.clkOk, tj := s.pwc.tj }
    tamper := { TamperSt.reset with
      srcEn := s.tamper.srcEn, active := s.tamper.active, last := s.tamper.last, evCnt := s.tamper.evCnt, zeroised := s.tamper.zeroised, meshFail0 := s.tamper.meshFail0, meshFail1 := s.tamper.meshFail1
      breachDue := s.tamper.breachDue, seed := s.tamper.seed, batRecs := s.tamper.batRecs, temp := s.tamper.temp, vbat := s.tamper.vbat
      cerHigh := s.tamper.cerHigh }
    mor := { MorSt.reset with archive := s.mor.archive, archTail := s.mor.archTail, seqRes := s.mor.seqRes }
    firn := { FirnSt.reset with recA := s.firn.recA, recB := s.firn.recB, outlived := s.firn.outlived }
    hostIf := { HostIfSt.reset with perst := s.hostIf.perst }
    pair := { PairSt.reset with rpart := s.pair.rpart, psIn := s.pair.psIn }
    images := s.images
    durable := s.durable
    freeCtr := s.freeCtr
    pending := s.pending }

end Sys2Proof.Machine
end

