-- ==== Sys2Proof/Machine/PilOps.lean ====
section
/-! DEFINITION. Machine/PilOps.lean: declared load, scratch and shared RAM, background owners, bobbins taken out of service, and the
moves of contexts (R212, R214, R220, R223 to R236). -/
namespace Sys2Proof.Machine

/-! ### Declared load (R212, R475) -/

/-- Cycles a second that a context declares on a pillow. -/
def ctxLoad (s : State) (p : Nat) (c : Ctx) : Nat :=
  match imageFor s p c.kind c.pubDir with
  | some m => c.declRate * (m.cycles + (if c.harm then m.cyclesHarm else 0))
  | none => 0

/-- The declared load of a pillow. -/
def declLoad (s : State) (p : Nat) : Nat := (homedOn s p).foldl (fun a e => a + ctxLoad s p e.2) 0

/-- The capacity of a pillow: 1,200 million cycles for each scheduled bobbin. -/
def pilCapacity (s : State) (p : Nat) : Nat := (schedBobs s p).length * 1200000000

/-- PIL_LOADW (R241): both in 10^6 cycles per second, holding at 0xFFFF. -/
def pilLoadWord (s : State) (p : Nat) : Word := pack [(min (declLoad s p / 1000000) 0xFFFF, 16), (min (pilCapacity s p / 1000000) 0xFFFF, 0)]

/-- The pillow of a list with the lowest declared load, the lower number on ties (R212, R234). -/
def leastLoaded (s : State) (ps : List Nat) : Option Nat :=
  ps.foldl (fun best p => match best with
    | none => some p
    | some q => if declLoad s p < declLoad s q then some p else some q) none

/-- The pillows in SERVICE. -/
def servingPillows (s : State) : List Nat := (List.range 16).filter (fun p => (getPil s p).st == .service)

/-! ### Scratch and shared RAM (R220, R221) -/

/-- The nominal frequency of the power system (R221). -/
def nomFreq (s : State) : Nat := if fld (getReg s 0x120044) 0 0 = 1 then 60 else 50

/-- Scratch bytes of a context (R220). -/
def scratchSize (s : State) (m : Image) (smpRate : Nat) (cycle : Bool) : Nat :=
  let n := if cycle then (smpRate + nomFreq s - 1) / nomFreq s else 0
  min 8192 ((m.scrBase + m.scrSmp * n + 63) / 64 * 64)

/-- The groups of a pillow. -/
def groupsOn (s : State) (p : Nat) : List (Nat × Group) :=
  s.groups.filterMap (fun e => match e.2 with | some g => if g.pillow = p then some (e.1, g) else none | none => none)

/-- Areas of a pillow's shared RAM in use: offset and length. -/
def ramUsed (s : State) (p : Nat) : List (Nat × Nat) :=
  (homedOn s p).map (fun e => (e.2.scrBase, e.2.scrLen)) ++ (groupsOn s p).map (fun e => (e.2.base, 2048))

/-- The lowest free place for n bytes above the runtime's 64 KiB (log entry 28). -/
def ramFit (used : List (Nat × Nat)) (n : Nat) : Option Nat :=
  let starts := 0x10000 :: used.map (fun e => e.1 + e.2)
  let fits := starts.filter (fun a => decide (a + n ≤ 0x100000) && used.all (fun e => !overlaps a n e.1 e.2))
  fits.foldl (fun best a => match best with
    | none => some a
    | some b => some (min a b)) none

/-! ### Background owners (R214) -/

/-- Assignments of a bobbin: contexts and groups that it owns. -/
def bgCount (s : State) (b : Nat) : Nat :=
  ((homedOn s (b / 32)).filter (fun e => e.2.bgOwner == b % 32)).length + ((groupsOn s (b / 32)).filter (fun e => e.2.owner == b % 32)).length

/-- The scheduled bobbin with the fewest assignments, the lower index on ties, as an index in its pillow. -/
def pickOwner (s : State) (p : Nat) : Nat :=
  (((schedBobs s p).foldl (fun best b => match best with
    | none => some b
    | some q => if bgCount s b < bgCount s q then some b else some q) none).getD 0) % 32

/-- The bobbin that owns an item. -/
def itemOwner (s : State) (it : BgItem) : Nat :=
  if it.target < 0x40000 then ownerOf s it.target
  else match getGroup s (it.target - 0x40000) with
    | some g => 32 * g.pillow + g.owner
    | none => 0

/-- An item put at the head of its owner's queue. -/
def requeueFirst (s : State) (it : BgItem) : State :=
  modBob s (itemOwner s it) (fun x => { x with queue := { it with flags := [] } :: x.queue })

/-- An item put to its owner's queue, an INIT ahead of the others (R218); a BAL_EVAL dropped there sets BAL_INCOMPLETE (R214). -/
def requeue (s : State) (it : BgItem) : State :=
  if it.kind = 0 then requeueFirst s it
  else if it.kind = 2 then postBalEval s (it.target - 0x40000) it.arg
  else postItem s (itemOwner s it) { it with flags := [] }

/-- The background assignments of a bobbin pass to one bobbin, or to those with the fewest; an item in progress starts again there from its
beginning, ahead of the queue and whatever room it has, its buffered writes discarded (R223, R228). -/
def passAssignments (s : State) (b : Nat) (dst : Option Nat) : State :=
  let p := b / 32
  let x := getBob s b
  let s := bgIdle s b
  let s := modBob s b (fun x => { x with queue := [], bg := .entry })
  let dest := fun (s : State) => match dst with | some t => t % 32 | none => pickOwner s p
  let s := (homedOn s p).foldl (fun s e => if e.2.bgOwner = b % 32 then modCtx s e.1 (fun c => { c with bgOwner := dest s }) else s) s
  let s := (groupsOn s p).foldl (fun s e => if e.2.owner = b % 32 then setGroup s e.1 (some { e.2 with owner := dest s }) else s) s
  let s := x.queue.foldl requeue s
  match x.item with | some it => requeueFirst s it | none => s

/-! ### Shadow runs (R225) -/

/-- The verdict that a bobbin put while its frame was shadowed takes its way. -/
def releaseAwait (s : State) (b : Nat) : State :=
  let x := getBob s b
  match x.await, x.frame, heldFrame s x with
  | some (code, flags), some h, some f =>
    let s := setBob s b { x with await := none }
    match f.ctx, f.ctx.bind (getCtx s) with
    | some i, some c => verdictPut s h f i c code flags
    | _, _ => s
  | _, _, _ => s

/-- A shadow run given up, its level cleared: a verdict that waits for it no longer waits. -/
def endShadow (s : State) (b : Nat) : State :=
  match (getBob s b).shadow with
  | some h =>
    let s := modBob s b Bobbin.fgClear
    match (getFrame s h).bind (fun f => f.bobbin) with
    | some k => if (getBob s k).frame = some h then releaseAwait s k else s
    | none => s
  | none => s

/-! ### Rotation and quarantine (R223, R224, R228 to R232) -/

/-- The bobbin of a pillow in the spare role, or under test. -/
def spareOf (s : State) (p : Nat) : Option Nat :=
  (bobsOf p).find? (fun b => (getBob s b).role == .spare || (getBob s b).role == .testing)

def setRole (s : State) (b : Nat) (r : BobRole) : State := modBob s b (fun x => { x with role := r })

/-- The next scheduled bobbin after the last one withdrawn, in index order (R223). -/
def nextOut (s : State) (p : Nat) : Option Nat :=
  let last := (getPil s p).lastOut
  ((List.range 32).map (fun k => 32 * p + (last + 1 + k) % 32)).find? (fun b => (getBob s b).role == .scheduled)

/-- A pillow that returns ends its command with STATE when it fails (log entry 133); the contexts still away stay where they are. -/
def returnBroken (s : State) (p : Nat) : State :=
  match (getPil s p).st, (getPil s p).cmd with
  | .returning, some sl => mbxFinish (modPil s p (fun x => { x with cmd := none })) sl 0x63 (MbxRes.refuse 0x04)
  | _, _ => s

/-- Contexts or groups of a pillow are guests elsewhere (R233). -/
def guestsAway (s : State) (p : Nat) : Bool :=
  (ctxList s).any (fun e => e.2.origin == some p) || s.groups.any (fun e => match e.2 with | some g => g.origin == some p | none => false)

/-- Where a FAILED pillow goes on when it schedules again (log entry 133): to its drain, to DRAINED while its contexts are away, else to
SERVICE. -/
def resumeState (s : State) (p : Nat) : PilState :=
  if (getPil s p).targets ≠ 0 then .draining else if guestsAway s p then .drained else .service

/-- A pillow without a bobbin to schedule takes its spare into the schedule; without either it is FAILED (R230), where a drain in progress
goes on; a FAILED one that schedules again resumes. -/
def pilSync (s : State) (p : Nat) : State :=
  let s := match (schedBobs s p).isEmpty, spareOf s p with
    | true, some b => setRole (endShadow s b) b .scheduled
    | _, _ => s
  if (schedBobs s p).isEmpty then
    match (getPil s p).st with
    | .service | .draining | .drained | .returning =>
      autoSwitch (doubleFault (setPilState (returnBroken s p) p .failed) 3 (2 ^ p))
    | _ => s
  else if (getPil s p).st = .failed then setPilState s p (resumeState s p)
  else s

/-- The quarantined bobbins of a pillow (PIL_QMAP). -/
def pilQmap (s : State) (p : Nat) : Word :=
  w32 ((bobsOf p).foldl (fun a b => if (getBob s b).role = .quarantined then a + 2 ^ (b % 32) else a) 0)

/-- What becomes of the frame of a bobbin that is quarantined (R77, R228, R351): re-run, or ended; the answer names the context of a
frame to be re-run. A lane request that is under way stays pending: its result is discarded when it comes, and the re-run's own
LANE.REQ waits for it. -/
def quarFrame (s : State) (b : Nat) : State × Option Nat :=
  let x := getBob s b
  match x.frame with
  | none => (s, none)
  | some h =>
    match getFrame s h with
    | none => (s, none)
    | some f =>
      if f.stage == .running then
        if pairFails s (b / 32) then (finishVerdict s h 0xA2 0, none)
        else if f.rerun then (finishVerdict s h 0xA0 0, none)
        else
          (setFrame s h (some { f with stage := .ready, bobbin := none, rerun := true, order := 0, laneStatus := none }), f.ctx)
      else (s, none)

/-- A bobbin quarantined (R228, R229), with the cause of R417 and the context of a frame that was re-run before it (R226). -/
def quarantineAfter (s : State) (b cause : Nat) (before : Option Nat) : State :=
  let x := getBob s b
  if x.role = .quarantined ∨ x.role = .off then s
  else
    let p := b / 32
    let s := doubleFault (endShadow s b) 1 (2 ^ p)
    let (s, own) := quarFrame s b
    let again := own.or before
    let s := fgIdle s b
    let spare := (spareOf s p).filter (· != b)
    let s := match spare with | some k => setRole (endShadow s k) k .scheduled | none => s
    let s := passAssignments (setRole s b .quarantined) b spare
    let s := setBob s b { Bobbin.init b with role := .quarantined, quarCount := x.quarCount + 1 }
    let s := countSwitch { s with pwc := { s.pwc with bob := maskSet s.pwc.bob b false } } 1
    let s := incReg s 0x131034
    let s := setEvt (incReg s (regAddr (0x40 + p) 0x30)) (0x40 + p) 3
    let s := if again.isSome then incReg s (regAddr (0x40 + p) 0x34) else s
    pilSync (record s 0x0411 0x4 b [cause, again.getD 0xFFFFFFFF]) p

/-- A bobbin quarantined (R228, R229), with the cause of R417. -/
def quarantine (s : State) (b cause : Nat) : State := quarantineAfter s b cause none

/-- A bobbin's memories as they are after a test and the loading of the pillow's images: work areas zero, regions as the runtime sets
them (R224, R235). -/
def reloadBobbin (s : State) (b : Nat) : State :=
  let lo := dramKey b 0x2000
  let hi := dramKey b 0x10000
  modBob { s with mem := s.mem.filter (fun (e : Nat × Byte) => !(decide (lo ≤ e.1) && decide (e.1 < hi))) } b
    (fun x => { x with mpuBase := [], mpuLim := [] })

/-! ### Moves of contexts (R233 to R236) -/

/-- The destination runs the version of the source for the context's entry. -/
def sameImage (s : State) (c : Ctx) (p q : Nat) : Bool :=
  let e := 2 * c.kind + bnat c.pubDir
  (getPil s p).assign.getD e none == (getPil s q).assign.getD e none

/-- One context moved to a pillow, when its scratch finds room there: rows, scratch, owner, GEN, and INIT where the version differs. -/
def moveOne (s : State) (i q : Nat) : Option State :=
  match getCtx s i with
  | none => none
  | some c =>
    let p := c.home
    match imageFor s q c.kind c.pubDir with
    | none => none
    | some m =>
      let same := sameImage s c p q
      let len := if same then c.scrLen else scratchSize s m c.smpRate (c.phasor || c.harm)
      match ramFit (ramUsed s q) len with
      | none => none
      | some base =>
        if 16384 ≤ (homedOn s q).length then none
        else
          let bytes := if same then readBytes s (sharedKey p c.scrBase) len else List.replicate len 0
          let items := (getBob s (ownerOf s i)).queue.filter (fun it => it.target == i)
          let own := getBob s (ownerOf s i)
          let cur := match own.item with | some it => it.target == i | none => false
          let s := if cur then bgIdle s (ownerOf s i) else s
          let s := modBob s (ownerOf s i) (fun x => { x with queue := x.queue.filter (fun it => it.target != i) })
          let back := c.origin == some q
          let c' := { c.genInc.setHome q with
            scrBase := base, scrLen := len, bgOwner := pickOwner s q
            moving := none, origin := if back then none else some (c.origin.getD p), initDue := c.initDue || (!same && m.init.isSome) }
          let s := writeBytes (setCtx s i (some c')) (sharedKey q base) bytes
          some ((items ++ (if cur then own.item.toList else [])).foldl requeue s)

/-- A balance group's history and place moved; instants that it was collecting carry BAL_INCOMPLETE (R233). -/
def moveGroup (s : State) (g q : Nat) : Option State :=
  match getGroup s g with
  | none => none
  | some x =>
    if 256 ≤ (groupsOn s q).length then none
    else match ramFit (ramUsed s q) 2048 with
      | none => none
      | some base =>
        let s := x.instants.foldl (fun s t => instantMissed s g t.1) s
        let hist := readBytes s (sharedKey x.pillow x.base) 2048
        let origin := if x.origin = some q then none else some (x.origin.getD x.pillow)
        let y := (getGroup s g).getD x
        let s := setGroup s g (some { y with pillow := q, base := base, owner := pickOwner s q, instants := [], origin := origin })
        some (writeBytes s (sharedKey q base) hist)

/-- The contexts that move together with one: itself, or every member of its group, and the group (R233). -/
def moveUnit (s : State) (i q : Nat) : Option State :=
  match getCtx s i with
  | none => none
  | some c =>
    if c.bal && !c.pubDir then
      (members s c.bgroup).foldl (fun o e => o.bind (fun s => moveOne s e.1 q)) (moveGroup s c.bgroup q)
    else moveOne s i q

/-- The members of a context's unit. -/
def unitOf (s : State) (i : Nat) : List Nat :=
  match getCtx s i with
  | some c => if c.bal && !c.pubDir then (members s c.bgroup).map (·.1) else [i]
  | none => []

/-- The targets of a drain: pillows of the mask in SERVICE. -/
def drainTargets (s : State) (mask p : Nat) : List Nat := (servingPillows s).filter (fun q => q != p && bit mask q)

/-- Every target's assignment has an image for every context of a pillow (R234). -/
def targetsHold (s : State) (mask p : Nat) : Bool :=
  (homedOn s p).all (fun e => (drainTargets s mask p).all (fun q => (imageFor s q e.2.kind e.2.pubDir).isSome))

/-- The target pillows of a drain that can still take a unit, and the one it goes to (R234). -/
def drainTarget (s : State) (mask p i : Nat) : Option Nat :=
  leastLoaded s ((drainTargets s mask p).filter (fun q => (moveUnit s i q).isSome))

/-- Every context and group of a pillow finds a place on the targets, each of which has an image for every context: moves in context order
on a copy of the state, then the groups without members (R234). -/
def drainFits (s : State) (mask p : Nat) : Bool :=
  let step := fun (o : Option State) (e : Nat × Ctx) => o.bind (fun s =>
    match getCtx s e.1 with
    | some c => if c.home = p then (drainTarget s mask p e.1).bind (fun q => moveUnit s e.1 q) else some s
    | none => some s)
  let o := (homedOn s p).foldl step (some s)
  ((groupsOn s p).foldl (fun o e => o.bind (fun s =>
    match getGroup s e.1 with
    | some g => if g.pillow = p then (leastLoaded s (drainTargets s mask p)).bind (moveGroup s e.1) else some s
    | none => some s)) o).isSome && targetsHold s mask p

/-- A pillow that is being drained: DRAINING, or FAILED with its drain in progress (R230). -/
def pilDraining (s : State) (p : Nat) : Bool :=
  (getPil s p).st == .draining || ((getPil s p).st == .failed && (getPil s p).targets != 0)

/-- A drain or a return that has become complete ends its command (R234, R236). -/
def moveSettle (s : State) (p : Nat) : State :=
  let x := getPil s p
  let finish := fun (st : PilState) (code : Nat) =>
    let s := modPil (setPilState s p st) p (fun x => { x with cmd := none, targets := 0 })
    match x.cmd with
    | some sl => mbxFinish s sl code (MbxRes.ok)
    | none => s
  if pilDraining s p then (if (homedOn s p).isEmpty && (groupsOn s p).isEmpty then finish .drained 0x62 else s)
  else if x.st = .returning ∧ guestsAway s p = false then finish .service 0x63
  else s

/-- The empty groups of a draining pillow move at once (R234). -/
def moveEmptyGroups (s : State) (p mask : Nat) : State :=
  (groupsOn s p).foldl (fun s e =>
    if (members s e.1).isEmpty then
      match (leastLoaded s (drainTargets s mask p)).bind (moveGroup s e.1) with
      | some t => t
      | none => s
    else s) s

/-- The empty groups that left a returning pillow come back at once (R236). -/
def returnEmptyGroups (s : State) (p : Nat) : State :=
  s.groups.foldl (fun s e => match e.2 with
    | some g => if g.origin = some p ∧ (members s e.1).isEmpty = true then (moveGroup s e.1 p).getD s else s
    | none => s) s

end Sys2Proof.Machine
end

