-- ==== Sys2Proof/Machine/Bobbins.lean ====
section
/-! DEFINITION. Machine/Bobbins.lean: background items, execution limits, the spare's rotation, the consistency check, quarantine, memory
errors, and the moves of contexts (R210 to R236). -/
namespace Sys2Proof.Machine

/-! ### Background items (R214, R218) -/

/-- An item starts at the background level: INIT or BG of the image that serves its context or group; without the entry it returns at
once, and without INIT the scratch is zero. -/
def startItem (s : State) (b : Nat) (it : BgItem) : State :=
  let s := modBob s b (fun x => { x with item := some it, bgStage := [] })
  match levelImage s b (getBob s b) false with
  | none => if it.kind = 0 then itemReturn (zeroScratch s it.target) b else itemReturn s b
  | some m =>
    match (if it.kind = 0 then m.init else m.bg) with
    | none => if it.kind = 0 then itemReturn (zeroScratch s it.target) b else itemReturn s b
    | some e =>
      let l := { Level.entry with pc := w32 (codeBase s (b / 32) m + e) }
      let l := l.setReg 1 (w32 it.target)
      let l := if it.kind = 0 then l else (l.setReg 2 (w32 it.kind)).setReg 3 (w32 it.arg)
      modBob s b (fun x => { x with bg := l })

/-- INIT is already queued or in progress at a bobbin. -/
def initQueued (x : Bobbin) (i : Nat) : Bool :=
  x.queue.any (fun it => it.kind == 0 && it.target == i) || (match x.item with | some it => it.kind == 0 && it.target == i | none => false)

/-- INIT of a context that owes it: at once where its owner's levels are free, otherwise ahead of every queued item (R218). -/
def startInit (s : State) (i : Nat) : State :=
  match getCtx s i with
  | some c =>
    let b := ownerOf s i
    let x := getBob s b
    if c.initDue && !initQueued x i then
      if x.frame.isNone && x.item.isNone && x.role == .scheduled then startItem s b ⟨0, i, 0, []⟩
      else setBob s b { x with queue := ⟨0, i, 0, []⟩ :: x.queue }
    else s
  | none => s

/-- INIT (R218). -/
def execInit (ctx : Nat) (s : State) : Host.Outcome State Fault Refusal := .next (startInit s ctx)

/-- The target of an item still exists. -/
def itemAlive (s : State) (it : BgItem) : Bool :=
  if it.target < 0x40000 then (getCtx s it.target).isSome else (getGroup s (it.target - 0x40000)).isSome

/-- The next item of a bobbin whose foreground level is free: an INIT first, then arrival order (R214, R218). An item whose context or
group is gone is dropped. -/
def nextItem (s : State) (b : Nat) : State :=
  let x := getBob s b
  if x.role = .scheduled ∧ x.frame.isNone = true ∧ x.item.isNone = true then
    match takeFirst (fun it => it.kind == 0) x.queue, x.queue with
    | some (it, rest), _ => let s := setBob s b { x with queue := rest }; if itemAlive s it then startItem s b it else s
    | none, it :: rest => let s := setBob s b { x with queue := rest }; if itemAlive s it then startItem s b it else s
    | none, [] => s
  else s

/-- BG_ITEM (R214). -/
def execBgItem (b : Fin 512) (s : State) : Host.Outcome State Fault Refusal := .next (nextItem s b)

/-- An instant of a group that some member has not passed when BALWAIT has run out is not evaluated: BAL_INCOMPLETE, and BAL_EVAL is posted as
for any instant (R86, R214). -/
def balwaitExpiry (s : State) (g smp : Nat) : State :=
  match getGroup s g with
  | some x =>
    if x.instants.any (fun t => t.1 == smp) then postItem (instantMissed s g smp) (32 * x.pillow + x.owner) ⟨2, 0x40000 + g, smp, []⟩ else s
  | none => s

/-- BALWAIT_EXPIRY (R86). -/
def execBalwaitExpiry (group smpCnt : Nat) (s : State) : Host.Outcome State Fault Refusal := .next (balwaitExpiry s group smpCnt)

/-! ### Limits (R219) -/

/-- A frame that has not reached VERDICT.PUT within PIL_FGLIMIT cycles ends with PROGRAM_TRAP, cause 0x43 (R219, R275). -/
def fgLimit (s : State) (b : Nat) : State :=
  let x := getBob s b
  match x.frame with
  | some _ =>
    if x.put then s
    else if x.shadow.isSome then shadowTrap s b
    else fgFail (trapReport s b true 0x43) b
  | none => s

/-- FG_LIMIT (R219). -/
def execFgLimit (b : Fin 512) (s : State) : Host.Outcome State Fault Refusal := .next (fgLimit s b)

/-- An item that runs for more than 2^20 cycles is abandoned (R219). -/
def execBgItemLimit (b : Fin 512) (s : State) : Host.Outcome State Fault Refusal :=
  .next (if (getBob s b).item.isSome then abandonItem (trapReport s b false 0x43) b else s)

/-! ### Rotation (R223, R224) -/

/-- The rotation of a pillow (R223, R230): the next scheduled bobbin goes to its self-test and the spare is scheduled in its place. While
the recovery window is open (R351), while a test is in progress, or with a single bobbin that can serve, nothing is withdrawn. -/
def rotate (s : State) (p : Nat) : State :=
  let spare := spareOf s p
  let testing := match spare with | some k => (getBob s k).role == .testing | none => false
  let idle := (getPil s p).st == .off || (getPil s p).st == .starting
  if idle || s.pair.recov || testing then s
  else match nextOut s p with
    | none => s
    | some b =>
      if spare.isNone && decide ((schedBobs s p).length < 2) then s
      else
        let s := modPil (setRole s b .testing) p (fun x => { x with lastOut := b % 32 })
        let s := match spare with | some k => setRole (endShadow s k) k .scheduled | none => s
        passAssignments s b spare

/-- SPARE_ROTATION (R223). -/
def execSpareRotation (pillow : Fin 16) (s : State) : Host.Outcome State Fault Refusal := .next (rotate s pillow)

/-- The work areas of a bobbin zeroed (R224). -/
def zeroWork (s : State) (b : Nat) : State :=
  { s with mem := s.mem.filter (fun (e : Nat × Byte) => !(decide (dramKey b 0x4000 ≤ e.1) && decide (e.1 < dramKey b 0x10000))) }

/-- The end of a self-test: a bobbin that passes becomes the spare, or is scheduled where the pillow schedules none or has its spare; one
that fails is quarantined (R223, R224, R435). -/
def selftestEnd (s : State) (b : Nat) (pass : Bool) : State :=
  let x := getBob s b
  if x.role = .testing ∧ x.frame.isNone = true then
    let s := zeroWork s b
    let joined := decide (0 < (schedBobs s (b / 32)).length) && ((spareOf s (b / 32)).filter (· != b)).isNone
    if pass then pilSync (setRole s b (if joined then .spare else .scheduled)) (b / 32) else quarantine s b 1
  else s

/-- BOBBIN_SELFTEST_DONE (R224). -/
def execBobbinSelftestDone (b : Fin 512) (pass : Bool) (s : State) : Host.Outcome State Fault Refusal := .next (selftestEnd s b pass)

/-! ### Consistency check (R225, R226) -/

/-- A mismatch: MISMATCH and PIL_MISMATCH (R226). -/
def mismatch (s : State) (p : Nat) : State := setEvt (incReg s (regAddr (0x40 + p) 0x3C)) (0x40 + p) 4

/-- Two runs agree (R225): in the verdict code, the flags, the staged writes and the posted items. -/
def Outcome.agrees (x y : Outcome) : Bool :=
  x.code == y.code && x.flags == y.flags && x.stage == y.stage && x.ctxStage == y.ctxStage && x.posts == y.posts

/-- What the run of a bobbin has put. -/
def Bobbin.outcome (x : Bobbin) (b code flags : Nat) : Outcome := ⟨b, code, flags, x.stage, x.ctxStage, x.posts⟩

/-- A mismatch discards both outcomes: the frame goes to the head of the dispatch order for a third scheduled bobbin; a pillow without one
ends it with ENGINE_FAULT (R226, log entry 67). -/
def mismatchRerun (s : State) (h b k : Nat) (o1 o2 : Outcome) : State :=
  let s := modBob (modBob (mismatch s (b / 32)) k Bobbin.fgClear) b Bobbin.fgClear
  if (schedBobs s (b / 32)).any (fun t => t != b && t != k) then
    modFrame s h (fun f => { f with stage := .ready, bobbin := none, rerun := true, order := 0, laneStatus := none, vote := [o1, o2] })
  else finishVerdict s h 0xA0 0

/-- The third run decides (R226): the outcome that two runs agree on is applied and the bobbin of the other run is quarantined; when all three
differ the frame ends with ENGINE_FAULT and a SHADOW_SPLIT record. -/
def voteEnd (s : State) (b h : Nat) (ctx : Option Nat) (o o1 o2 : Outcome) : State :=
  if o.agrees o1 then quarantineAfter (releaseAwait s b) o2.bobbin 2 ctx
  else if o.agrees o2 then quarantineAfter (releaseAwait s b) o1.bobbin 2 ctx
  else fgIdle (finishVerdict (record s 0x0412 0x4 b [ctx.getD 0, o1.bobbin, o2.bobbin, b]) h 0xA0 0) b

/-- The comparison at VERDICT.PUT (R225, R226): of a scheduled run with its shadow run on bobbin k once that has put its outcome too, or of the
third run with the two that differed. -/
def shadowCompare (s : State) (b k : Nat) : State :=
  let x := getBob s b
  match x.await, x.frame, heldFrame s x with
  | some (code, flags), some h, some f =>
    let o := x.outcome b code flags
    match f.vote with
    | o1 :: o2 :: _ => voteEnd s b h f.ctx o o1 o2
    | _ =>
      match (getBob s k).result with
      | some o2 =>
        if (getBob s k).shadow ≠ some h ∨ k / 32 ≠ b / 32 then s
        else if o.agrees o2 then releaseAwait (modBob s k Bobbin.fgClear) b
        else mismatchRerun s h b k o o2
      | none => s
  | _, _, _ => s

/-- SHADOW_COMPARE (R225). -/
def execShadowCompare (b shadow : Fin 512) (s : State) : Host.Outcome State Fault Refusal := .next (shadowCompare s b shadow)

/-- The cause of a quarantine (R417). -/
def quarCode : QuarCause → Nat
  | .selfTest => 1 | .minority => 2 | .ramError => 3 | .parity => 4

/-- BOBBIN_QUARANTINE (R228). -/
def execBobbinQuarantine (b : Fin 512) (cause : QuarCause) (s : State) : Host.Outcome State Fault Refusal :=
  .next (quarantine s b (quarCode cause))

/-! ### Memory errors (R210) -/

/-- The context whose scratch holds an offset of a pillow's shared RAM. -/
def scratchOwner (s : State) (p off : Nat) : Option Nat :=
  ((homedOn s p).find? (fun e => decide (e.2.scrBase ≤ off) && decide (off < e.2.scrBase + e.2.scrLen))).map (·.1)

/-- The context's scratch is to be re-initialised through INIT, or is zero without it (R210, R218). -/
def reinit (s : State) (i : Nat) : State :=
  let s := zeroScratch s i
  modCtx s i (fun c => { c with initDue := match imageFor s c.home c.kind c.pubDir with | some m => m.init.isSome | none => false })

/-- An uncorrectable error in shared RAM: the owning context's frame ends with ENGINE_FAULT and its scratch is initialised again (R210). -/
def sharedEcc (s : State) (p off : Nat) : State :=
  match scratchOwner s p off with
  | some i => reinit (((ctxFrames s i).filter (fun e => e.2.stage == .running)).foldl (fun s e => endUnder s e.1 0xA0) s) i
  | none => s

/-- SHARED_RAM_ECC (R210). -/
def execSharedRamEcc (pillow : Fin 16) (offset : Nat) (s : State) : Host.Outcome State Fault Refusal := .next (sharedEcc s pillow offset)

/-- The configuration words of a context taken from another copy of it: control, keys, rate, replay configuration, supervision,
plausibility, slice and generation; HOME stays, and SEEN is cleared (R59, R210). -/
def Ctx.restoreConfig (c d : Ctx) : Ctx :=
  let c' := [0x00, 0x04, 0x08, 0x0C, 0x10, 0x14, 0x18, 0x44, 0x48].foldl (fun a o => a.setWord o (d.word o)) c
  let c' := if c.isSv then c'.setWord 0x20 (w32 (fld (d.word 0x20) 31 26 * 2 ^ 26 + fld (c.word 0x20) 25 0)) else c'
  let c' := c'.setWord 0x2C (w32 (bnat c.lost * 2 ^ 30 + fld (d.word 0x2C) 19 0))
  c'.setWord 0x5C (w32 (c.home * 2 ^ 28 + fld (d.word 0x5C) 27 0))

/-- An uncorrectable error in the context store (R210). -/
def ctxEcc (s : State) (i : Nat) : State :=
  match getCtx s i with
  | some c =>
    let c' := match smapGet (fun _ => none) s.durable.ctxs i with
      | some d => c.restoreConfig d
      | none => c.setSeenLost false c.lost
    record (setCtx s i (some c')) 0x0414 0x4 (0x200 + c.home) [i]
  | none => s

/-- CTX_ECC (R210). -/
def execCtxEcc (ctx : Nat) (s : State) : Host.Outcome State Fault Refusal := .next (ctxEcc s ctx)

/-! ### Moves (R233, R234, R236) -/

/-- The pillow that a context moves to now: the drain's target, or the original pillow that takes it back. -/
def moveDest (s : State) (i : Nat) (c : Ctx) : Option Nat :=
  match c.origin with
  | some o => if (getPil s o).st = .returning then some o else none
  | none => if pilDraining s c.home then drainTarget s (getPil s c.home).targets c.home i else none

/-- Steps 1 and 2 of a move (R233): every context of the unit takes its new frames at the destination, where they are held. -/
def moveBegin (s : State) (i q : Nat) : State := (unitOf s i).foldl (fun s j => modCtx s j (fun c => { c with moving := some q })) s

/-- The source pillow still has frames of the unit that it had admitted. -/
def moveBusy (s : State) (i : Nat) : Bool :=
  (unitOf s i).any (fun j => match getCtx s j with
    | some c => (ctxFrames s j).any (fun e => e.2.pillow == c.home && (e.2.stage == .ready || e.2.stage == .running))
    | none => false)

/-- CONTEXT_MOVE (R233): the first one of a move redirects the unit's new frames to the destination; the unit moves once its source pillow has
finished every frame that it had admitted, and the held frames can be dispatched. -/
def contextMove (s : State) (i q : Nat) : State :=
  match getCtx s i with
  | some c =>
    if c.moving == some q || (c.moving.isNone && moveDest s i c == some q) then
      let s := if c.moving.isNone then moveBegin s i q else s
      if moveBusy s i then s
      else match moveUnit s i q with
        | some t => moveSettle t (if pilDraining s c.home then c.home else q)
        | none => s
    else s
  | none => s

/-- CONTEXT_MOVE (R233). -/
def execContextMove (ctx : Nat) (dest : Fin 16) (s : State) : Host.Outcome State Fault Refusal := .next (contextMove s ctx dest)

end Sys2Proof.Machine
end

