-- ==== Sys2Proof/Machine/CerOps.lean ====
section
/-! DEFINITION. Machine/CerOps.lean: the states of a ceremony and its end (R371). -/
namespace Sys2Proof.Machine

/-- The CEREMONY input, SI_1, is energised (R371, R459): station side on, link carrying frames. -/
def ceremonyInput (s : State) : Bool := s.pwc.stn && s.stn.linkOk && bit s.stn.si 1

/-- TMP_CER.STATE (R378). -/
def CerSt.code : CerSt → Nat
  | .idle => 0 | .opened => 1 | .auth1 => 2 | .auth2 => 3 | .exec => 4

/-- A change of the ceremony state (R371): CERSTATE and a CEREMONY record; 0xFF where no command caused it. -/
def cerChange (s : State) (st : CerSt) (status : Nat) : State :=
  if s.tamper.cer = st then s
  else
    let t := s.tamper
    let s := setEvt { s with tamper := { t with cer := st } } 0xE0 2
    record s 0x0702 0xD 0 [t.cerId, t.cerCmd, t.cerOff1.getD 0xFF + 256 * t.cerOff2.getD 0xFF, st.code + 256 * status]

/-- The ceremony returns to IDLE, with everything it held. -/
def cerEnd (s : State) (status : Nat) : State :=
  let s := cerChange s .idle status
  { s with
    tamper := { s.tamper with cerId := 0, cerCmd := 0, cerNonce := 0, cerBlock := [], cerOff1 := none, cerOff2 := none, cerFails := 0, cerSlot := none }
    firn := { s.firn with comps := [] } }

/-- CEREMONY_EXEC completes (R373): OK with the inner status as RESULT, at once, or as its effects become durable, until when the ceremony
stays in EXEC and the journal holds the command. -/
def execEnd (s : State) (inner : Nat) (items : List JItem) : State :=
  match s.tamper.cerSlot with
  | some sl =>
    if items.isEmpty then mbxFinish (cerEnd s 0) sl 0x82 (MbxRes.ok inner)
    else mbxFinish { s with tamper := { s.tamper with cerSlot := none } } sl 0x82 (MbxRes.durable items inner)
  | none => cerEnd s 0

/-- The journal record of a CEREMONY_EXEC. -/
def JRec.isExec (r : JRec) : Bool := match r.done with | some d => d.code == 0x82 | none => false

/-- A CEREMONY_EXEC whose effects are not yet durable is taken back (R371): the officer table and the code-signing key are those of NAND again. -/
def execUndo (s : State) (execStatus : Nat) : State :=
  let ended := s.journal.filter JRec.isExec
  if ended.isEmpty then s
  else
    let s := { s with
      journal := s.journal.filter (fun r => !r.isExec)
      tamper := { s.tamper with officers := s.durable.officers, codeKey := s.durable.codeKey } }
    ended.foldl (fun s r => match r.done with
      | some d => mbxPost s { d with status := execStatus, resLen := 0, result := 0 }
      | none => s) s

/-- The effects of a CEREMONY_EXEC are durable: the ceremony returns to IDLE (R371, R373). -/
def execDurable (s : State) (r : JRec) : State := if r.isExec ∧ s.tamper.cer = .exec then cerEnd s 0 else s

/-- The open ceremony is cancelled (R371); an EXEC that runs ends with a status. -/
def cerCancel (s : State) (status execStatus : Nat) : State :=
  if s.tamper.cer = .idle then s
  else
    match s.tamper.cerSlot with
    | some sl => mbxFinish (cerEnd s status) sl 0x82 (MbxRes.refuse execStatus)
    | none => execUndo (cerEnd s status) execStatus

end Sys2Proof.Machine
end

