-- ==== Sys2Proof/Machine/FirnOps.lean ====
section
/-! DEFINITION. Machine/FirnOps.lean: Firn slots, the needs for keys that are not resident, staging loads, and the end of a Firn-port
request (R156 to R168, R175). -/
namespace Sys2Proof.Machine

/-! ### The master key and wrapping keys -/

/-- Bytes 0x00 to 0x7B of a master-key record (R175). -/
def MmkRec.bytes (r : MmkRec) : List Byte :=
  leBytes 4 r.seq ++ [b8 r.state, b8 (bnat r.kemSeed.isSome), 0, 0] ++ beBytes 32 r.mmk ++ beBytes 64 (r.kemSeed.getD 0) ++ beBytes 8 r.kcv
    ++ List.replicate 12 0

/-- A record's CRC holds; one whose CRC fails is treated as empty (R175). -/
def MmkRec.good (r : MmkRec) : Bool := decide (r.crc = crc32c r.bytes)

/-- A record written with its CRC (R175). -/
def MmkRec.withCrc (r : MmkRec) : MmkRec := { r with crc := crc32c r.bytes }

def MmkRec.active (r : MmkRec) : Bool := r.state == 0xA5 && r.good
def MmkRec.staged (r : MmkRec) : Bool := r.state == 0x5A && r.good

/-- A STAGED master-key record is present (R175, R185). -/
def stagedRec (f : FirnSt) : Bool := f.recA.staged || f.recB.staged

/-- The active master-key record (R175): good CRC, STATE ACTIVE, the higher SEQ. -/
def activeRec (f : FirnSt) : Option MmkRec :=
  match f.recA.active, f.recB.active with
  | true, true => some (if f.recA.seq < f.recB.seq then f.recB else f.recA)
  | true, false => some f.recA
  | false, true => some f.recB
  | false, false => none

/-- A master key is active: R168's NO_MMK does not apply. -/
def mmkActive (s : State) : Bool := s.firn.kstate == .active || s.firn.kstate == .changing

/-- WK_s,a under a master key and a slice epoch (R157). -/
def wkKey (mmk sl attr epoch : Nat) : Nat :=
  Config.kmac256 mmk (beBytes 2 sl ++ [b8 attr] ++ beBytes 4 epoch) 256 "KX5120 WK"

/-- The slice epoch of a slice number. -/
def sepochOf (s : State) (i : Nat) : Nat := smapGet (fun _ => 0) s.firn.sepoch i

/-- The wrapping key of a slice and attribute now; 0 without a master key. -/
def wkNow (s : State) (i attr : Nat) : Nat :=
  match activeRec s.firn with
  | some r => wkKey r.mmk i attr (sepochOf s i)
  | none => 0

/-- A key value rewrapped from one wrapping key to another; one that does not unwrap stays as it is. -/
def rewrapKey (old new : Nat) (w : List Byte) : List Byte :=
  match Config.kwpUnwrap old w with
  | some k => Config.kwpWrap new k
  | none => w

/-- A blob rewrapped from one master key to another (R176). -/
def rewrapBlob (s : State) (old new : Nat) (b : Blob) : Blob :=
  let wk := fun (mmk : Nat) => wkKey mmk b.slice b.attr (sepochOf s b.slice)
  { b with wrapped := rewrapKey (wk old) (wk new) b.wrapped }

/-- The STAGED record, and whether it is record A (R175). -/
def stagedOf (f : FirnSt) : Option (MmkRec × Bool) :=
  if f.recA.staged then some (f.recA, true) else if f.recB.staged then some (f.recB, false) else none

/-- Step 3 of a change of master key, one blob every 10 µs (R176, DESIGN CHOICE in log entry 150: the slowest rate that R176 allows): the next
blob of the table rewrapped into the shadow table, and journalled. -/
def rewrapStep (s : State) : State :=
  match s.firn.kstate, activeRec s.firn, stagedOf s.firn, s.firn.blobs.find? (fun e => decide (s.firn.rewrapNext ≤ e.1) && e.2.isSome) with
  | .changing, some o, some (r, _), some (i, some b) =>
    journalAdd { s with firn := { s.firn with rewrapped := s.firn.rewrapped + 1, rewrapNext := i + 1 } } [.rewrap r.seq i (rewrapBlob s o.mmk r.mmk b)]
  | _, _, _, _ => s

/-- The KCV of a key (R158). -/
def kcvOf (key kid ktype attr : Nat) : Nat :=
  Config.kmac256 key (beBytes 4 kid ++ [b8 ktype, b8 attr]) 64 "KX5120 KCV" % 2 ^ 64

/-- A change of KSTATE is a set event of KSTATECHG (R185). -/
def setKState (s : State) (k : KState) : State :=
  if s.firn.kstate = k then s else setEvt { s with firn := { s.firn with kstate := k } } 0x80 2

/-! ### Slots (R159, R162, R164) -/

def getBlob (s : State) (i : Nat) : Option Blob := smapGet (fun _ => none) s.firn.blobs i

def setBlob (s : State) (i : Nat) (b : Option Blob) : State :=
  { s with firn := { s.firn with blobs := smapSet (fun _ => none) s.firn.blobs i b } }

def getNode (s : State) (i : Nat) : Option TreeNode := smapGet (fun _ => none) s.firn.nodes i

def getSlot (s : State) (n : Nat) : Option SlotSt := smapGet (fun _ => none) s.firn.slots n

def setSlot (s : State) (n : Nat) (x : Option SlotSt) : State :=
  { s with firn := { s.firn with slots := smapSet (fun _ => none) s.firn.slots n x } }

/-- The slot that holds a key. -/
def residentIn (m : SMap (Option SlotSt)) (r : KeyRef) : Option Nat :=
  (m.find? (fun e => match e.2 with | some x => x.holds == r && !x.doomed | none => false)).map (·.1)

def resident (s : State) (r : KeyRef) : Option Nat := residentIn s.firn.slots r

/-- The lowest number from lo on that a family does not list. -/
def firstFree {α : Type} : SMap α → Nat → Nat
  | [], lo => lo
  | (j, _) :: m, lo => if j = lo then firstFree m (lo + 1) else lo

/-- The least recently used of the slots that meet a test. -/
def lruOf (m : SMap (Option SlotSt)) (p : Nat → SlotSt → Bool) : Option Nat :=
  (m.foldl (fun (a : Option (Nat × Nat)) e =>
    match e.2 with
    | some x =>
      if p e.1 x then
        match a with
        | some (_, u) => if x.used < u then some (e.1, x.used) else a
        | none => some (e.1, x.used)
      else a
    | none => a) none).map (·.1)

/-- A node with resident children, which is evicted last (R166). -/
def hasResidentChild (s : State) (x : SlotSt) : Bool :=
  s.firn.slots.any (fun e => match e.2 with
    | some y => (match y.holds with
      | .node n => (match getNode s n with
        | some d => (match d.parent with | some p => x.holds == .node p | none => (match d.rootBlob with | some b => x.holds == .blob b | none => false))
        | none => false)
      | _ => false)
    | none => false)

/-- The victim slot (R162, R164, R166): unpinned, unreferenced, least recently used, nodes with resident children last. -/
def victimSlot (s : State) : Option Nat :=
  let ok := fun (n : Nat) (x : SlotSt) => !x.pinned && !slotReferenced s n
  match lruOf s.firn.slots (fun n x => ok n x && !hasResidentChild s x) with
  | some n => some n
  | none => lruOf s.firn.slots ok

/-- A key written into a slot: the lowest free one, or a victim's (R162). Its generation count advances (R159). -/
def loadSlot (s : State) (holds : KeyRef) (attr ktype kid key : Nat) (pinned : Bool) : State :=
  let free := firstFree s.firn.slots 0
  let pick := if free < 16384 then some (free, false) else (victimSlot s).map (fun n => (n, true))
  match pick with
  | none => s
  | some (n, evict) =>
    let s := if evict then incReg s (regAddr 0x80 0x34) else s
    let s := invalidateSlots s (· == n)
    let u := s.firn.useClock + 1
    let s := setSlot s n (some ⟨holds, attr, ktype, kid, key, pinned, u, false⟩)
    { s with firn := { s.firn with useClock := u, gens := smapMod (fun _ => 0) s.firn.gens n (· + 1) } }

/-- A slot used now. -/
def touchSlot (s : State) (n : Nat) : State :=
  match getSlot s n with
  | some x =>
    let u := s.firn.useClock + 1
    let s := setSlot s n (some { x with used := u })
    { s with firn := { s.firn with useClock := u } }
  | none => s

/-- Pinned blobs, and all pinned slots (R159): four wrapping keys for each existing slice beside them. -/
def pinnedBlobs (s : State) : Nat := (s.firn.blobs.filter (fun e => match e.2 with | some b => b.pinned | none => false)).length
def pinnedAll (s : State) : Nat := pinnedBlobs s + 4 * (s.slices.filter (fun e => e.2.st != .free)).length

/-- The four wrapping keys of a slice derived into pinned slots (R157). -/
def deriveWk (s : State) (i : Nat) : State :=
  (List.range 4).foldl (fun s a => loadSlot s (.wk i a) 2 2 0 (wkNow s i a) true) s

/-! ### Requests of the Firn port -/

/-- A Firn-port request of an operation (R136). -/
def portReq (op cls : Nat) (slot : Option Nat) (target : Option KeyRef) (loadCtx : Option Nat) (arg : List Byte) (val : Nat) : LaneReq :=
  { id := 0, op := op, cls := cls, bobbin := none, frame := none, block := [], key := none, slot := slot, target := target,
    loadCtx := loadCtx, arg := arg, left := 0, rest := 0, restore := 0, status := 0, out := [], val := val, started := false, rd := 0,
    startAt := 0 }

/-- A request issued at position 32 of a pillow's arbiter (R144). -/
def issuePort (s : State) (p : Nat) (r : LaneReq) : State :=
  let n := s.pool.next
  modPil { s with pool := { s.pool with next := n + 1 } } p (fun x =>
    { x with arb := { x.arb with waiting := x.arb.waiting ++ [(32, { r with id := n })] } })

/-- A pillow with a lane in SERVICE. -/
def pillowServes (s : State) (p : Nat) : Bool := laneServes s (2 * p) || laneServes s (2 * p + 1)

/-- UNWRAP of a blob issued for a need, counted (R162, R185). -/
def issueUnwrap (s : State) (p cls i : Nat) (b : Blob) : State :=
  issuePort (incReg s (regAddr 0x80 0x28)) p (portReq 8 cls (resident s (.wk b.slice b.attr)) (some (.blob i)) none b.wrapped 0)

/-- DERIVE of a node issued for a need whose parent is resident in a slot (R166). -/
def issueDerive (s : State) (p cls n : Nat) (d : TreeNode) (parentSlot : Nat) : State :=
  issuePort (incReg s (regAddr 0x80 0x28)) p (portReq 0xA cls (some parentSlot) (some (.node n)) none d.label 0)

/-- The KCV request of a staging load whose key is resident (R168): SERVICE class, at the context's home pillow. -/
def issueKcv (s : State) (i slot : Nat) : State :=
  match getCtx s i with
  | some c => issuePort s c.home (portReq 0xB 0 (some slot) none (some i) [] 0)
  | none => s

/-! ### Needs (R162, R163, R166) -/

/-- The parent key of a node. -/
def TreeNode.parentRef (d : TreeNode) : KeyRef :=
  match d.parent with
  | some p => .node p
  | none => .blob (d.rootBlob.getD 0)

/-- The keys that must become resident for a key, leaf first, or the STATUS that ends the need: NO_KEY for a key that does not exist,
UNWRAP_FAIL for a bad blob on the path (R138, R162). -/
def keyPath (s : State) : Nat → KeyRef → Nat × List KeyRef
  | 0, _ => (2, [])
  | fuel + 1, r =>
    if (resident s r).isSome then (0, [])
    else match r with
      | .blob i => match getBlob s i with
        | some b => if b.bad then (5, []) else (0, [r])
        | none => (2, [])
      | .node n => match getNode s n with
        | some d => let q := keyPath s fuel d.parentRef; if q.1 = 0 then (0, r :: q.2) else (q.1, [])
        | none => (2, [])
      | _ => (2, [])

/-- A number put into a rising list. -/
def insertNat (n : Nat) : List Nat → List Nat
  | [] => [n]
  | m :: ms => if n < m then n :: m :: ms else if n = m then m :: ms else m :: insertNat n ms

/-- A need with a pillow, waiters and loads attached: of pillows that need the key at the same moment, the lowest issues its unwrap (R163). -/
def Need.attach (n : Need) (now cls p : Nat) (w : List (Nat × LaneReq)) (loads : List Nat) : Need :=
  { n with
    cls := max n.cls cls, pillows := insertNat p n.pillows, via := if n.since = now ∧ n.issued = false then min n.via p else n.via
    waiters := n.waiters ++ w, loads := n.loads ++ loads }

/-- A Firn-port request for a key raised to a class before it has started (R163). -/
def LaneReq.raiseFor (r : KeyRef) (cls : Nat) (q : LaneReq) : LaneReq :=
  if q.target = some r ∧ q.started = false then { q with cls := max q.cls cls } else q

/-- The request for a key raised wherever it waits (R163). -/
def raiseUnwrap (s : State) (r : KeyRef) (cls : Nat) : State :=
  let up := LaneReq.raiseFor r cls
  { s with
    pillows := s.pillows.map (fun (e : Nat × Pillow) => (e.1, { e.2 with
      arb := { e.2.arb with waiting := e.2.arb.waiting.map (fun x => (x.1, up x.2)), moved := e.2.arb.moved.map up } }))
    lanes := s.lanes.map (fun (e : Nat × LaneSt) => (e.1, { e.2 with queue := e.2.queue.map up })) }

/-- A need added for a key, or attached to (R163): the pillow, and a waiter or a load. A HIGH need raises what has not started. -/
def attachNeed (s : State) (r : KeyRef) (cls p : Nat) (w : List (Nat × LaneReq)) (loads : List Nat) : State :=
  match takeFirst (fun n => n.key == r) s.firn.needs with
  | some (n, _) =>
    let n' := n.attach s.boot.now cls p w loads
    raiseUnwrap { s with firn := { s.firn with needs := s.firn.needs.map (fun (m : Need) => if m.key = r then n' else m) } } r cls
  | none => { s with firn := { s.firn with needs := s.firn.needs ++ [⟨r, cls, [p], p, s.boot.now, w, loads, false⟩] } }

/-- The derivations of needs whose parent has become resident are issued (R166). -/
def issueChildren (s : State) (parent : KeyRef) (slot : Nat) : State :=
  s.firn.needs.foldl (fun s n =>
    match n.key with
    | .node i => match getNode s i with
      | some d =>
        if d.parentRef = parent ∧ n.issued = false then
          let s := { s with firn := { s.firn with needs := s.firn.needs.map (fun m => if m.key = n.key then { m with issued := true } else m) } }
          issueDerive s n.via n.cls i d slot
        else s
      | none => s
    | _ => s) s

/-- A need for the key of a path (R162 to R166): the leaf takes the waiter or load, every ancestor gets a need of its own, and a
node whose parent is resident is derived. The blob of the path is read: BLOB_READ_DONE. A need that meets an unwrap or derivation in flight on
its path attaches to it, once counted (R163). -/
def startNeed (s : State) (path : List KeyRef) (cls p : Nat) (w : List (Nat × LaneReq)) (loads : List Nat) : State :=
  match path with
  | [] => s
  | leaf :: rest =>
    let flies := fun (r : KeyRef) => s.firn.needs.any (fun n => n.key == r)
    let s := if path.any flies then incReg s (regAddr 0x80 0x2C) else s
    let s := attachNeed s leaf cls p w loads
    let s := rest.foldl (fun s r => attachNeed s r cls p [] []) s
    match (leaf :: rest).getLast? with
    | some (.node n) => match getNode s n with
      | some d => match resident s d.parentRef with
        | some slot => issueChildren s d.parentRef slot
        | none => s
      | none => s
    | _ => s

/-- A failed unwrap (R162, R168): counted, with its event; the first failure of a blob marks it bad, which is journalled (R172), and writes one
record. -/
def unwrapFailed (s : State) (r : KeyRef) (mark : Bool) : State :=
  let s := setEvt (incReg s (regAddr 0x80 0x30)) 0x80 0
  match r with
  | .blob i => match getBlob s i with
    | some b =>
      if mark && !b.bad then
        record (journalAdd (setBlob s i (some { b with bad := true })) [.blob i (some { b with bad := true })]) 0x0502 0x6 0 [i]
      else s
    | none => s
  | _ => s

/-! ### Ends of needs -/

/-- A need whose key is resident now (R162): its waiters go back to the arbiter, its loads go on to their KCV, and the derivations
below it are issued. -/
def needReady (s : State) (r : KeyRef) : State :=
  match resident s r, takeFirst (fun n => n.key == r) s.firn.needs with
  | some slot, some (n, rest) =>
    let s := { s with firn := { s.firn with needs := rest } }
    let s := n.waiters.foldl (fun s w =>
      match w.2.bobbin with
      | some b => modPil s (b / 32) (fun x => { x with arb := { x.arb with waiting := x.arb.waiting ++ [w] } })
      | none => s) s
    let s := n.loads.foldl (fun s i => issueKcv s i slot) s
    issueChildren s r slot
  | _, _ => s

/-- A need that cannot be met ends with a STATUS for every waiter and load, and so does every need below it (R162, R163, R168). A
load that found no lane stays PENDING for its next need (log entry 19). -/
def needFail (s : State) : Nat → KeyRef → Nat → State
  | 0, _, _ => s
  | fuel + 1, r, status =>
    match takeFirst (fun n => n.key == r) s.firn.needs with
    | some (n, rest) =>
      let s := { s with firn := { s.firn with needs := rest } }
      let s := n.waiters.foldl (fun s w => match w.2.bobbin with
        | some b => completeUnlaned s (b / 32) w.2 status
        | none => s) s
      let s := if status = 6 then s else n.loads.foldl (fun s i => loadDone s i status 0) s
      let below := s.firn.needs.filter (fun m => match m.key with
        | .node i => (match getNode s i with | some d => d.parentRef == r | none => false)
        | _ => false)
      below.foldl (fun s m => needFail s fuel m.key status) s
    | none => s

/-- A need arises (R162, R163): a key that can never be resident ends it at once, as does every need without a master key (R175). -/
def raiseNeed (s : State) (r : KeyRef) (cls p : Nat) (w : List (Nat × LaneReq)) (loads : List Nat) : State :=
  let q := if s.firn.kstate = .nommk then (2, []) else keyPath s 10 r
  if q.1 = 0 then startNeed s q.2 cls p w loads
  else
    let s := if q.1 = 5 then unwrapFailed s r false else s
    let s := w.foldl (fun s x => match x.2.bobbin with | some b => completeUnlaned s (b / 32) x.2 q.1 | none => s) s
    loads.foldl (fun s i => loadDone s i q.1 0) s

/-- The next pillow in pillow order, after p, of those attached that has a lane in SERVICE (R163). -/
def nextPillow (s : State) (n : Need) (p : Nat) : Option Nat :=
  (n.pillows.filter (fun q => decide (p < q)) ++ n.pillows.filter (fun q => decide (q ≤ p))).find? (pillowServes s)

/-- The end of a Firn-port request at a pillow (R162, R163, R166, R168). -/
def completePort (s : State) (p : Nat) (r : LaneReq) (status : Nat) : State :=
  match r.target, r.loadCtx with
  | some ref, _ =>
    if status = 0 then
      match ref with
      | .blob i => match getBlob s i with
        | some b => needReady (loadSlot s ref b.attr b.ktype b.kid r.val b.pinned) ref
        | none => needFail s 10 ref 2
      | .node n => match getNode s n with
        | some d => needReady (loadSlot s ref d.attr d.ktype d.kid r.val false) ref
        | none => needFail s 10 ref 2
      | _ => s
    else if status = 6 then
      match takeFirst (fun n => n.key == ref) s.firn.needs with
      | some (n, _) => match nextPillow s n p with
        | some q => issuePort s q { r with started := false, rest := 0, status := 0, val := 0 }
        | none => needFail s 10 ref 6
      | none => s
    else needFail (if status = 5 then unwrapFailed s ref true else s) 10 ref status
  | none, some i => if status = 6 then s else loadDone s i status r.val
  | none, none => { s with firn := { s.firn with portResult := some (r.op, status, r.val) } }

/-- A lane request completes (R140). -/
def completeReq (s : State) (lane : Nat) (r : LaneReq) (status : Nat) : State :=
  if r.bobbin.isSome then completeFrameReq s lane r status else completePort s (lane / 2) r status

/-- The KEM seed in use: of the active record, or of a STAGED record before the first master key (R366). -/
def kemSeedOf (f : FirnSt) : Option Nat :=
  match activeRec f with
  | some r => r.kemSeed
  | none =>
    if f.recA.staged then f.recA.kemSeed else if f.recB.staged then f.recB.kemSeed else none

end Sys2Proof.Machine
end

