-- ==== Sys2Proof/Machine/RngOps.lean ====
section
/-! DEFINITION. Machine/RngOps.lean: Flurry's states, its queue and the services that take bytes from it (R396 to R404). -/
namespace Sys2Proof.Machine

/-- RNG_STATE.STATE (R406). -/
def RngState.code : RngState → Nat
  | .starting => 0 | .ready => 1 | .restarting => 2 | .fatal => 3 | .test => 4

/-- A change of Flurry's state is STATECHG with its RNG_STATE record (R400); READY at boot comes before LOG_BOOT, the first record of a
boot (R409, R421; log entry 116). -/
def setRng (s : State) (st : RngState) : State :=
  if s.rng.st = st then s
  else
    let t := setEvt { s with rng := { s.rng with st := st } } 0xF0 1
    if s.boot.phase = .rom ∧ st = .ready then t else record t 0x0710 0xE 0 [s.rng.st.code, st.code]

/-- RNG_LASTFAIL (R406). -/
def rngLastFail (s : State) : Word :=
  match s.rng.lastFail with
  | some (src, t) => pack [(1, 31), (src, 4), (t, 0)]
  | none => 0

/-- Failures in the last 3,600 s (RNG_HOURFAIL). -/
def rngHourFail (s : State) : Nat := (s.rng.failTimes.filter (fun t => decide (s.boot.now < t + 3600 * 1000000000))).length

/-- Both DRAM controllers hold their keys. -/
def dramKeyed (s : State) : Bool := s.pool.dram0.keyVal && s.pool.dram1.keyVal

/-- Entry to FATAL (R402, R403): queue and DRBG zeroed, waiting requests ended; before the DRAM keys are drawn the boot stops in the
hold (R425). -/
def rngFatal (s : State) : State :=
  if s.rng.st = .fatal then s
  else
    let ended := s.rng.waiting.filterMap (fun r => r.need.map (fun d => (d, none)))
    let s := { s with rng := { s.rng with
      qfill := 0, inst := false, outputs := 0, waiting := [], given := s.rng.given ++ ended, dramRetry := 0 } }
    let s := record (setEvt (setRng s .fatal) 0xF0 3) 0x0711 0xE 0 [(rngLastFail s).toNat, rngHourFail s]
    if dramKeyed s || s.pwc.lpHold then s else enterHold s 3

/-- A DRAM controller holds its XTS keys: KEYVAL, and a controller that is switched on and OFF begins training (R293, R421). -/
def dramKeyIn (s : State) (n key : Nat) : State :=
  let s := setDram s n { getDram s n with keyVal := true, key := key }
  if (getDram s n).st = .off ∧ bit s.pwc.dram n = true then setDramState s n .training else s

/-- A request that ends with its bytes (R398): DRAM keys, hash seeds or a mesh seed take the number of the first byte given. -/
def rngDeliver (s : State) (r : RngReq) : State :=
  let n := s.rng.outPos
  let s := { s with rng := { s.rng with qfill := s.rng.qfill - r.bytes, outPos := n + r.bytes } }
  match r.port with
  | 0 => dramKeyIn s 0 n
  | 1 => dramKeyIn s 1 n
  | 2 => { s with cls := { s.cls with seed := n } }
  | 4 => { s with tamper := { s.tamper with seed := n } }
  | _ => match r.need with
    | some d => let (v, s) := draw s; { s with rng := { s.rng with given := s.rng.given ++ [(d, some v)] } }
    | none => s

/-- Waiting requests served whole, in arrival order, while the queue suffices (R398). -/
def rngServe (s : State) : Nat → State
  | 0 => s
  | fuel + 1 =>
    match s.rng.waiting with
    | r :: rest =>
      if r.bytes ≤ s.rng.qfill then rngServe (rngDeliver { s with rng := { s.rng with waiting := rest } } r) fuel else s
    | [] => s

/-- The waiting requests served as far as the queue reaches (R398). -/
def rngServeAll (s : State) : State := rngServe s s.rng.waiting.length

/-- A request arrives (R398, R399): NOT_READY in STARTING and TEST, which a DRAM controller repeats; FATAL in FATAL; otherwise it
takes its place in the order. -/
def rngRequest (s : State) (port bytes : Nat) : State :=
  match s.rng.st with
  | .starting | .test => if port < 2 then { s with rng := { s.rng with dramRetry := Nat.lor s.rng.dramRetry (2 ^ port) } } else s
  | .fatal => s
  | .ready | .restarting => rngServeAll { s with rng := { s.rng with waiting := s.rng.waiting ++ [⟨port, bytes, none⟩] } }

/-- Bytes for a firmware service at once (R399): an open value, or none where the request is not answered at once with OK. -/
def rngTake (s : State) (bytes : Nat) : Option (Nat × State) :=
  match s.rng.st with
  | .ready | .restarting =>
    if s.rng.waiting.isEmpty && decide (bytes ≤ s.rng.qfill) then
      some (draw { s with rng := { s.rng with qfill := s.rng.qfill - bytes, outPos := s.rng.outPos + bytes } })
    else none
  | .starting | .fatal | .test => none

/-- The answer to a firmware service that asks for bytes: they are there; it waits for them in the order of arrival; or NOT_READY or FATAL at
once (R399). -/
inductive RngAnswer
  | now (v : Nat) (s : State)
  | later (s : State)
  | refused

/-- A firmware service asks for bytes, up to the stall limit (R190, R398, R399). -/
def rngAsk (s : State) (bytes : Nat) (need : CcNeed) : RngAnswer :=
  match rngTake s bytes with
  | some (v, s) => .now v s
  | none => match s.rng.st with
    | .ready | .restarting => .later { s with rng := { s.rng with waiting := s.rng.waiting ++ [⟨3, bytes, some need⟩] } }
    | .starting | .fatal | .test => .refused

/-- RESTARTING ends once every failed source has restarted and a reseed from two outputs conditioned since has completed (R400). -/
def rngReturn (s : State) : State :=
  let r := s.rng
  if r.st = .restarting ∧ r.sources.all (fun x => !x.restarting) = true ∧ 2 ≤ r.outputs then
    setRng (incReg { s with rng := { r with outputs := r.outputs - 2 } } 0xF0034) .ready
  else s

/-- The tamper line clears queue, conditioner and DRBG; instantiation starts again from fresh outputs (R404). -/
def rngTamper (s : State) : State :=
  if s.rng.st = .fatal then s
  else { s with rng := { s.rng with qfill := 0, outputs := 0, inst := false } }

end Sys2Proof.Machine
end

