-- ==== Sys2Proof/Machine/UnitOps.lean ====
section
/-! DEFINITION. Machine/UnitOps.lean: the arithmetic of the LIU (R200 to R202), and the two public-key units taking, running and
ending their operations (R186 to R191, R200 to R206, R437). -/
namespace Sys2Proof.Machine

/-! ### Arithmetic (R200, R202) -/

/-- The inverse of an odd number modulo 2^64, by k doublings of the number of good bits. -/
def inv64 (n : Nat) : Nat → Nat
  | 0 => 1
  | k + 1 => let x := inv64 n k; (x * (2 ^ 64 + 2 - n * x % 2 ^ 64)) % 2 ^ 64

/-- −n⁻¹ mod 2^64 (R200). -/
def montInv (n : Nat) : Nat := (2 ^ 64 - inv64 n 6) % 2 ^ 64

/-- k word steps of Montgomery reduction: t·2^(−64k) modulo n, before the last subtraction. -/
def montSteps (n inv : Nat) : Nat → Nat → Nat
  | 0, t => t
  | k + 1, t => montSteps n inv k ((t + t * inv % 2 ^ 64 * n) / 2 ^ 64)

/-- t·2^(−64L) mod n. -/
def montRed (n inv l t : Nat) : Nat := montSteps n inv l t % n

/-- b^e mod n over k exponent bits, from the highest (square and multiply). -/
def powMod (n b e : Nat) : Nat → Nat
  | 0 => 1 % n
  | k + 1 => let r := powMod n b (e / 2) k; if e % 2 = 1 then r * r % n * b % n else r * r % n

/-- The length of a number in bits. -/
def bitLen (x : Nat) : Nat := if x = 0 then 0 else Nat.log2 x + 1

/-! ### LTU (R186 to R191) -/

/-- An idle-gated unit wakes for a request (R437), with its page at its reset values (R39). -/
def ltuWake (s : State) : State :=
  let s := if s.pwc.ltu then s else incReg (ltuOn s) 0x131038
  if s.ltu.st = .off then { s with ltu := { s.ltu with st := .idle } } else s

/-- LTU_STATE.OP (R209). -/
def ltuCode : LtuOp → Nat
  | .dsaKeygen => 1 | .dsaSign => 2 | .dsaVerify => 3 | .kemKeygen => 4 | .kemEncaps => 5 | .kemDecaps => 6 | .sha3 => 7
  | .selfTest => 8 | .shake128 _ => 7 | .shake256 _ => 7

/-- An operation ends with a status and a result: 0 OK, 1 ZEROISED, 2 FAULT, 3 RNG. -/
def ltuEnd (s : State) (status : Nat) (result : List Byte) : State :=
  { s with ltu := { s.ltu with status := status, result := result } }

/-- The unit works on an operation: what its coefficient memory and its Keccak state then hold is open. -/
def ltuBusy (s : State) (op : LtuOp) (input : List Byte) (rnd : Option Nat) : State :=
  let (c, s) := draw s
  let (k, s) := draw s
  { s with ltu := { s.ltu with st := .busy, op := some op, input := input, rnd := rnd, coef := c, keccak := k } }

/-- An operation starts on an idle unit (R190). A signature asks for its rnd and waits for it, with the unit not started, or ends with RNG; key
generation ends with RNG while the source is fatal. In FAULT only the self-test runs. -/
def ltuStart (s : State) (op : LtuOp) (input : List Byte) : State :=
  if s.ltu.st = .fault ∧ op ≠ .selfTest then ltuEnd s 2 []
  else match op with
    | .dsaSign => match rngAsk s 32 .ltuSign with
      | .now r s => ltuBusy s op input (some r)
      | .later s => { s with ltu := { s.ltu with asking := true, queue := (op, input) :: s.ltu.queue } }
      | .refused => ltuEnd s 3 []
    | .dsaKeygen | .kemKeygen => if s.rng.st = .fatal then ltuEnd s 3 [] else ltuBusy s op input none
    | _ => ltuBusy s op input none

/-- The next waiting operation starts, in order of arrival (R190). -/
def ltuNext (s : State) : Nat → State
  | 0 => s
  | fuel + 1 =>
    if s.ltu.st = .busy ∨ s.ltu.asking = true then s
    else match s.ltu.queue with
      | (op, input) :: rest => ltuNext (ltuStart { s with ltu := { s.ltu with queue := rest } } op input) fuel
      | [] => s

/-- Every waiting operation that can start does. -/
def ltuGo (s : State) : State := ltuNext s (s.ltu.queue.length + 1)

/-- The end of the wait for a signature's rnd (R190): with it the signature starts, without it the operation ends with RNG. -/
def ltuGiven (s : State) (rnd : Option Nat) : State :=
  if s.ltu.asking = false then s
  else
    let s := { s with ltu := { s.ltu with asking := false } }
    match s.ltu.queue, rnd with
    | (op, input) :: rest, some r => ltuBusy { s with ltu := { s.ltu with queue := rest } } op input (some r)
    | _ :: rest, none => ltuGo (ltuEnd { s with ltu := { s.ltu with queue := rest } } 3 [])
    | [], _ => s

/-- The control cluster hands an operation to the LTU (R190): it waits behind the running one and those before it; after a tamper event every
operation ends with ZEROISED (R191). -/
def ltuIssue (s : State) (op : LtuOp) (input : List Byte) : State :=
  let s := ltuWake s
  match s.ltu.st with
  | .aborted => ltuEnd s 1 []
  | _ =>
    if s.ltu.st = .busy ∨ s.ltu.asking = true then { s with ltu := { s.ltu with queue := s.ltu.queue ++ [(op, input)] } }
    else ltuStart s op input

/-- The result of a finished operation, and the state that has drawn its open values (R186, R187): key generation from the seed given, a signature with
the rnd drawn for it; an encapsulation is a value of FIPS 203 that the model leaves open. -/
def ltuResult (s : State) : List Byte × State :=
  let x := s.ltu.input
  let field := fun (off n : Nat) => ofBe ((x.drop off).take n)
  match s.ltu.op with
  | some .dsaKeygen => (beBytes 2592 (Config.mldsaPub (ofBe x)), s)
  | some .dsaSign => (identitySign s (Config.sha3 x) (s.ltu.rnd.getD 0), s)
  | some .dsaVerify => ([b8 (bnat (Config.mldsaVerify (field 0 2592) (field 2592 64) (field 2656 4627)))], s)
  | some .kemKeygen => (beBytes 1568 (Config.kemPub (ofBe x)), s)
  | some .kemEncaps => let (r, s) := draw s; (beBytes 1600 r, s)
  | some .kemDecaps => (beBytes 32 (Config.kemDecaps (field 0 64) (field 64 1568)), s)
  | some .sha3 => (beBytes 64 (Config.sha3 x), s)
  | some (.shake128 n) => (Config.shake 128 x n, s)
  | some (.shake256 n) => (Config.shake 256 x n, s)
  | some .selfTest => ([], s)
  | none => ([], s)

/-- A signing attempt that reached the cap of 64 iterations: SIGNRESTART with its record (R189, R209). -/
def ltuRestart (s : State) : State :=
  let s := { s with ltu := { s.ltu with restarts := s.ltu.restarts + 1, maxIter := max s.ltu.maxIter 64 } }
  record (setEvt s 0x90 1) 0x0510 0x7 0 [64]

/-- k signing attempts that reach the cap, each followed by fresh rnd (R189); none where it cannot be had. -/
def ltuRestarts (s : State) (rnd : Nat) : Nat → State × Option Nat
  | 0 => (s, some rnd)
  | k + 1 =>
    match rngTake (ltuRestart s) 32 with
    | some (r, t) => ltuRestarts t r k
    | none => (ltuRestart s, none)

/-- LTU operations that a mailbox command takes, as many as its firmware issues (an open number), counted in LTU_OPCNT (R209). -/
def ltuServe (s : State) : State :=
  let (n, s) := draw (ltuWake s)
  addReg s 0x90024 n

/-- A signature within a mailbox command (R189): how often it starts again and how many iterations the last attempt takes are open numbers.
Answers the rnd it was made with; none where a restart got no fresh rnd. -/
def ltuSign (s : State) (rnd : Nat) : State × Option Nat :=
  let (k, s) := draw (ltuServe s)
  let r := ltuRestarts s rnd k
  let (i, s) := draw r.1
  ({ s with ltu := { s.ltu with maxIter := max s.ltu.maxIter (i % 63 + 1) } }, r.2)

/-- LTU_STATE and LTU_SIGNITER (R209). -/
def ltuStateWord (s : State) : Word :=
  let st := match s.ltu.st with | .off => 0 | .idle => 1 | .busy => 2 | .fault => 3 | .aborted => 4 | .aborting => 4
  pack [(st, 29), (match s.ltu.op with | some op => ltuCode op | none => 0, 20)]

def ltuSignWord (s : State) : Word := pack [(min s.ltu.restarts 0xFFFF, 16), (min s.ltu.maxIter 0xFFFF, 0)]

/-! ### LIU (R200 to R206) -/

/-- An idle-gated unit wakes for a request (R437), with its pages at their reset values (R39). -/
def liuWake (s : State) : State :=
  let s := if s.pwc.liu then s else incReg (liuOn s) 0x131038
  if s.liu.st = .off then { s with liu := { s.liu with st := .idle } } else s

/-- The residue modulo p = 2^61 − 1 that the LIU keeps of a number (R204). -/
def liuMod (v : Nat) : Nat := v % (2 ^ 61 - 1)

/-- A register position names the secret window (R202). -/
def liuSecret (r : Nat) : Bool := decide (32 ≤ r)

/-- An operand of L words: the words beyond L are ignored (R200). -/
def liuGet (x : LiuSt) (r l : Nat) : Nat := smapGet (fun _ => 0) (if 32 ≤ r then x.sw else x.pw) (r % 32) % 2 ^ (64 * l)

/-- A register written, with its residue; its words beyond L are zero (R200, R204). -/
def liuPut (x : LiuSt) (r v : Nat) : LiuSt :=
  let x := { x with resid := smapSet (fun _ => 0) x.resid r (liuMod v) }
  if 32 ≤ r then { x with sw := smapSet (fun _ => 0) x.sw (r % 32) v } else { x with pw := smapSet (fun _ => 0) x.pw (r % 32) v }

/-- What the control cluster writes to the public window with 64-bit accesses (R201). -/
def liuLoad (s : State) (l : List (Fin 32 × Nat)) : State := { s with liu := l.foldl (fun x e => liuPut x e.1 e.2) s.liu }

/-- The source positions of an operation (R202). -/
def LiuCmd.sources (c : LiuCmd) : List Nat :=
  match c.op with
  | 0x01 | 0x05 | 0x06 | 0x08 => [c.srcA]
  | 0x02 | 0x03 | 0x04 | 0x07 | 0x0A | 0x0B | 0x0C => [c.srcA, c.srcB]
  | _ => []

/-- A command that reads a secret register. -/
def LiuCmd.secret (c : LiuCmd) : Bool := c.sources.any liuSecret

/-- The operation writes a register. -/
def LiuCmd.writes (c : LiuCmd) : Bool := decide (2 ≤ c.op ∧ c.op ≤ 9) || decide (0xB ≤ c.op ∧ c.op ≤ 0xD)

/-- A command that breaks a rule of R201 or R202 (BADCMD): a reserved OP among them. -/
def LiuCmd.bad (c : LiuCmd) : Bool :=
  c.op == 0 || decide (0x10 ≤ c.op) || ((c.op == 0x07 || c.op == 0x0A || c.op == 0x0B) && c.secret)
    || (c.secret && c.writes && !liuSecret c.dst && !c.release)
    || (c.op == 0x07 && c.dst % 32 == 31)
    || (c.op == 0x0D && !liuSecret c.dst)

/-- An operand that SETMOD refuses: an even number or one whose top word is 0 (R202). -/
def modBad (n l : Nat) : Bool := n % 2 == 0 || decide (n < 2 ^ (64 * (l - 1)))

/-- What a command writes when it completes: register values, or a modulus. A modular result whose premises of R202 do not hold (no modulus of
this length, a source not below n) is an open value. -/
def liuResult (s : State) (c : LiuCmd) : List (Nat × Nat) × State :=
  let x := s.liu
  let l := c.len
  let a := liuGet x c.srcA l
  let b := liuGet x c.srcB l
  let n := x.modulus
  let one := fun (v : Nat) => ([(c.dst, v)], s)
  let modular := fun (ok : Bool) (v : Nat) =>
    if ok && x.modLen == l && n != 0 then one v else let (r, s) := draw s; ([(c.dst, r % 2 ^ (64 * l))], s)
  let lt := decide (a < n)
  let lt2 := lt && decide (b < n)
  match c.op with
  | 0x02 => modular lt2 (montRed n x.modInv l (a * b))
  | 0x03 => modular lt2 ((a + b) % n)
  | 0x04 => modular lt2 ((a + n - b) % n)
  | 0x05 => modular lt (a * 2 ^ (64 * l) % n)
  | 0x06 => modular lt (montRed n x.modInv l a)
  | 0x07 => ([(c.dst, a * b % 2 ^ (64 * l)), (c.dst + 1, a * b / 2 ^ (64 * l))], s)
  | 0x08 => one a
  | 0x09 => one 0
  | 0x0B => modular true (powMod n a b (bitLen b))
  | 0x0C => modular true (powMod n a b (64 * l))
  | _ => ([], s)

/-- CMP (R202, R209): 0 equal, 1 less, 2 greater. -/
def liuCmpOf (x : LiuSt) (c : LiuCmd) : Nat :=
  let a := liuGet x c.srcA c.len
  let b := liuGet x c.srcB c.len
  if a = b then 0 else if a < b then 1 else 2

/-- The key of a control-cluster blob, unwrapped through Firn (R202). -/
def liuKey (s : State) (blob : Nat) : Option Nat :=
  match getBlob s blob with
  | some b => Config.kwpUnwrap (wkNow s b.slice b.attr) b.wrapped
  | none => none

/-- A command ends without having run. -/
def liuEnd (s : State) (st : LiuStatus) : State := { s with liu := { s.liu with last := st } }

/-- A command starts on the idle unit, or is refused before any cycle of work (R201 to R204). In FAULT the LIU accepts only SELFTEST. -/
def liuStart (s : State) (c : LiuCmd) : State :=
  if s.liu.st = .fault ∧ c.op ≠ 0x0F then liuEnd s .unitFault
  else if c.bad then liuEnd s .badCmd
  else if c.op = 0x01 ∧ modBad (liuGet s.liu c.srcA c.len) c.len = true then liuEnd s .badOperand
  else
    let run := fun (s : State) (res : List (Nat × Nat)) (cmp : Option Nat) =>
      { s with liu := { s.liu with st := .busy, running := some c, res := res, resCmp := cmp } }
    if c.op = 0x0D then
      match liuKey s c.blob with
      | some k => run s [(c.dst, k % 2 ^ (64 * c.len))] none
      | none => liuEnd (unwrapFailed s (.blob c.blob) (getBlob s c.blob).isSome) .badOperand
    else if c.op = 0x0A then run s [] (some (liuCmpOf s.liu c))
    else let (r, s) := liuResult s c; run s r none

/-- The next waiting command starts (R203). -/
def liuNext (s : State) : Nat → State
  | 0 => s
  | fuel + 1 =>
    if s.liu.st = .busy ∨ s.liu.st = .aborting then s
    else match s.liu.queue with
      | c :: rest => liuNext (liuStart { s with liu := { s.liu with queue := rest } } c) fuel
      | [] => s

/-- A command word arrives, after what the control cluster wrote to the public window (R201, R203): it waits while one is running. After a tamper
event it ends with ZEROISED (R205). -/
def liuIssue (s : State) (pub : List (Fin 32 × Nat)) (c : LiuCmd) : State :=
  let s := liuLoad (liuWake s) pub
  match s.liu.st with
  | .aborted => liuEnd s .zeroised
  | .busy | .aborting => { s with liu := { s.liu with queue := s.liu.queue ++ [c] } }
  | _ => liuStart s c

/-- A command word as it reaches the unit. -/
def liuCmdOf (op : Nat) (w : LiuWord) (blob : Nat) : LiuCmd := ⟨op, w.dst, w.srcA, w.srcB, w.release, w.lenM1 + 1, blob⟩

/-- The results of a finished command applied; SECRET follows the secret window (R206). -/
def liuApply (s : State) (c : LiuCmd) : State :=
  let x := s.liu
  let y := x.res.foldl (fun (y : LiuSt) e => liuPut y e.1 e.2) x
  let y := match x.resCmp with | some v => { y with cmp := v } | none => y
  let y := if c.op = 0x01 then
      let n := liuGet x c.srcA c.len
      { y with
        modulus := n, modLen := c.len, modInv := montInv n, modR2 := 2 ^ (128 * c.len) % n
        resid := smapSet (fun _ => 0) y.resid 64 (liuMod n) }
    else y
  let y := { y with running := none, res := [], resCmp := none, st := .idle, last := .ok, secret := !y.sw.isEmpty }
  { s with liu := if c.op = 0x09 ∧ y.sw.isEmpty = true then { y with mismatches := 0 } else y }

/-- Entry to FAULT (R204, R205). -/
def liuFault (s : State) (c : LiuCmd) : State :=
  let s := liuClear s .fault
  let s := { s with liu := { s.liu with last := .unitFault, mismatches := 0 } }
  record (setEvt s 0x91 2) 0x0511 0x8 0 [c.op, c.len - 1]

/-- What a suppressed result leaves at its destination (R204): the modulus register of SETMOD or the register, zero. -/
def liuZeroDst (x : LiuSt) (c : LiuCmd) : LiuSt :=
  if c.op = 0x01 then { x with modulus := 0, modLen := 0, modInv := 0, modR2 := 0, resid := smapSet (fun _ => 0) x.resid 64 0 }
  else if c.writes then liuPut x c.dst 0 else x

/-- A residue mismatch (R204): the result is suppressed and its destination zeroed; the second in one service is a fault. The library's repeat of
the service comes as commands of its own (log entry 139). -/
def liuMismatch (s : State) (c : LiuCmd) : State :=
  let s := setEvt (incReg s 0x91028) 0x91 0
  let x := liuZeroDst s.liu c
  let x := { x with running := none, res := [], resCmp := none, st := .idle, last := .residue, mismatches := x.mismatches + 1, secret := !x.sw.isEmpty }
  let s := { s with liu := x }
  if 2 ≤ x.mismatches then liuFault s c else s

/-- The end of the running command (R202 to R205): its residue check passes or fails, the self-test passes or fails, or the abort is
complete. -/
def liuDone (s : State) (ok : Bool) : State :=
  let s := match s.liu.st, s.liu.running with
    | .aborting, _ =>
      setEvt (incReg { s with liu := { s.liu with st := .idle, last := .aborted } } 0x9102C) 0x91 1
    | .busy, some c =>
      if c.op = 0x0F ∧ ok = false then
        setEvt { liuClear s .fault with liu := { (liuClear s .fault).liu with last := .unitFault } } 0x91 2
      else if c.secret && !ok then liuMismatch s c
      else incReg (liuApply s c) 0x91024
    | _, _ => s
  liuNext s (s.liu.queue.length + 1)

/-- ABORT (R205): the running command stops and every register is zeroed; the abort completes within 4 µs. One that arrives during an
abort completes with it. -/
def liuAbort (s : State) : State :=
  let s := liuWake s
  match s.liu.st with
  | .aborted => liuEnd s .zeroised
  | .fault => liuEnd s .unitFault
  | .aborting => s
  | _ =>
    let q := s.liu.queue
    let s := liuClear s .aborting
    { s with liu := { s.liu with queue := q } }

/-- The tamper line at the LIU (R205): the running command ends with ZEROISED, and the unit stays ABORTED until boot. -/
def liuTamper (s : State) : State :=
  let s := liuClear s .aborted
  setEvt (incReg { s with liu := { s.liu with last := .zeroised } } 0x9102C) 0x91 1

/-- The tamper line at the LTU (R191). -/
def ltuTamper (s : State) : State :=
  let busy := decide (s.ltu.st = .busy)
  let s := ltuClear s .aborted
  if busy then ltuEnd s 1 [] else s

/-- LIU_STATE (R209). -/
def liuStateWord (s : State) : Word :=
  let x := s.liu
  let st := match x.st with | .off => 0 | .idle => 1 | .busy => 2 | .aborting => 3 | .fault => 4 | .aborted => 5
  let (op, len) := match x.running with | some c => (c.op, c.len - 1) | none => (0, 0)
  pack [(st, 29), (bnat x.secret, 28), (op, 22), (len, 15), (x.cmp, 13)]

/-- Idle gating of a unit (R437): with UNITGATE, an idle unit without requests is switched off; its memories are cleared first (R191,
R205). In the PWC safe state UNITGATE is treated as 0 (R439). -/
def unitGate (s : State) (u : IdleUnit) : State :=
  if fld (getReg s 0x130020) 1 1 = 1 ∧ pageSafe s 0x130 = false then
    match u with
    | .ltu => if s.pwc.ltu = true ∧ s.ltu.asking = false ∧ (s.ltu.st = .idle ∨ s.ltu.st = .off) then incReg (ltuOff s) 0x131038 else s
    | .liu => if s.pwc.liu = true ∧ (s.liu.st = .idle ∨ s.liu.st = .off) then incReg (liuOff s) 0x131038 else s
  else s

/-- Idle gating of CP_2 or CP_3 (R437, R439). -/
def cpGate (s : State) (n : Nat) : State :=
  if fld (getReg s 0x130020) 0 0 = 1 ∧ pageSafe s 0x130 = false ∧ bit s.pwc.cp n = true then
    incReg { s with pwc := { s.pwc with cp := maskSet s.pwc.cp n false } } 0x131038
  else s

/-! ### The library above the LIU (R207) -/

/-- The field prime, the coefficient b and the group order of the curves P-256 and P-384 (the standard's values). -/
def curveP (p384 : Bool) : Nat :=
  if p384 then 2 ^ 384 - 2 ^ 128 - 2 ^ 96 + 2 ^ 32 - 1 else 2 ^ 256 - 2 ^ 224 + 2 ^ 192 + 2 ^ 96 - 1
def curveB (p384 : Bool) : Nat :=
  if p384 then 0xB3312FA7E23EE7E4988E056BE3F82D19181D9C6EFE8141120314088F5013875AC656398D8A2ED19D2A85C8EDD3EC2AEF
  else 0x5AC635D8AA3A93E7B3EBBD55769886BC651D06B0CC53B0F63BCE3C3E27D2604B
def curveN (p384 : Bool) : Nat :=
  if p384 then 0xFFFFFFFFFFFFFFFFFFFFFFFFFFFFFFFFFFFFFFFFFFFFFFFFC7634D81F4372DDF581A0DB248B0A77AECEC196ACCC52973
  else 0xFFFFFFFF00000000FFFFFFFFFFFFFFFFBCE6FAADA7179E84F3B9CAC2FC632551

/-- An affine point on the curve y² = x³ − 3x + b, its coordinates below p (R207). -/
def onCurve (p384 : Bool) (x y : Nat) : Bool :=
  let p := curveP p384
  decide (x < p) && decide (y < p) && y * y % p == (x * x * x + (p - 3) * x + curveB p384) % p

/-- A modulus that the library takes: odd, of 2,048 to 8,192 bits in steps of 64, with consistent lengths (R207). -/
def rsaForm (n : Nat) (lengthsOk : Bool) : Bool :=
  n % 2 == 1 && decide (2048 ≤ bitLen n) && decide (bitLen n ≤ 8192) && bitLen n % 64 == 0 && lengthsOk

/-- P-384, where the curve is one that the library takes. -/
def curveIs384 : LibCurve → Option Bool
  | .p256 => some false
  | .p384 => some true
  | .other => none

/-- The service number of a LIB_REJECT record (R207). -/
def libService : LibCall → Nat
  | .rsaVerify .. => 1 | .rsaPublic .. => 2 | .rsaSign .. => 3 | .ecdsaVerify .. => 4 | .ecdh .. => 5 | .ecdsaSign .. => 6

/-- The status of a service's input checks, in their order, 0 where none fails (R207): LIB_ZERO 0x05, LIB_RANGE 0x06, LIB_OFFCURVE 0x07, LIB_FORM
0x08; UNIT_FAULT 0x0A for a signature that five nonces have not given. -/
def libStatus : LibCall → Nat
  | .rsaVerify n x ok | .rsaPublic n x ok => if !rsaForm n ok then 0x08 else if x = 0 then 0x05 else if n ≤ x then 0x06 else 0
  | .rsaSign n m ok => if !rsaForm n ok then 0x08 else if n ≤ m then 0x06 else 0
  | .ecdsaVerify curve r s x y ok =>
    match curveIs384 curve, ok with
    | some k, true =>
      if r = 0 ∨ s = 0 then 0x05 else if curveN k ≤ r ∨ curveN k ≤ s then 0x06 else if !onCurve k x y then 0x07 else 0
    | _, _ => 0x08
  | .ecdh curve x y infinity ok =>
    match curveIs384 curve, ok with
    | some k, true => if !onCurve k x y then 0x07 else if infinity then 0x05 else 0
    | _, _ => 0x08
  | .ecdsaSign curve zeros ok => if (curveIs384 curve).isNone || !ok then 0x08 else if 4 < zeros then 0x0A else 0

/-- A rejection by the library (R207): LIU_LIBREJ and its record. -/
def libReject (s : State) (service status : Nat) : State := record (incReg s 0x91030) 0x0512 0x8 0 [service, status]

end Sys2Proof.Machine
end

