-- ==== Sys2Proof/Machine/Keys.lean ====
section
/-! DEFINITION. Machine/Keys.lean: the key system's events and mailbox commands (R161 to R185, R348, R471). -/
namespace Sys2Proof.Machine

/-! ### Needs (R162, R163) -/

/-- FIRN_NEED: the request at an arbiter position whose key is not resident, or the staging load of a PENDING context, becomes a
need; a load whose key is resident goes on to its KCV. -/
def firnNeed (s : State) (src : NeedSrc) : State :=
  match src with
  | .request p pos =>
    match takeFirst (fun e => e.1 == pos.val && (match e.2.key with | some k => (resident s k).isNone | none => false)) (getPil s p).arb.waiting with
    | some ((_, r), rest) =>
      let s := modPil s p (fun y => { y with arb := { y.arb with waiting := rest } })
      raiseNeed s (r.key.getD (.blob (2 ^ 20))) r.cls p [(pos.val, r)] []
    | none => s
  | .load i =>
    match getCtx s i with
    | some c =>
      let hit := fun (r : LaneReq) => r.loadCtx == some i
      let running := s.firn.needs.any (fun n => n.loads.contains i) || c.changes.any (fun ch => match ch with | .loaded .. => true | _ => false)
        || s.pillows.any (fun e => e.2.arb.waiting.any (fun w => hit w.2) || e.2.arb.moved.any hit)
        || s.lanes.any (fun e => e.2.queue.any hit || e.2.susp.any hit || (match e.2.running with | some r => hit r | none => false))
      if c.nstate = 1 ∧ running = false then
        match resident s c.nextRef with
        | some slot => issueKcv s i slot
        | none => raiseNeed s c.nextRef 0 c.home [] [i]
      else s
    | none => s

/-- FIRN_NEED (R162). -/
def execFirnNeed (src : NeedSrc) (s : State) : Host.Outcome State Fault Refusal := .next (firnNeed s src)

/-- BLOB_READ_DONE: the blob's read returns, from DRAM or after an uncorrectable error from NAND; the UNWRAP goes to the Firn port of
the pillow that needs it. A failure of both reads fails the need without marking the blob bad (R162, R294). -/
def blobReadDone (s : State) (i : Nat) (dramOk nandOk : Bool) : State :=
  match takeFirst (fun n => n.key == .blob i && !n.issued) s.firn.needs, getBlob s i with
  | some (n, _), some b =>
    let s := if dramOk then s else setEvt (incReg s (regAddr 0xA0 0x34)) 0xA0 7
    if dramOk || nandOk then
      let s := { s with firn := { s.firn with needs := s.firn.needs.map (fun (m : Need) => if m.key = .blob i then { m with issued := true } else m) } }
      issueUnwrap s n.via n.cls i b
    else needFail (unwrapFailed s (.blob i) false) 10 (.blob i) 5
  | _, _ => s

/-- BLOB_READ_DONE (R162). -/
def execBlobReadDone (blob : Nat) (dramOk nandOk : Bool) (s : State) : Host.Outcome State Fault Refusal :=
  .next (blobReadDone s blob dramOk nandOk)

/-! ### The journal (R172, R174) -/

/-- A reservation of an invocation field over the last one: it never goes back (R174), but where the field was exhausted and has started
again under a new key (R90). -/
def mergeReserve (old new : Nat) : Nat := if 2 ^ 64 - 1 ≤ old ∧ new < 2 ^ 63 then new else max old new

/-- A context as NAND keeps it (R174). -/
def mergeCtx (old : Option Ctx) (c : Ctx) : Ctx :=
  match old with
  | some o => { c with reserve := mergeReserve o.reserve c.reserve }
  | none => c

/-- One durable change applied to what NAND holds (R172). -/
def applyItem (d : Durable) (it : JItem) : Durable :=
  match it with
  | .ctx i (some c) => { d with ctxs := smapSet (fun _ => none) d.ctxs i (some (mergeCtx (smapGet (fun _ => none) d.ctxs i) c)) }
  | .ctx i none => { d with ctxs := smapSet (fun _ => none) d.ctxs i none }
  | .slice i x => { d with slices := smapSet (fun _ => none) d.slices i x }
  | .group i x => { d with groups := smapSet (fun _ => none) d.groups i x }
  | .blob i x => { d with blobs := smapSet (fun _ => none) d.blobs i x }
  | .node i x => { d with nodes := smapSet (fun _ => none) d.nodes i x }
  | .sepoch i x => { d with sepoch := smapSet (fun _ => 0) d.sepoch i x }
  | .sched l => { d with schedule := l }
  | .image l => { d with images := l }
  | .assign p a => { d with assigns := smapSet (fun _ => defaultAssign) d.assigns p a }
  | .logLimit c b => { d with buckets := smapSet (fun _ => Bucket.full) d.buckets c b }
  | .gdoi l => { d with gdoi := l }
  | .officers l => { d with officers := l }
  | .codeKey k => { d with codeKey := k }
  | .pair b p m f => { d with bound := b, partner := p, member := m, pref := f }
  | .bundle _ => d
  | .rewrap seq i b =>
    let t := match d.shadow with | some (q, t) => if q = seq then t else [] | none => []
    { d with shadow := some (seq, smapSet (fun _ => none) t i (some b)) }
  | .member k => { d with gdoiMember := k }

/-- What takes effect as it becomes durable: the IV reservation of a live context (R174), the record of an accepted bundle (R180), and a
code's token bucket, which keeps the smaller of its tokens and the new burst (R415). -/
def applyReserve (s : State) (it : JItem) : State :=
  match it with
  | .logLimit c b =>
    let old := getBucket s c
    setBucket s c { b with tokens := min old.tokens b.burst, supp := old.supp }
  | .ctx i (some c) => modCtx s i (fun x => { x with reserve := mergeReserve x.reserve c.reserve })
  | .bundle p => record s 0x0500 0x6 0 (p ++ [0])
  | _ => s

/-- The oldest journal record becomes durable (R172): its changes are NAND's, its notice is written and its completion is posted, a
paired commit's once the partner has acknowledged it (R348). A STANDBY acknowledges what it has received once nothing of it waits
(R335). DESIGN CHOICE (log entry 154). -/
def journalDurable (s : State) : State :=
  match s.journal with
  | [] => s
  | r :: rest =>
    let s := { s with journal := rest, durable := r.items.foldl applyItem s.durable }
    let s := r.items.foldl applyReserve s
    let s := match r.removed with
      | some (i, ctx) => notice s i ctx 0x04 0
      | none => s
    let s := if s.pair.st = .standby ∧ rest.isEmpty = true ∧ s.pair.commitAt.isEmpty = true then brideSend s (.item (.durable s.pair.peerSeq)) else s
    let s := execDurable s r
    match r.done with
    | some d =>
      if s.pair.acked < r.ack ∧ s.pair.hb = true then { s with pair := { s.pair with ackWait := s.pair.ackWait ++ [(r.ack, d)] } }
      else mbxPost s d
    | none => s

/-- JOURNAL_DURABLE (R172). -/
def execJournalDurable (s : State) : Host.Outcome State Fault Refusal := .next (journalDurable s)

/-! ### Commits (R169) -/

/-- A commit of the context waits for its boundary. -/
def Ctx.commitWaits (c : Ctx) : Bool := c.changes.any (fun ch => match ch with | .commit .. => true | _ => false)

/-- A commit that comes due for a target (R169): READY commits at its frame boundary; PENDING under a schedule that waits stays;
anything else is skipped with a record. -/
def commitTarget (e : SchedEntry) (s : State) (i : Nat) : State :=
  match getCtx s i with
  | some c =>
    if c.nstate = 2 then (if c.commitWaits then s else atBoundary s i (.commit (e.overlap.getD c.overlap) true))
    else if c.nstate = 1 && e.waits then s
    else skipTarget s i (SchedEntry.due s)
  | none => skipTarget s i (SchedEntry.due s)

/-- SCHEDULED_COMMIT: every entry whose ACTIVATE the time unit has reached, its targets in order (R169). -/
def scheduledCommit (s : State) : State :=
  (s.firn.schedule.filter (SchedEntry.due s)).foldl (fun s e => e.targets.foldl (commitTarget e) s) s

/-- SCHEDULED_COMMIT (R169). -/
def execScheduledCommit (s : State) : Host.Outcome State Fault Refusal := .next (scheduledCommit s)

/-! ### The master key (R176) -/

/-- A wrapping-key slot switched to the active master key; where a lane request refers to it, that request keeps the old key and the new one
takes another slot (R135, R176). -/
def switchWk (s : State) (e : Nat × Option SlotSt) : State :=
  match e.2 with
  | some x => match x.holds with
    | .wk i a =>
      if x.doomed then s
      else if slotReferenced s e.1 then loadSlot (setSlot s e.1 (some { x with doomed := true })) (.wk i a) 2 2 0 (wkNow s i a) true
      else
        let s := setSlot (invalidateSlots s (· == e.1)) e.1 (some { x with key := wkNow s i a })
        { s with firn := { s.firn with gens := smapMod (fun _ => 0) s.firn.gens e.1 (· + 1) } }
    | _ => s
  | none => s

/-- The wrapping keys of every slice that has none resident, as after a first master key (R157, R366). -/
def wkComplete (s : State) : State :=
  s.slices.foldl (fun s e => if e.2.st != .free && (resident s (.wk e.1 0)).isNone then deriveWk s e.1 else s) s

/-- A journal item as it stands once the blob tables have switched: the shadow table's progress is part of the new table (R176). -/
def JItem.switched (re : Blob → Blob) : JItem → Option JItem
  | .blob i (some b) => some (.blob i (some (re b)))
  | .rewrap .. => none
  | it => some it

/-- The blob tables of DRAM and NAND, what waits in the journal for NAND's, and the member key under the new master key (R176). -/
def switchTables (s : State) (old new : Nat) : State :=
  let re := rewrapBlob s old new
  let all := fun (m : SMap (Option Blob)) => m.map (fun e => (e.1, e.2.map re))
  let member := fun (k : Option (List Byte)) => k.map (rewrapKey old new)
  { s with
    firn := { s.firn with blobs := all s.firn.blobs, member := member s.firn.member }
    durable := { s.durable with blobs := all s.durable.blobs, shadow := none, gdoiMember := member s.durable.gdoiMember }
    journal := s.journal.map (fun r => { r with items := r.items.filterMap (JItem.switched re) }) }

/-- MMK_REWRAP_DONE: step 4, the STAGED record is made ACTIVE, and step 5, wrapping keys and blob table switch and the old record is
zeroed (R176). -/
def mmkRewrapDone (s : State) : State :=
  match s.firn.kstate, stagedOf s.firn with
  | .changing, some (r, isA) =>
    let old := activeRec s.firn
    let new := MmkRec.withCrc { r with state := 0xA5 }
    let s := match old with | some o => switchTables s o.mmk new.mmk | none => s
    let s := { s with
      firn := { s.firn with recA := if isA then new else .empty, recB := if isA then .empty else new, comps := [], rewrapped := 0, rewrapNext := 0 }
      lc := { s.lc with keyed := true } }
    let s := setKState (wkComplete (s.firn.slots.foldl switchWk s)) .active
    if s.tamper.cer = .exec ∧ s.tamper.cerCmd = 0x47 then execEnd s 0 [] else s
  | _, _ => s

/-- MMK_REWRAP_DONE (R176). -/
def execMmkRewrapDone (s : State) : Host.Outcome State Fault Refusal := .next (mmkRewrapDone s)

/-! ### Shared checks of the key commands -/

/-- The largest OVERLAP (R170). -/
def overlapMax : Nat := 604800

/-- The attribute and KTYPE that a context requires of its key (R160, R177). -/
def keyFits (c : Ctx) (attr ktype : Nat) : Bool :=
  attr == (if c.pubDir then 0 else 1) && c.alg != 0 && ktype == (if c.alg ≤ 3 then 1 else 0)

/-- The status of staging into a context by its NSTATE (R168). -/
def stageState (s : State) (c : Ctx) : Nat :=
  match c.nstateDue with
  | 0 => 0
  | 1 => 0x01
  | 2 => 0x02
  | _ => if serialLt (ptpSec32 s) (c.word 0x14).toNat then 0x03 else 0

/-- The load of a staged key whose slot is resident goes on at once; any other waits for its need (R168). -/
def startLoad (s : State) (i : Nat) : State :=
  match getCtx s i with
  | some c => match resident s c.nextRef with
    | some slot => if c.nstate = 1 then issueKcv s i slot else s
    | none => s
  | none => s

/-- A key staged at the context's frame boundary (R61, R168), its load started where that is at once. -/
def stageKey (s : State) (i ksrc kidx kid kcv overlap epoch : Nat) : State := startLoad (atBoundary s i (.stage ksrc kidx kid kcv overlap epoch)) i

/-- The journal item of a context with the changes that wait for its boundary (R172). -/
def ctxItem (s : State) (i : Nat) : List JItem := match getCtx s i with | some c => [.ctx i (some c.settled)] | none => []

/-- A blob or node made under the present master key is none of those that outlived a zeroisation (R184). -/
def freshKey (s : State) (r : KeyRef) : State :=
  { s with firn := { s.firn with outlived := s.firn.outlived.filter (fun x => x != r) } }

/-- A new blob of a key (R161): its index, or none where the table is full. -/
def makeBlob (s : State) (sl attr ktype kid kcv key epoch : Nat) : Option (Nat × State) :=
  let i := firstFree s.firn.blobs 0
  if i < 1048576 then
    let b : Blob := ⟨attr, ktype, sl, kid, kcv, Config.kwpWrap (wkNow s sl attr) key, false, false, epoch⟩
    some (i, journalAdd (freshKey (setBlob s i (some b)) (.blob i)) [.blob i (some b)])
  else none

/-- A key command: refused with STATE in the low-power hold (R438) and with ZEROISED while ZEROISED (R365). -/
def keyRun (s : State) (sl : Slot) (code : Nat) (body : State → State × MbxRes) : State :=
  mbxRun s sl code (some 0x02) (fun s => if s.tamper.zeroised then (s, MbxRes.refuse 0x07) else body s)

/-! ### KEY_STAGE, KEY_COMMIT, KEY_ABORT, KEY_STATUS (R167 to R171) -/

/-- The key that KSRC and KIDX name: attribute, KTYPE, KID, slice; none where there is none (R168). -/
def keyNamed (s : State) (ksrc kidx : Nat) : Option (Nat × Nat × Nat × Nat) :=
  if ksrc = 0 then (getBlob s kidx).map (fun b => (b.attr, b.ktype, b.kid, b.slice))
  else (getNode s kidx).map (fun n => (n.attr, n.ktype, n.kid, n.slice))

/-- KEY_STAGE (R168). -/
def keyStage (s : State) (sl : Slot) (i ksrc kidx kcv overlap : Nat) : State × MbxRes :=
  if 2 ≤ ksrc ∨ 2 ^ 20 ≤ kidx ∨ overlapMax < overlap then (s, MbxRes.refuse 0x08)
  else if !mmkActive s then (s, MbxRes.refuse 0x06)
  else match liveCtx s i, keyNamed s ksrc kidx with
    | some c, some (attr, ktype, kid, slice) =>
      if slice ≠ c.slice then (s, MbxRes.refuse 0x10)
      else if !keyFits c attr ktype then (s, MbxRes.refuse 0x04)
      else
        let st := stageState s c
        if st ≠ 0 then (s, MbxRes.refuse st)
        else
          let (items, s) := journalTake (stageKey s i ksrc kidx kid kcv overlap 0) s.journal.length
          let s := journalCmd s 0x41 (items ++ ctxItem s i)
          ({ s with firn := { s.firn with stageCmds := s.firn.stageCmds ++ [(i, sl)] } }, MbxRes.later)
    | _, _ => (s, MbxRes.refuse 0x10)

/-- KEY_STAGE (R168). -/
def execKeyStage (sl : Slot) (ctx ksrc kidx kcv overlap : Nat) (s : State) : Host.Outcome State Fault Refusal :=
  .next (if commitBusy s ctx then s else keyRun s sl 0x41 (fun s => keyStage s sl ctx ksrc kidx kcv overlap))

/-- A paired context is READY on both modules with the same KIDNEXT (R348). -/
def pairedReady (s : State) (i : Nat) (c : Ctx) : Bool :=
  match smapGet (fun _ => none) s.pair.partnerKeys i with
  | some k => k.nstate == 2 && k.kidNext == (c.word 0x10).toNat
  | none => false

/-- KEY_COMMIT (R169, R348): all of the contexts, now at their boundary, in the schedule, or as a paired commit at T_c. -/
def keyCommit (s : State) (sl : Slot) (ctxs : List Nat) (activate overlap : Nat) : State × MbxRes :=
  let keep := overlap = 0xFFFFFFFF
  let ctxs := ctxs.eraseDups
  if ctxs.isEmpty ∨ 4096 < ctxs.length ∨ 2 ^ 48 ≤ activate ∨ (¬ keep ∧ overlapMax < overlap) then (s, MbxRes.refuse 0x08)
  else if s.pair.st = .standby then (s, MbxRes.refuse 0x02)
  else if ctxs.any (fun i => (liveCtx s i).isNone) then (s, MbxRes.refuse 0x10)
  else if ctxs.any (fun i => match getCtx s i with | some c => c.nstate != 2 | none => true) then (s, MbxRes.refuse 0x02)
  else if s.pair.st = .active ∧ ctxs.any (fun i => match getCtx s i with | some c => !pairedReady s i c | none => true) then (s, MbxRes.refuse 0x02)
  else
    let ovl : Nat → Nat := fun i => if keep then (match getCtx s i with | some c => c.overlap | none => 0) else overlap
    if s.ptp.sec < activate then
      if 65536 ≤ s.firn.schedule.length then (s, MbxRes.refuse 0x11)
      else
        let l := s.firn.schedule ++ [⟨activate, ctxs, if keep then none else some overlap, false⟩]
        ({ s with firn := { s.firn with schedule := l } }, MbxRes.durable [.sched l])
    else if s.pair.st = .active then
      let tc := ptpNow s + 20000
      let s := ctxs.foldl (fun s i => mirrorSend s (.commitAt i tc ((tc / 1000000000 + ovl i) % 2 ^ 32))) s
      let seq := s.pair.mirrorSeq
      let s := { s with
        pair := { s.pair with sent := seq, commitAt := s.pair.commitAt ++ ctxs.map (fun i => (i, tc, (tc / 1000000000 + ovl i) % 2 ^ 32)) }
        firn := { s.firn with commitCmds := s.firn.commitCmds ++ [(sl, ctxs, seq)] } }
      (s, MbxRes.later)
    else
      let s := { s with firn := { s.firn with commitCmds := s.firn.commitCmds ++ [(sl, ctxs, 0)] } }
      (ctxs.foldl (fun s i => atBoundary s i (.commit (ovl i) false)) s, MbxRes.later)

/-- KEY_COMMIT (R169). -/
def execKeyCommit (sl : Slot) (ctxs : List Nat) (activate overlap : Nat) (s : State) : Host.Outcome State Fault Refusal :=
  .next (if ctxs.any (keyBusy s) then s else keyRun s sl 0x42 (fun s => keyCommit s sl ctxs activate overlap))

/-- A staging load given up: its need, and what its KCV request finds, are no longer the context's (R169). -/
def dropLoads (s : State) (i : Nat) : State :=
  let cut := fun (r : LaneReq) => if r.loadCtx = some i then { r with loadCtx := none } else r
  { s with
    firn := { s.firn with needs := s.firn.needs.map (fun n => { n with loads := n.loads.filter (· != i) }) }
    pillows := s.pillows.map (fun (e : Nat × Pillow) => (e.1, { e.2 with
      arb := { e.2.arb with waiting := e.2.arb.waiting.map (fun x => (x.1, cut x.2)), moved := e.2.arb.moved.map cut } }))
    lanes := s.lanes.map (fun (e : Nat × LaneSt) => (e.1, { e.2 with
      queue := e.2.queue.map cut, susp := e.2.susp.map cut, running := e.2.running.map cut })) }

/-- A waiting change that KEY_ABORT makes void: a commit, or the end of a load. -/
def CtxChange.aborted : CtxChange → Bool
  | .commit .. | .loaded .. => true
  | .modify .. | .stage .. | .unstage => false

/-- KEY_ABORT (R61, R169): a PENDING or READY context returns to NONE at its boundary, and leaves every schedule entry. -/
def keyAbort (s : State) (i : Nat) : State × MbxRes :=
  match liveCtx s i with
  | none => (s, MbxRes.refuse 0x10)
  | some c =>
    if c.nstateDue = 1 ∨ c.nstateDue = 2 then
      let t := setCtx s i (some { c with changes := c.changes.filter (fun ch => !ch.aborted) })
      let (items, t) := journalTake (atBoundary (dropLoads (unschedule t i) i) i .unstage) s.journal.length
      (t, MbxRes.durable (ctxItem t i ++ [.sched t.firn.schedule] ++ items))
    else (s, MbxRes.refuse 0x02)

/-- KEY_ABORT (R169). -/
def execKeyAbort (sl : Slot) (ctx : Nat) (s : State) : Host.Outcome State Fault Refusal :=
  .next (if keyBusy s ctx then s else keyRun s sl 0x43 (fun s => keyAbort s ctx))

/-- KEY_STATUS (R167, R180, R348): the key state of a context, also while ZEROISED and in the low-power hold. -/
def execKeyStatus (sl : Slot) (ctx : Nat) (s : State) : Host.Outcome State Fault Refusal :=
  .next (mbxRun s sl 0x48 none (fun s =>
    match liveCtx s ctx with
    | some c =>
      let partner := match smapGet (fun _ => none) s.pair.partnerKeys ctx with | some k => k.nstate | none => 0
      (s, MbxRes.ok 0 (Config.keyStatus c.nstate (c.word 0x0C).toNat (c.word 0x10).toNat c.epoch partner))
    | none => (s, MbxRes.refuse 0x10)))

/-! ### BLOB_PIN and NODE_DEFINE (R159, R165) -/

/-- The lowest pillow with a lane in SERVICE, for a load that no pillow needs (log entry 19). -/
def anyPillow (s : State) : Nat := ((List.range 16).find? (pillowServes s)).getD 0

/-- BLOB_PIN (R159, R161, R168): one record says what is left of the blob. -/
def blobPin (s : State) (slice i : Nat) (pin : Bool) : State × MbxRes :=
  match getBlob s i with
  | none => (s, MbxRes.refuse 0x10)
  | some b =>
    if b.slice ≠ slice then (s, MbxRes.refuse 0x10)
    else if pin && !b.pinned && (decide (8192 < pinnedBlobs s + 1) || decide (12288 < pinnedAll s + 1)) then
      (setEvt s 0x80 3, MbxRes.refuse 0x11)
    else
      let s := setBlob s i (some { b with pinned := pin })
      let s := match resident s (.blob i) with
        | some n => match getSlot s n with | some x => setSlot s n (some { x with pinned := pin }) | none => s
        | none => if pin then raiseNeed s (.blob i) 0 (anyPillow s) [] [] else s
      let (_, t) := journalTake (if pin then s else freeBlob s i) s.journal.length
      (t, MbxRes.durable [.blob i (getBlob t i)])

/-- BLOB_PIN (R159). -/
def execBlobPin (sl : Slot) (slice blob : Nat) (pin : Bool) (s : State) : Host.Outcome State Fault Refusal :=
  .next (keyRun s sl 0x44 (fun s => blobPin s slice blob pin))

/-- The root blob number that stands for a root whose TREE_ROOT bundle has not come yet (log entry 22). -/
def noRoot : Nat := 0xFFFFFFFF

/-- A node and its ancestors, as far as n of them. -/
def nodeChain (s : State) : Nat → Nat → List Nat
  | 0, _ => []
  | n + 1, i => match getNode s i with
    | some d => i :: (match d.parent with | some p => nodeChain s n p | none => [])
    | none => []

/-- The nodes below one, and how many levels below it each lies. -/
def nodesBelow (s : State) (i : Nat) : List (Nat × Nat) :=
  s.firn.nodes.filterMap (fun e => match (nodeChain s 10 e.1).idxOf? i with | some k => if k = 0 then none else some (e.1, k) | none => none)

/-- A node under a parent would lie, or leave another, more than 8 levels below its root, or be its own ancestor (R165). -/
def tooDeep (s : State) (i p : Nat) : Bool :=
  let up := nodeChain s 10 p
  up.contains i || decide (8 < up.length + (nodesBelow s i).foldl (fun a e => max a e.2) 0)

/-- A node put into the table: its old key and those derived from it go, and so does a root blob that nothing else uses (R161). DESIGN CHOICE (log
entry 149): the definition of an index that is defined replaces it. -/
def putNode (s : State) (i : Nat) (n : TreeNode) : State × MbxRes :=
  let below := (nodesBelow s i).map (fun e => KeyRef.node e.1)
  let old := (getNode s i).bind (fun x => x.rootBlob)
  let s := freshKey (dropSlots s (fun x => x.holds == .node i || below.contains x.holds)) (.node i)
  let t := { s with firn := { s.firn with nodes := smapSet (fun _ => none) s.firn.nodes i (some n) } }
  let (items, t) := journalTake (match old with | some b => freeBlob t b | none => t) s.journal.length
  (t, MbxRes.durable ([.node i (some n)] ++ items))

/-- NODE_DEFINE (R165). -/
def nodeDefine (s : State) (d : NodeDef) : State × MbxRes :=
  let kids := s.firn.nodes.filterMap (fun e => match e.2 with | some n => if n.parent = some d.index then some n else none | none => none)
  if 2 ^ 20 ≤ d.index ∨ d.label.length = 0 ∨ 48 < d.label.length ∨ 3 < d.attr ∨ d.attr = 2 ∨ 2 < d.ktype then (s, MbxRes.refuse 0x08)
  else if !kids.isEmpty && d.attr != 3 then (s, MbxRes.refuse 0x04)
  else if kids.any (fun n => n.slice != d.slice) then (s, MbxRes.refuse 0x10)
  else
    match d.parent with
    | some p => match getNode s p with
      | none => (s, MbxRes.refuse 0x10)
      | some q =>
        if q.slice ≠ d.slice then (s, MbxRes.refuse 0x10)
        else if q.attr ≠ 3 then (s, MbxRes.refuse 0x04)
        else if tooDeep s d.index p then (s, MbxRes.refuse 0x08)
        else putNode s d.index ⟨some p, none, d.slice, d.attr, d.ktype, d.kid, d.label⟩
    | none =>
      if d.rootBlob = noRoot then putNode s d.index ⟨none, none, d.slice, d.attr, d.ktype, d.kid, d.label⟩
      else match getBlob s d.rootBlob with
        | none => (s, MbxRes.refuse 0x08)
        | some b =>
          if b.slice ≠ d.slice ∨ b.attr ≠ 3 then (s, MbxRes.refuse 0x08)
          else putNode s d.index ⟨none, some d.rootBlob, d.slice, d.attr, d.ktype, d.kid, d.label⟩

/-- NODE_DEFINE (R165). -/
def execNodeDefine (sl : Slot) (d : NodeDef) (s : State) : Host.Outcome State Fault Refusal :=
  .next (keyRun s sl 0x45 (fun s => nodeDefine s d))

/-! ### KEM_GENERATE (R176, R366, R471) -/

/-- The statement that KEM_GENERATE signs: MAGIC, VERSION, DEVICE, encapsulation key (R471). -/
def kemBody (dev seed : Nat) : List Byte :=
  beBytes 4 0x4B584B4B ++ beBytes 2 1 ++ beBytes 2 0 ++ beBytes 32 dev ++ beBytes 1568 (Config.kemPub seed)

/-- A new KEM seed written to the battery records: into the active record's successor, for which the blob table in use is tagged from then on, or
into a STAGED record without a master key (R176, R366). -/
def writeKemSeed (f : FirnSt) (seed : Nat) : FirnSt :=
  match activeRec f with
  | some r =>
    let n := MmkRec.withCrc { r with seq := r.seq + 1, kemSeed := some seed }
    if f.recA = r then { f with recB := n } else { f with recA := n }
  | none => { f with recA := MmkRec.withCrc ⟨max f.recA.seq f.recB.seq + 1, 0x5A, 0, some seed, 0, 0⟩, recB := .empty }

/-- KEM_GENERATE with its seed and the rnd of its signature (R176, R187, R189, R471). -/
def kemSign (s : State) (seed rnd : Nat) : State × MbxRes :=
  let body := kemBody (deviceFpr s) seed
  match ltuSign s rnd with
  | (s, some r) => ({ s with firn := writeKemSeed s.firn seed }, MbxRes.ok 0 (body ++ identitySign s (Config.sha3 body) r))
  | (s, none) => (s, MbxRes.refuse 0x13)

/-- KEM_GENERATE has its 64-byte seed and asks for the rnd of its signature (R190). -/
def kemSeeded (s : State) (sl : Slot) (seed : Nat) : State × MbxRes :=
  match rngAsk s 32 (.kemGenerate sl (some seed)) with
  | .now rnd s => kemSign s seed rnd
  | .later s => (s, MbxRes.later)
  | .refused => (s, MbxRes.refuse 0x13)

/-- KEM_GENERATE goes on with bytes that it waited for. -/
def kemGiven (s : State) (sl : Slot) (seed : Option Nat) (n : Nat) : State × MbxRes :=
  match seed with | some x => kemSign s x n | none => kemSeeded s sl n

/-- KEM_GENERATE (R176, R190, R366, R471). -/
def kemGenerate (s : State) (sl : Slot) : State × MbxRes :=
  if sl.rlen < 6235 then (s, MbxRes.refuse 0x08)
  else if !s.lc.identity then (s, MbxRes.refuse 0x09)
  else if s.firn.kstate = .changing then (s, MbxRes.refuse 0x02)
  else match rngAsk s 64 (.kemGenerate sl none) with
    | .now seed s => kemSeeded s sl seed
    | .later s => (s, MbxRes.later)
    | .refused => (s, MbxRes.refuse 0x13)

/-- KEM_GENERATE (R471). -/
def execKemGenerate (sl : Slot) (s : State) : Host.Outcome State Fault Refusal := .next (keyRun s sl 0x46 (fun s => kemGenerate s sl))

/-! ### The sealed key bundle (R177 to R180) -/

/-- A big-endian field of a byte list. -/
def beAt (b : List Byte) (off n : Nat) : Nat := ofBe (slice b off n)

/-- A bundle entry (R177). -/
structure BundleEntry where
  target : Nat
  slice : Nat
  attr : Nat
  ktype : Nat
  kid : Nat
  kcv : Nat
  wkey : List Byte
  rsvd : Nat

/-- The entries of a bundle. -/
def bundleEntries (b : List Byte) : List BundleEntry :=
  (List.range (beAt b 0x52 2)).map (fun k =>
    let o := 0x690 + 64 * k
    ⟨beAt b o 4, beAt b (o + 4) 2, beAt b (o + 6) 1, beAt b (o + 7) 1, beAt b (o + 8) 4, beAt b (o + 0xC) 8, slice b (o + 0x14) 40, beAt b (o + 0x3C) 4⟩)

/-- The first check of R179: length, MAGIC, VERSION, reserved bytes and values, COUNT, OVERLAP, EPOCH, BSEQ. -/
def bundleBad (b : List Byte) : Bool :=
  let n := beAt b 0x52 2
  b.length != 6307 + 64 * n || beAt b 0 4 != 0x4B584B42 || beAt b 4 2 != 1 || beAt b 6 1 == 0 || decide (3 < beAt b 6 1)
    || beAt b 7 1 != 0 || beAt b 0x51 1 != 0 || beAt b 0x6C 4 != 0 || n == 0 || decide (256 < n) || decide (overlapMax < beAt b 0x54 4)
    || beAt b 0x68 4 == 0 || beAt b 0x48 8 == 0 || decide (2 ^ 48 ≤ beAt b 0x58 8) || (bundleEntries b).any (fun e => e.rsvd != 0)

/-- The entry rules by type (R177): the status of one entry, 0 where it holds. -/
def entryStatus (s : State) (type : Nat) (e : BundleEntry) (signer : Nat) (count : Nat) : Nat :=
  match type with
  | 1 => match liveCtx s (e.target % 2 ^ 18) with
    | some c =>
      if c.slice ≠ e.slice ∨ 2 ^ 18 ≤ e.target then 0x10
      else if !keyFits c e.attr e.ktype then 0x04 else stageState s c
    | none => 0x10
  | 3 => match getNode s (e.target % 2 ^ 20) with
    | some n =>
      if n.slice ≠ e.slice ∨ n.parent.isSome ∨ 2 ^ 20 ≤ e.target then 0x10
      else if e.attr ≠ 3 ∨ e.ktype ≠ 2 then 0x04 else 0
    | none => 0x10
  | _ =>
    let n := bits e.target 15 8
    let k := bits e.target 7 0
    if count ≠ 1 ∨ e.slice ≠ 0 ∨ e.attr ≠ 2 ∨ e.ktype ≠ 2 ∨ n < 2 ∨ 4 < n ∨ k = 0 ∨ n < k ∨ bits e.target 31 16 ≠ 0 then 0x08
    else if s.firn.comps.any (fun c => c.count != n) then 0x08
    else if s.tamper.cer ≠ .auth2 ∨ s.tamper.cerCmd ≠ 0x47 ∨ s.tamper.cerId ≠ e.kid then 0x12
    else if s.firn.comps.any (fun c => c.officer == signer) then 0x0A
    else 0

/-- The entries unwrapped and checked in order (R179): the key values, or the first failing status. The entry that repeats a TARGET before it
fails with BAD_FORMAT (R177). -/
def checkEntries (s : State) (type pk signer count : Nat) : List BundleEntry → List Nat → List Nat → Nat × List Nat
  | [], _, ks => (0, ks)
  | e :: es, seen, ks =>
    match Config.kwpUnwrap pk e.wkey with
    | none => (0x0F, [])
    | some k =>
      if kcvOf k e.kid e.ktype e.attr ≠ e.kcv then (0x0F, [])
      else
        let st := entryStatus s type e signer count
        if st ≠ 0 then (st, [])
        else if seen.contains e.target then (0x08, [])
        else checkEntries s type pk signer count es (e.target :: seen) (ks ++ [k])

/-- One accepted entry applied (R177, R179); none where the blob table is full. -/
def applyEntry (type epoch overlap signer : Nat) (s : Option State) (e : BundleEntry × Nat) : Option State :=
  match s with
  | none => none
  | some s =>
    match type with
    | 1 => (makeBlob s e.1.slice e.1.attr e.1.ktype e.1.kid e.1.kcv e.2 epoch).map (fun r =>
        stageKey r.2 e.1.target 0 r.1 e.1.kid e.1.kcv overlap epoch)
    | 3 => (makeBlob s e.1.slice e.1.attr e.1.ktype e.1.kid e.1.kcv e.2 epoch).map (fun r =>
        match getNode r.2 e.1.target with
        | some n =>
          let n' := { n with rootBlob := some r.1 }
          let s := freshKey r.2 (.node e.1.target)
          let s := { s with firn := { s.firn with nodes := smapSet (fun _ => none) s.firn.nodes e.1.target (some n') } }
          let s := journalAdd (dropSlots s (fun x => match x.holds with | .node j => (match getNode s j with | some m => m.slice == n.slice | none => false) | _ => false))
            [.node e.1.target (some n')]
          match n.rootBlob with | some o => freeBlob s o | none => s
        | none => r.2)
    | _ => some { s with firn := { s.firn with comps := s.firn.comps ++ [⟨signer, bits e.1.target 7 0, bits e.1.target 15 8, e.2⟩] } }

/-- The officer table entry of an index (R367). -/
def officerAt (s : State) (i : Nat) : Option Officer := s.tamper.officers.find? (fun o => o.index == i)

/-- The steps of R179 up to the entries: the status, 0 where they hold. -/
def bundleHeader (s : State) (b : List Byte) : Nat :=
  let type := beAt b 6 1
  let o := officerAt s (beAt b 0x50 1)
  if bundleBad b then 0x08
  else if s.tamper.zeroised then 0x07
  else if type ≠ 2 ∧ mmkActive s = false then 0x06
  else if s.lc.idKill = true ∨ s.lc.devFp = none ∨ beAt b 8 32 ≠ deviceFpr s then 0x09
  else match o with
    | none => 0x0A
    | some o =>
      if bit o.roles (if type = 2 then 1 else 2) = false then 0x0A
      else if !Config.mldsaVerify o.pubKey (Config.sha3 (b.take (b.length - 4627))) (ofBe (b.drop (b.length - 4627))) then 0x0B
      else if beAt b 0x48 8 ≤ o.lastBseq then 0x0C
      else if beAt b 0x60 8 ≠ 0 ∧ (s.ptp.st = .freerun ∨ s.ptp.st = .acquiring ∨ beAt b 0x60 8 < s.ptp.sec) then 0x0D
      else match kemSeedOf s.firn with
        | none => 0x0E
        | some seed => if beAt b 0x28 32 ≠ Config.kemFp seed then 0x0E else 0

/-- A transient key in a WRAP slot of its own, in place of the one it held (R156, R178). -/
def loadTransient (s : State) (n key : Nat) : State := loadSlot (dropSlots s (fun x => x.holds == .transient n)) (.transient n) 2 0 0 key false

/-- The steps of R179 on the entries of a bundle whose header holds, under its payload key: the state after them and the status. -/
def bundleEntriesLoad (s : State) (b : List Byte) (pk : Nat) : State × Nat :=
    let type := beAt b 6 1
    let signer := beAt b 0x50 1
    let count := beAt b 0x52 2
    let es := bundleEntries b
    let r := checkEntries s type pk signer count es [] []
    if r.1 ≠ 0 then (s, r.1)
    else if beAt b 0x58 8 ≠ 0 ∧ 65536 ≤ s.firn.schedule.length then (s, 0x11)
    else match (es.zip r.2).foldl (applyEntry type (beAt b 0x68 4) (beAt b 0x54 4) signer) (some s) with
      | none => (s, 0x11)
      | some s =>
        let s := { s with tamper := { s.tamper with
          officers := s.tamper.officers.map (fun o => if o.index = signer then { o with lastBseq := beAt b 0x48 8 } else o) } }
        let s := if beAt b 0x58 8 ≠ 0 ∧ type = 1 then
            { s with firn := { s.firn with schedule := s.firn.schedule ++ [⟨beAt b 0x58 8, es.map (fun e => e.target), none, true⟩] } }
          else s
        (s, 0)

/-- The whole of R179 on a bundle: the state after it and its status. The payload key sits in a transient WRAP slot, zeroised at the end
(R178). -/
def bundleLoad (s : State) (b : List Byte) : State × Nat :=
  let h := bundleHeader s b
  if h ≠ 0 then (s, h)
  else
    let pk := Config.kmac256 (Config.kemDecaps ((kemSeedOf s.firn).getD 0) (beAt b 0x70 1568)) (b.take 0x70) 256 "KX5120 KB"
    let r := bundleEntriesLoad (loadTransient s 0 pk) b pk
    (dropSlots r.1 (fun x => x.holds == .transient 0), r.2)

/-- The KEY_BUNDLE record of a bundle, short of its status (R180). -/
def bundleWords (b : List Byte) : List Nat := [beAt b 0x50 1] ++ words64 (beAt b 0x48 8) ++ [beAt b 0x68 4]

/-- The contexts that a bundle stages. -/
def bundleTargets (b : List Byte) : List Nat := if beAt b 6 1 = 1 then (bundleEntries b).map (fun e => e.target) else []

/-- BUNDLE_LOAD with its KEY_BUNDLE record (R179, R180): at once for a refused bundle, at its end for an accepted one, whose changes are one
journal record (R173). -/
def bundleCommand (s : State) (b : List Byte) : State × MbxRes :=
  let s := if bundleBad b then s else ltuServe s
  let r := bundleLoad s b
  if r.2 ≠ 0 then (record r.1 0x0500 0x6 0 (bundleWords b ++ [r.2]), MbxRes.refuse r.2)
  else
    let (items, t) := journalTake r.1 s.journal.length
    (t, MbxRes.durable ([JItem.bundle (bundleWords b), .officers t.tamper.officers, .sched t.firn.schedule] ++ items
      ++ (bundleTargets b).flatMap (ctxItem t)))

/-- A bundle that the low-power hold or the life-cycle state refuses has its record too (R180). -/
def bundleBarred (s : State) (b : List Byte) : State :=
  if mbxReady s && (s.pwc.lpHold || (lcBar s 0x40).isSome) then record s 0x0500 0x6 0 (bundleWords b ++ [0x02]) else s

/-- BUNDLE_LOAD (R171, R179). -/
def execBundleLoad (sl : Slot) (b : List Byte) (s : State) : Host.Outcome State Fault Refusal :=
  .next (if (bundleTargets b).any (keyBusy s) then s else mbxRun (bundleBarred s b) sl 0x40 (some 0x02) (fun s => bundleCommand s b))

/-! ### GDOI (R181, R182) -/

/-- GDOI_MAP (R182): at most 64 groups of 16 keys (R181). -/
def gdoiMap (s : State) (group kid : Nat) (ctxs : List Nat) (overlap : Nat) : State × MbxRes :=
  let rest := s.firn.gdoi.filter (fun m => !(m.group == group && m.kid == kid))
  if overlapMax < overlap ∨ ctxs.isEmpty then (s, MbxRes.refuse 0x08)
  else if ctxs.any (fun i => (liveCtx s i).isNone) then (s, MbxRes.refuse 0x10)
  else if 64 ≤ ((rest.filter (fun m => m.group != group)).map (fun m => m.group)).eraseDups.length
      ∨ 16 ≤ (rest.filter (fun m => m.group == group)).length then (s, MbxRes.refuse 0x11)
  else
    let l := rest ++ [⟨group, kid, ctxs, overlap⟩]
    ({ s with firn := { s.firn with gdoi := l } }, MbxRes.durable [.gdoi l])

/-- GDOI_MAP (R182). -/
def execGdoiMap (sl : Slot) (group kid : Nat) (ctxs : List Nat) (overlap : Nat) (s : State) : Host.Outcome State Fault Refusal :=
  .next (keyRun s sl 0x49 (fun s => gdoiMap s group kid ctxs overlap))

/-- One context staged with a GDOI traffic key: a blob of its own attribute, its KCV computed by the module (R182). -/
def gdoiStage (ktype kid key overlap : Nat) (s : Option State) (i : Nat) : Option State :=
  match s with
  | none => none
  | some s =>
    match getCtx s i with
    | none => some s
    | some c =>
      let attr := if c.pubDir then 0 else 1
      let kcv := kcvOf key kid ktype attr
      (makeBlob s c.slice attr ktype kid kcv key 0).map (fun r => stageKey r.2 i 0 r.1 kid kcv overlap 0)

/-- The contexts that GDOI_MAP lists for the traffic key of a message. -/
def gdoiTargets (s : State) (m : GdoiIn) : List Nat :=
  match m.kid.bind (fun kid => s.firn.gdoi.find? (fun g => g.group == m.group && g.kid == kid)) with
  | some g => g.ctxs
  | none => []

/-- A received traffic key (R182): staged into every mapped context, or into none with a GDOI_STAGE record. -/
def gdoiKeyIn (s : State) (m : GdoiIn) (kid key : Nat) : State × MbxRes :=
  match s.firn.gdoi.find? (fun g => g.group == m.group && g.kid == kid) with
  | none => (s, MbxRes.ok)
  | some g =>
    let bad := g.ctxs.find? (fun i => match liveCtx s i with
      | some c => !keyFits c (if c.pubDir then 0 else 1) m.ktype || stageState s c != 0
      | none => true)
    match bad with
    | some i => (record s 0x0506 0x6 0 [m.group, kid, i], MbxRes.ok)
    | none =>
      if m.activate ≠ 0 ∧ 65536 ≤ s.firn.schedule.length then (s, MbxRes.refuse 0x11)
      else match g.ctxs.foldl (gdoiStage m.ktype kid key g.overlap) (some s) with
        | none => (s, MbxRes.refuse 0x11)
        | some t =>
          let (items, t) := journalTake t s.journal.length
          let t := if m.activate = 0 then t
            else { t with firn := { t.firn with schedule := t.firn.schedule ++ [⟨m.activate, g.ctxs, none, true⟩] } }
          (t, MbxRes.durable ([JItem.sched t.firn.schedule] ++ items ++ g.ctxs.flatMap (ctxItem t)))

/-- The group KEK in its transient WRAP slot (R156, R181, R182). -/
def kekOf (s : State) (group : Nat) : Option Nat := (resident s (.transient (group + 1))).bind (fun n => (getSlot s n).map (fun x => x.key))

/-- The private member key (R181); 0 where none has been generated. -/
def memberKey (s : State) : Nat :=
  match activeRec s.firn, s.firn.member with
  | some r, some k => (Config.kwpUnwrap r.mmk k).getD 0
  | _, _ => 0

/-- The member key generated at the first registration, and kept wrapped under the master key (R181). -/
def gdoiMember (s : State) (n : Nat) : State :=
  match s.firn.member, activeRec s.firn with
  | none, some r =>
    let k := some (Config.kwpWrap r.mmk (n / 2 ^ 384 % 2 ^ 384))
    journalAdd { s with firn := { s.firn with member := k } } [.member k]
  | _, _ => s

/-- What the library says to the services that an exchange needs, in their order (R207): the first status that is not 0, or that of a unit
that cannot serve (R209). -/
def gdoiLib (s : State) (l : List LibCall) : State × Nat :=
  if l.isEmpty then (s, 0)
  else
    let s := liuWake s
    if s.liu.st = .aborted then (s, 0x0B)
    else if s.liu.st = .fault then (s, 0x0A)
    else match l.find? (fun c => libStatus c != 0) with
      | some c => (if libStatus c = 0x0A then s else libReject s (libService c) (libStatus c), libStatus c)
      | none => (s, 0)

/-- A GDOI message with the bytes of Flurry that a registration takes (R181, R182, R207): an outgoing one is returned; a push that does not
authenticate under the group KEK or whose sequence is not above the last is dropped. -/
def gdoiGo (s : State) (m : GdoiIn) (n : Nat) : State × MbxRes :=
  let s := if m.registration then gdoiMember s n else s
  let r := gdoiLib s m.lib
  let s := r.1
  let kek := if m.registration then some n else kekOf s m.group
  if r.2 ≠ 0 then (s, MbxRes.refuse 0x08 r.2)
  else if m.outward then (s, MbxRes.ok 0 (Config.gdoiOut m.group (memberKey s) n))
  else match m.authentic, kek with
    | true, some k =>
      if !m.registration && decide (m.seq ≤ smapGet (fun _ => 0) s.firn.gdoiSeq m.group) then (s, MbxRes.refuse 0x0C)
      else
        let s := if m.registration then s else { s with firn := { s.firn with gdoiSeq := smapSet (fun _ => 0) s.firn.gdoiSeq m.group m.seq } }
        let s := match m.kek with | some b => loadTransient s (m.group + 1) (Config.gdoiKey k b) | none => s
        match m.kid with
        | none => (s, MbxRes.ok)
        | some kid => gdoiKeyIn s m kid (Config.gdoiKey k m.key)
    | _, _ => (s, MbxRes.refuse 0x08)

/-- GDOI_MSG (R181, R182, R399, R403): registration takes bytes of Flurry and stops without them. -/
def gdoiMsg (s : State) (sl : Slot) (m : GdoiIn) : State × MbxRes :=
  if mmkActive s = false then (s, MbxRes.refuse 0x06)
  else if m.registration then
    match rngAsk s 96 (.gdoi sl m) with
    | .now n s => gdoiGo s m n
    | .later s => (s, MbxRes.later)
    | .refused => (s, MbxRes.refuse 0x13)
  else gdoiGo s m 0

/-- GDOI_MSG (R171, R181). -/
def execGdoiMsg (sl : Slot) (m : GdoiIn) (s : State) : Host.Outcome State Fault Refusal :=
  .next (if (gdoiTargets s m).any (keyBusy s) then s else keyRun s sl 0x4A (fun s => gdoiMsg s sl m))

end Sys2Proof.Machine
end

