-- ==== Sys2Proof/Machine/Slices.lean ====
section
/-! DEFINITION. Machine/Slices.lean: doorbells, transmit fetch, read errors, the function's resets, the manager's indices, and the slice
commands (R304 to R325, R328, R329). -/
namespace Sys2Proof.Machine

/-! ### Doorbells (R318, R319) -/

/-- A doorbell write reaches an ACTIVE slice while the function is up (R308). -/
def doorbellOpen (s : State) (i : Nat) : Bool := (getSlice s i).st == .active && s.boot.access == .full && !s.hostIf.perst

/-- A doorbell write ignored with DBERR (R318). -/
def doorbellBad (s : State) (i : Nat) : State := slmDbErr (modSlice s i (fun x => { x with dbErr := true }))

/-- DB_STATUS (R318). -/
def dbStatus (x : Slice) : Word := pack [(x.st.code, 29), (bnat x.dbErr, 28), (bnat x.noticeLost, 27), (bnat x.log, 26)]

/-- What a read of the doorbell page of a slice returns (R37, R318). -/
def doorbellWord (x : Slice) (o : Nat) : Word :=
  match o with
  | 0x00C => dbStatus x
  | 0x010 => w32 x.txHead
  | 0x014 => w32 x.rxHead
  | 0x018 => x.rxDrop
  | 0x01C => x.txDrop
  | _ => 0

/-- DB_TXTAIL (R318). -/
def execDbTxtail (slice : Fin 1024) (v : Word) (s : State) : Host.Outcome State Fault Refusal :=
  .next (if doorbellOpen s slice then
      if fld v 15 0 < 2 ^ (getSlice s slice).txLog then modSlice s slice (fun x => { x with txTail := fld v 15 0 }) else doorbellBad s slice
    else s)

/-- DB_RXTAIL (R318). -/
def execDbRxtail (slice : Fin 1024) (v : Word) (s : State) : Host.Outcome State Fault Refusal :=
  .next (if doorbellOpen s slice then
      if fld v 15 0 < 2 ^ (getSlice s slice).rxLog then modSlice s slice (fun x => { x with rxTail := fld v 15 0 }) else doorbellBad s slice
    else s)

/-- The consumer index of the completion queue does not pass the last entry written (R318). -/
def cqHeadOk (x : Slice) (ix : Nat) : Bool :=
  decide (ix < 2 ^ x.cqLog) && decide ((ix + 2 ^ x.cqLog - x.cqHead) % 2 ^ x.cqLog ≤ x.cqUsed)

/-- DB_CQHEAD (R318, R319). -/
def execDbCqhead (slice : Fin 1024) (v : Word) (s : State) : Host.Outcome State Fault Refusal :=
  .next (if doorbellOpen s slice then
      if cqHeadOk (getSlice s slice) (fld v 15 0) then
        modSlice s slice (fun x => { x with cqHead := fld v 15 0, armed := x.armed || fld v 31 31 == 1 })
      else doorbellBad s slice
    else s)

/-- SLICE_IRQ_DELAY (R319): IRQDELAY is up, and an armed slice whose entry waited for it sends its vector. -/
def execSliceIrqDelay (slice : Fin 1024) (s : State) : Host.Outcome State Fault Refusal :=
  .next (let x := getSlice s slice
    if x.armed && x.irqDue then
      sendMsix (setSlice s slice { x with armed := false, irqDue := false, lastMsg := some s.boot.now }) (32 + slice)
    else s)

/-! ### Transmit fetch (R280, R314, R315) -/

/-- The slice has a descriptor to fetch and an entry to reserve (R315, R316). -/
def Slice.fetchable (x : Slice) : Bool := x.st == .active && x.rings && decide (0 < x.txPosted) && decide (0 < x.cqFree)

/-- The next slice of the rotation with a descriptor to fetch (R315). -/
def nextFetch (s : State) : Option Nat :=
  let l := (s.slices.filter (fun e => e.2.fetchable)).map (·.1)
  match l.find? (fun i => decide (s.hostIf.rotor < i)) with
  | some i => some i
  | none => l.head?

/-- The context that a descriptor of a slice may publish through: a publisher of the slice without a BITW entry (R88, R112, R315). -/
def descCtx (s : State) (i ctx : Nat) : Option Ctx :=
  match getCtx s ctx with
  | some c => if c.pubDir && c.slice == i && !classified s ctx && c.removing.isNone then some c else none
  | none => none

/-- A descriptor refused with DESC_ERR (R315): a reserved bit, LEN below 60, or a frame beyond 1,522 bytes. -/
def descBad (d : TxDescIn) (added : Nat) : Bool := d.rsvd || decide (d.len < 60) || decide (1522 < d.len + added + 4)

/-- A wait for transmit-reserve cells (R280). -/
def txWait (s : State) : State := setEvt (incReg s 0xA0030) 0xA0 1

/-- The next descriptor of the rotation is read (R315). -/
def fetchSlice (s : State) (d : TxDescIn) : State :=
  match nextFetch s with
  | none => s
  | some i =>
    if s.pool.txFree < cellsFor (d.len + 4) then txWait s
    else
      let s := { s with hostIf := { s.hostIf with rotor := i } }
      let s := modSlice s i (fun x => { x with txHead := (x.txHead + 1) % 2 ^ x.txLog, cqResv := x.cqResv + 1 })
      let added := match descCtx s i d.ctx with | some c => extAdded c.kind c.alg | none => 0
      if descBad d added then txComplete s (.desc (some i) d.tag) 0 0 (d.ctx % 2 ^ 18) 0x61 4
      else match descCtx s i d.ctx with
        | none =>
          let s := match getCtx s d.ctx with
            | some c => if c.slice = i then setCtx s d.ctx (some c.failFrame) else s
            | none => s
          txComplete s (.desc (some i) d.tag) 0 0 (d.ctx % 2 ^ 18) 0x64 4
        | some _ => modSlice s i (fun x => { x with fetched := x.fetched ++ [⟨d.addr, d.len, d.ctx, d.tck, d.tnk, d.tag⟩] })

/-- A descriptor of manager ring 2 or 3 is read (R323): CTX [3:0] names ports, and is 0 on ring 2. -/
def fetchManager (s : State) (ring : Nat) (d : TxDescIn) : State :=
  if mrRuns s ring && decide (0 < mrAvail s ring) && mrRuns s 4 && decide (s.hostIf.mfetched.length < mrAvail s 4) then
    if s.pool.txFree < cellsFor (d.len + 4) then txWait s
    else
      let s := mrAdvance s ring
      if descBad d 0 || decide (16 ≤ d.ctx) || (ring == 2 && d.ctx != 0) then mgrCq s 0 1 0 ring d.tag 0x61 4
      else { s with hostIf := { s.hostIf with mfetched := s.hostIf.mfetched ++ [(ring, ⟨d.addr, d.len, d.ctx, d.tck, d.tnk, d.tag⟩)] } }
  else s

/-- DESCRIPTOR_FETCH (R315). -/
def execDescriptorFetch (src : FetchSrc) (d : TxDescIn) (s : State) : Host.Outcome State Fault Refusal :=
  .next (match src with
    | .slices => fetchSlice s d
    | .mgmtRing => fetchManager s 2 d
    | .rawRing => fetchManager s 3 d)

/-- A published frame whose source fields or own extension R88 refuses, or whose addresses R315 refuses. -/
def pubSpoof (c : Ctx) (f : Frame) : Bool := !identOk c f || f.ext.isSome || !routedOk c f

/-- A slice's frame has been read: SPOOF, or a frame of its pillow's publish queue with cells of the transmit reserve (R88, R280). -/
def txFrame (s : State) (i : Nat) (f : Frame) : State :=
  let x := getSlice s i
  match x.fetched with
  | [] => s
  | d :: rest =>
    let drop := fun (s : State) => setSlice s i { getSlice s i with fetched := rest }
    if !(x.st == .active || x.st == .quiescing) then s
    else match descCtx s i d.ctx with
      | none => txComplete (drop s) (.desc (some i) d.tag) 0 0 d.ctx 0x64 1
      | some c =>
        if pubSpoof c f then txComplete (setCtx (drop s) d.ctx (some c.failFrame)) (.desc (some i) d.tag) 0 0 d.ctx 0x64 1
        else
          let cells := cellsFor (f.bytes.length + extAdded c.kind c.alg + 4)
          if s.pool.txFree < cells then txWait s
          else
            let s := claimTx (drop s) cells
            let o := (getPil s c.home).order
            let s := modPil s c.home (fun p => { p with order := o + 1 })
            let r := { FrameRec.fresh f (.desc (some i) d.tag) (ptpNow s) (some d.ctx) c.home cells o c.prio with rxDone := true, tck := d.tck, tnk := d.tnk }
            (addFrame s r).2

/-- A raw frame that the manager may not send (R323): the forms of the stream pipeline, PTP, supervision, HSR, and UDP port 102. -/
def rawSpoof (f : Frame) : Bool := f.form != .other || f.hsrTagged || f.udpPort == 102

/-- A manager's frame has been read: to the management port, or raw to process-bus ports at priority 3 (R127, R323). -/
def txManager (s : State) (ring : Nat) (f : Frame) : State :=
  match takeFirst (fun e => e.1 == ring) s.hostIf.mfetched with
  | none => s
  | some ((_, d), rest) =>
    let drop := fun (s : State) => { s with hostIf := { s.hostIf with mfetched := rest } }
    if ring = 2 then mgrCq (drop s) (ptpNow s) 1 0 2 d.tag 0x01 0
    else if rawSpoof f then mgrCq (drop s) 0 1 0 3 d.tag 0x64 1
    else
      let cells := cellsFor (f.bytes.length + 4)
      if s.pool.txFree < cells then txWait s
      else
        let s := claimTx (drop s) cells
        let mask := egressMask s d.ctx
        let (h, s) := addFrame s { FrameRec.fresh f (.desc none d.tag) (ptpNow s) none 0 cells 0 false with stage := .verdict, rxDone := true }
        let s := takeSeq s h mask
        let (s, took) := enqueueMask s mask 3 h
        let s := modFrame s h (fun r => { r with egress := took, consumers := 1 })
        if took = 0 then freeFrame (mgrCq s 0 1 0 3 d.tag 0xA1 2) h else s

/-- TX_FRAME_RECEIVED (R88). -/
def execTxFrameReceived (src : FetchSrc) (slice : Fin 1024) (f : Frame) (s : State) : Host.Outcome State Fault Refusal :=
  .next (match src with
    | .slices => txFrame s slice f
    | .mgmtRing => txManager s 2 f
    | .rawRing => txManager s 3 f)

/-! ### Reads that fail (R304, R320, R329) -/

/-- SLS_ERRINFO of a cause and a ring. -/
def errInfo (cause : Nat) (ring : ReadRing) : Word :=
  pack [(1, 31), (cause, 28), (match ring with | .transmit => 0 | .buffers => 1 | .frame => 2, 26)]

/-- Every descriptor fetched whose frame has not arrived ends without an entry, counted (R311, R320). -/
def dropFetched (s : State) (i : Nat) : State :=
  let n := (getSlice s i).fetched.length
  modSlice s i (fun x => { x with fetched := [], cqResv := x.cqResv - n, txDrop := satAdd x.txDrop n })

/-- The deliveries that a slice has begun end without their head words, so that their buffers keep DONE 0 (R307, R320). -/
def abandonDeliveries (s : State) (i : Nat) : State :=
  let mine := (frameList s).filter (fun e => match e.2.delivery with | some d => d.slice == i && !d.head | none => false)
  let s := mine.foldl (fun s e => setFrame s e.1 (some { e.2 with delivery := none, rxDropped := true })) s
  modSlice s i (fun x => { x with inFlight := 0, cqResv := x.cqResv - mine.length })

/-- A failing read of a slice or of the manager's rings (R320). -/
def readFails (s : State) (o : ReadOwner) (ring : ReadRing) (cause : Nat) : State :=
  match o with
  | .manager => setEvt { s with hostIf := { s.hostIf with mgrStop := 31 } } 0xC0 1
  | .slice i =>
    let x := getSlice s i
    if x.st = .active ∨ x.st = .quiescing then
      let s := match ring with
        | .frame => dropFetched s i
        | .transmit => txDrop (dropFetched s i) i
        | .buffers => rxDrop (dropFetched s i) i 0
      let w := errInfo cause ring
      let s := if x.st = .active then abandonDeliveries s i else s
      let s := modSlice s i (fun x => { x with errInfo := w, st := if x.st = .active then .fault else x.st })
      record (setEvt s 0xC0 0) 0x0423 0xB i [w.toNat]
    else s

/-- HOST_READ_ERROR (R320). -/
def execHostReadError (owner : ReadOwner) (ring : ReadRing) (err : ReadError) (s : State) : Host.Outcome State Fault Refusal :=
  .next (match err with
    | .unsupported => readFails (incReg s 0xC1038) owner ring 1
    | .abort => readFails (incReg s 0xC1038) owner ring 2
    | .poisoned => readFails (incReg s 0xC103C) owner ring 4)

/-- COMPLETION_TIMEOUT (R304). -/
def execCompletionTimeout (owner : ReadOwner) (ring : ReadRing) (s : State) : Host.Outcome State Fault Refusal :=
  .next (readFails (incReg s 0xC1034) owner ring 3)

/-! ### Resets of the function (R307) -/

/-- A page's ring registers at their reset values, with the reference CRC that goes with them (R307). -/
def ringPageReset (s : State) (p : Nat) : State :=
  let s := { s with regs := s.regs.filter (fun e => e.1 / 0x1000 != p) }
  modPage s p (fun g => { g with cfgRef := (pageInit p).cfgRef, cfgCrc := (pageInit p).cfgCrc })

/-- Every slice that is not FREE is QUIESCED with its rings forgotten (R307, R309). -/
def forgetRings (s : State) : State :=
  s.slices.foldl (fun s e =>
    if e.2.st = .free then s
    else modSlice (abandonDeliveries (dropFetched s e.1) e.1) e.1 (fun x => { x with st := .quiesced, rings := false, quiesce := none, abandoned := false })) s

/-- A service that waits for randomness, its completion discarded (R307). -/
def CcNeed.discard : CcNeed → CcNeed
  | .ltuSign => .ltuSign
  | .attest sl n => .attest (discardSlot sl) n
  | .kemGenerate sl x => .kemGenerate (discardSlot sl) x
  | .logSeal sl a b n => .logSeal (discardSlot sl) a b n
  | .ceremonyOpen sl c i b => .ceremonyOpen (discardSlot sl) c i b
  | .gdoi sl m => .gdoi (discardSlot sl) m

/-- Completions of the commands in progress are discarded; the commands run to their end (R307). -/
def discardCompletions (s : State) : State :=
  { s with
    journal := s.journal.map (fun r => { r with done := r.done.map (fun d => { d with slot := discardSlot d.slot }) })
    firn := { s.firn with stageCmds := [], commitCmds := [] }
    pillows := s.pillows.map (fun (e : Nat × Pillow) => (e.1, { e.2 with cmd := none }))
    rng := { s.rng with
      waiting := s.rng.waiting.map (fun r => { r with need := r.need.map CcNeed.discard })
      given := s.rng.given.map (fun e => (e.1.discard, e.2)) }
    ctxs := s.ctxs.map (fun (e : Nat × Option Ctx) => (e.1, e.2.map (fun c => { c with removing := c.removing.map (fun r => (discardSlot r.1, r.2)) })))
    tamper := { s.tamper with cerSlot := s.tamper.cerSlot.map discardSlot }
    pair := { s.pair with cmd := s.pair.cmd.map discardSlot, ackWait := [] } }

/-- The descriptors of the frames on their way complete no more: their rings are forgotten (R307). -/
def forgetDescs (s : State) : State :=
  (frameList s).foldl (fun s e => match e.2.src with
    | .desc o tag => if tag < 2 ^ 16 then setFrame s e.1 (some { e.2 with src := .desc o (tag + 2 ^ 16) }) else s
    | .port _ => s) s

/-- The effects of a Function Level Reset, a link-down event and the L2 state (R307). -/
def functionReset (s : State) : State :=
  let s := discardCompletions (forgetRings (forgetDescs (ringPageReset (ringPageReset s 0xC0) 0x140)))
  { s with hostIf := { s.hostIf with
      pasidEn := false, mring := [], mgrStop := 0, mgrArmed := false, crHead := 0, ccTail := 0, ccPhase := true, mbxArmed := false, mfetched := [] } }

/-- PCIE_FUNCTION_RESET (R307): the three events act alike. -/
def execPcieFunctionReset (kind : PcieReset) (s : State) : Host.Outcome State Fault Refusal :=
  .next (match kind with | .flr => functionReset s | .linkDown => functionReset s | .l2 => functionReset s)

/-- SLM_LINK (R328). -/
def slmLink (s : State) : Word := pack [(bnat s.hostIf.linkUp, 31), (s.hostIf.linkGen, 28), (s.hostIf.linkWidth, 24)]

/-- The link's state as reported: LINKCHG at every change, SLM_LINKDOWNS at every fall, SLM_RECOVERY (R328, R329). A link that is up has a
Gen5, Gen4 or Gen3 rate and 4 or 8 lanes (R304); with it the host enables PASIDs (log entry 30). -/
def pcieLinkReport (s : State) (up : Bool) (gen width : Nat) (recovery : Bool) : State :=
  let good := (gen == 3 || gen == 4 || gen == 5) && (width == 4 || width == 8)
  let old := slmLink s
  let s := if recovery then incReg s 0xC1024 else s
  if up && !good then s
  else
    let s := if s.hostIf.linkUp && !up then incReg s 0xC1020 else s
    let s := { s with hostIf := { s.hostIf with
      linkUp := up, linkGen := if up then gen else 0, linkWidth := if up then width else 0, pasidEn := s.hostIf.pasidEn || up } }
    if slmLink s = old then s else setEvt s 0xC0 2

/-- PCIE_LINK_CHANGE (R328). -/
def execPcieLinkChange (up : Bool) (gen width : Nat) (recovery : Bool) (s : State) : Host.Outcome State Fault Refusal :=
  .next (if s.hostIf.perst || !s.pwc.pcie || (up && !bit s.pwc.clkOk 1) then s else pcieLinkReport s up gen width recovery)

/-! ### Mailbox and manager indices (R324, R328) -/

/-- The status of a code that is no command of its own: the dual-control status of its family for an inner command posted directly (R369,
R393), else 0x08 in 0x40 to 0x4F and 0x01 anywhere else (R324). -/
def unknownStatus (code : Nat) : Nat :=
  if code = 0x47 then 0x12
  else if code = 0x86 ∨ code = 0x87 ∨ code = 0x88 then 0x0F
  else if code = 0x92 ∨ code = 0x93 then 0x07
  else if 0x40 ≤ code ∧ code ≤ 0x4F then 8 else 1

/-- MBX_CRTAIL (R324): the producer index moves; where the slot it leads to carries no command's code, or the code of an inner command
(R369), that slot ends at once. -/
def execMbxCrtail (by_ : Party) (v : Word) (other : Option (Nat × Slot)) (s : State) : Host.Outcome State Fault Refusal :=
  .next (let s := barWrite s by_ 4 0x140034 v (fun s => storeReg s 0x140034 v)
    match other with
    | some (code, sl) => mbxRun s sl code none (fun s => (s, MbxRes.refuse (unknownStatus code)))
    | none => s)

/-- MBX_CCHEAD (R324). -/
def execMbxCchead (by_ : Party) (v : Word) (s : State) : Host.Outcome State Fault Refusal :=
  .next (barWrite s by_ 4 0x14003C v (fun s =>
    let s := storeReg s 0x14003C v
    if fld v 31 31 = 1 then { s with hostIf := { s.hostIf with mbxArmed := true } } else s))

/-- MANAGER_RING_INDEX (R328). -/
def execManagerRingIndex (by_ : Party) (ring : Fin 5) (v : Word) (s : State) : Host.Outcome State Fault Refusal :=
  .next (barWrite s by_ 4 (0xC004C + 0x10 * ring) v (fun s =>
    let s := storeReg s (0xC004C + 0x10 * ring) v
    if ring = 4 ∧ fld v 31 31 = 1 then { s with hostIf := { s.hostIf with mgrArmed := true } } else s))

/-! ### Slice commands (R308 to R313, R321, R322, R325) -/

/-- The number at an offset of a parameter block, little-endian. -/
def leOf (b : List Byte) (off n : Nat) : Nat := ofLe (slice b off n)

/-- Every byte of a range is 0. -/
def zeroOf (b : List Byte) (off n : Nat) : Bool := (slice b off n).all (· == 0)

def logBad (n : Nat) : Bool := decide (n < 6) || decide (16 < n)

/-- A slice parameter block with a reserved value or a misalignment (R313). -/
def sliceBlockBad (b : List Byte) : Bool :=
  b.length != 64 || decide (1024 ≤ leOf b 0 2) || leOf b 2 2 != 0 || leOf b 4 4 == 0 || decide (2 ^ 20 ≤ leOf b 4 4)
    || leOf b 0x08 8 % 64 != 0 || leOf b 0x10 8 % 64 != 0 || leOf b 0x18 8 % 64 != 0
    || logBad (leOf b 0x20 1) || logBad (leOf b 0x21 1) || logBad (leOf b 0x22 1) || decide (1 < leOf b 0x23 1)
    || decide (leOf b 0x24 2 < 128) || decide (2048 < leOf b 0x24 2) || leOf b 0x24 2 % 64 != 0 || leOf b 0x26 2 == 0 || !zeroOf b 0x29 23

/-- A slice as a parameter block sets it: ACTIVE, indices 0, phase 1; counters and logging stay as they are. -/
def sliceOf (x : Slice) (b : List Byte) : Slice :=
  { x with
    st := .active, pasid := leOf b 4 4, rings := true, txBase := leOf b 0x08 8, rxBase := leOf b 0x10 8, cqBase := leOf b 0x18 8,
    txLog := leOf b 0x20 1, rxLog := leOf b 0x21 1, cqLog := leOf b 0x22 1, early := leOf b 0x23 1 == 1, bufSz := leOf b 0x24 2,
    maxCtx := leOf b 0x26 2, irqDelay := leOf b 0x28 1, txTail := 0, txHead := 0, rxTail := 0, rxHead := 0, cqTail := 0, cqHead := 0,
    cqResv := 0, phase := true, armed := false, irqDue := false, lastMsg := none, dbErr := false, noticeLost := false, fetched := [],
    inFlight := 0 }

/-- A PASID that another slice holds. -/
def pasidUsed (s : State) (i pasid : Nat) : Bool := s.slices.any (fun e => e.1 != i && e.2.st != .free && e.2.pasid == pasid)

/-- SLICE_CREATE (R312, R313). -/
def sliceCreate (s : State) (b : List Byte) : State × MbxRes :=
  let i := leOf b 0 2
  if sliceBlockBad b then (s, MbxRes.refuse 1)
  else if (getSlice s i).st ≠ .free then (s, MbxRes.refuse 2)
  else if s.hostIf.pasidEn = false then (s, MbxRes.refuse 4)
  else if pasidUsed s i (leOf b 4 4) then (s, MbxRes.refuse 3)
  else if 262144 < s.slices.foldl (fun a e => a + e.2.maxCtx) 0 + leOf b 0x26 2 then (s, MbxRes.refuse 5)
  else
    let x := sliceOf Slice.free b
    let s := setSlice s i x
    (if mmkActive s then deriveWk s i else s, MbxRes.durable [.slice i (some x)])

/-- SLICE_CREATE (R313). -/
def execSliceCreate (sl : Slot) (block : List Byte) (s : State) : Host.Outcome State Fault Refusal :=
  .next (if sliceBusy s (leOf block 0 2) then s else mbxRun s sl 0x10 (some 2) (fun s => sliceCreate s block))

/-- SLICE_QUIESCE (R309, R311): a faulted slice is QUIESCED at once, an ACTIVE one drains. -/
def sliceQuiesce (s : State) (sl : Slot) (i : Nat) : State × MbxRes :=
  if 1024 ≤ i then (s, MbxRes.refuse 1)
  else match (getSlice s i).st with
    | .free => (s, MbxRes.refuse 7)
    | .fault => (modSlice s i (fun x => { x with st := .quiesced }), MbxRes.ok)
    | .active => (notice (modSlice s i (fun x => { x with st := .quiescing, quiesce := some sl, abandoned := false })) i 0 0x07 0, MbxRes.later)
    | .quiescing | .quiesced => (s, MbxRes.refuse 2)

/-- SLICE_QUIESCE (R311). -/
def execSliceQuiesce (sl : Slot) (slice : Nat) (s : State) : Host.Outcome State Fault Refusal :=
  .next (if sliceBusy s slice then s else mbxRun s sl 0x11 (some 2) (fun s => sliceQuiesce s sl slice))

/-- Published frames of a slice whose descriptors have not completed. -/
def sliceSending (s : State) (i : Nat) : Bool :=
  (frameList s).any (fun e => match e.2.src with | .desc (some j) _ => j == i && !e.2.txDone && e.2.stage != .done | _ => false)

/-- SLICE_DRAIN_COMPLETE (R311): no delivery and no descriptor is left, so the slice is QUIESCED and its command ends. -/
def drainComplete (s : State) (i : Nat) : State :=
  let x := getSlice s i
  if x.st = .quiescing ∧ x.inFlight = 0 ∧ x.fetched.isEmpty = true ∧ sliceSending s i = false then
    let s := setSlice s i { x with st := .quiesced, quiesce := none, abandoned := false }
    match x.quiesce with
    | some sl => mbxFinish s sl 0x11 (if x.abandoned then MbxRes.refuse 6 else MbxRes.ok)
    | none => s
  else s

/-- SLICE_DRAIN_COMPLETE (R311). -/
def execSliceDrainComplete (slice : Nat) (s : State) : Host.Outcome State Fault Refusal := .next (drainComplete s slice)

/-- QUIESCE_ABANDON (R311): reads still outstanding 100 µs after acceptance are abandoned, counted, and noted in SLS_ERRINFO. -/
def execQuiesceAbandon (slice : Nat) (s : State) : Host.Outcome State Fault Refusal :=
  .next (let x := getSlice s slice
    if x.st = .quiescing ∧ x.fetched.isEmpty = false then
      modSlice (dropFetched s slice) slice (fun x => { x with abandoned := true, errInfo := errInfo 5 .frame })
    else s)

/-- SLICE_RESUME (R309). -/
def execSliceResume (sl : Slot) (slice : Nat) (s : State) : Host.Outcome State Fault Refusal :=
  .next (if sliceBusy s slice then s else mbxRun s sl 0x12 (some 2) (fun s =>
    let x := getSlice s slice
    if 1024 ≤ slice then (s, MbxRes.refuse 1)
    else if x.st = .free then (s, MbxRes.refuse 7)
    else if x.st = .quiesced ∧ x.rings = true then (setSlice s slice { x with st := .active }, MbxRes.ok)
    else (s, MbxRes.refuse 2)))

/-- SLICE_RESET (R309, R313). -/
def sliceReset (s : State) (b : List Byte) : State × MbxRes :=
  let i := leOf b 0 2
  let x := getSlice s i
  if sliceBlockBad b then (s, MbxRes.refuse 1)
  else if x.st = .free then (s, MbxRes.refuse 7)
  else if x.st ≠ .quiesced then (s, MbxRes.refuse 2)
  else if x.maxCtx ≠ leOf b 0x26 2 then (s, MbxRes.refuse 1)
  else if s.hostIf.pasidEn = false then (s, MbxRes.refuse 4)
  else if pasidUsed s i (leOf b 4 4) then (s, MbxRes.refuse 3)
  else
    let y := sliceOf x b
    (slmDbErr (setSlice s i y), MbxRes.durable [.slice i (some y)])

/-- SLICE_RESET (R313). -/
def execSliceReset (sl : Slot) (block : List Byte) (s : State) : Host.Outcome State Fault Refusal :=
  .next (if sliceBusy s (leOf block 0 2) then s else mbxRun s sl 0x13 (some 2) (fun s => sliceReset s block))

/-- SLICE_REMOVE (R312): its contexts are removed under R61 without notices; with the last of them the slice goes. -/
def sliceRemove (s : State) (sl : Slot) (i : Nat) : State × MbxRes :=
  if 1024 ≤ i then (s, MbxRes.refuse 1)
  else if (getSlice s i).st = .free then (s, MbxRes.refuse 7)
  else if (getSlice s i).st ≠ .quiesced then (s, MbxRes.refuse 2)
  else
    let mine := ((ctxList s).filter (fun e => e.2.slice == i)).map (·.1)
    if mine.isEmpty then (finishSliceRemove s i sl, MbxRes.later)
    else
      let s := mine.foldl (fun s j => modCtx (unschedule (clearLookup s j) j) j (fun c => { c with removing := some (sl, 0x14) })) s
      (mine.foldl ctxSettle s, MbxRes.later)

/-- SLICE_REMOVE (R312). -/
def execSliceRemove (sl : Slot) (slice : Nat) (s : State) : Host.Outcome State Fault Refusal :=
  .next (if sliceHeld s slice then s else mbxRun s sl 0x14 (some 2) (fun s => sliceRemove s sl slice))

/-- SLICE_DIRTYLOG (R321): at most 8 slices log at once. -/
def sliceDirtylog (s : State) (i : Nat) (enable : Bool) (wbase pages bmaddr : Nat) : State × MbxRes :=
  let others := (s.slices.filter (fun e => e.1 != i && e.2.log)).length
  if 1024 ≤ i ∨ (enable = true ∧ (wbase % 4096 ≠ 0 ∨ pages = 0 ∨ 2 ^ 26 < pages ∨ bmaddr % 8 ≠ 0)) then (s, MbxRes.refuse 1)
  else if (getSlice s i).st = .free then (s, MbxRes.refuse 7)
  else if enable then
    if 8 ≤ others then (s, MbxRes.refuse 5)
    else (modSlice s i (fun x => { x with log := true, logBase := wbase, logPages := pages, bmAddr := bmaddr, dirty := [], outside := false }), MbxRes.ok)
  else (modSlice s i (fun x => { x with log := false, logBase := 0, logPages := 0, bmAddr := 0, dirty := [], outside := false }), MbxRes.ok)

/-- SLICE_DIRTYLOG (R321). -/
def execSliceDirtylog (sl : Slot) (slice : Nat) (enable : Bool) (wbase pages bmaddr : Nat) (s : State) : Host.Outcome State Fault Refusal :=
  .next (if sliceBusy s slice then s else mbxRun s sl 0x15 (some 2) (fun s => sliceDirtylog s slice enable wbase pages bmaddr))

/-- The dirty bitmap (R322): bit i of byte j stands for page 8·j + i. -/
def bitmapBytes (pages : Nat) (dirty : List Nat) : List Byte :=
  (List.range ((pages + 7) / 8)).map (fun j => b8 ((List.range 8).foldl (fun a i => a + (if dirty.contains (8 * j + i) then 2 ^ i else 0)) 0))

/-- DIRTY_HARVEST (R322): the shadow goes to BMADDR and is cleared; a slice that does not log is refused with STATE. -/
def dirtyHarvest (s : State) (i : Nat) : State × MbxRes :=
  let x := getSlice s i
  if 1024 ≤ i then (s, MbxRes.refuse 1)
  else if x.st = .free then (s, MbxRes.refuse 7)
  else if x.log = false then (s, MbxRes.refuse 2)
  else
    let s := managerWrite s x.bmAddr (bitmapBytes x.logPages x.dirty)
    (setSlice s i { x with dirty := [], outside := false }, MbxRes.ok (bnat x.outside))

/-- DIRTY_HARVEST (R322). -/
def execDirtyHarvest (sl : Slot) (slice : Nat) (s : State) : Host.Outcome State Fault Refusal :=
  .next (if sliceBusy s slice then s else mbxRun s sl 0x16 (some 2) (fun s => dirtyHarvest s slice))

/-- SLS_STATE (R329). -/
def Slice.word (x : Slice) : Word := pack [(x.st.code, 29), (bnat x.log, 28), (bnat x.dbErr, 27), (bnat x.noticeLost, 26), (x.pasid, 0)]

/-- SLICE_STATUS (R325). -/
def execSliceStatus (sl : Slot) (slice : Nat) (s : State) : Host.Outcome State Fault Refusal :=
  .next (if sliceBusy s slice then s else mbxRun s sl 0x17 none (fun s =>
    let x := getSlice s slice
    if 1024 ≤ slice then (s, MbxRes.refuse 1)
    else if x.st = .free then (s, MbxRes.refuse 7)
    else (s, MbxRes.ok x.word.toNat)))

end Sys2Proof.Machine
end

