-- ==== Sys2Proof/Machine/Contexts.lean ====
section
/-! DEFINITION. Machine/Contexts.lean: the context and balance-group commands (R55 to R61, R86, R212, R217, R220, R325 to R327, R474). -/
namespace Sys2Proof.Machine

/-! ### The context block (R326) -/

/-- The number at an offset in wire order. -/
def beOf (b : List Byte) (off n : Nat) : Nat := ofBe (slice b off n)

def blkCtrl (b : List Byte) : Word := w32 (leOf b 4 4)
def blkKind (b : List Byte) : Nat := fld (blkCtrl b) 30 28
def blkPub (b : List Byte) : Bool := fld (blkCtrl b) 27 27 == 1
def blkLookup (b : List Byte) : Bool := bit (leOf b 2 1) 6
def blkPlaus (b : List Byte) : Word := w32 (leOf b 0x14 4)
def blkBal (b : List Byte) : Bool := fld (blkPlaus b) 15 15 == 1
def blkGroup (b : List Byte) : Nat := fld (blkPlaus b) 31 20
def blkSmpRate (b : List Byte) : Nat := leOf b 0x0A 2

/-- CTRL and RATE as R6 and R60 judge them: reserved values, ALG 6 with layer 2 or without HOLD, SMPRATE. -/
def ctrlBad (ctrl : Word) (smpRate : Nat) : Bool :=
  let kind := fld ctrl 30 28
  let alg := fld ctrl 25 23
  fld ctrl 31 31 == 0 || fld ctrl 12 0 != 0 || decide (6 ≤ kind) || alg == 7 || (alg == 6 && (decide (kind ≤ 1) || fld ctrl 26 26 == 0))
    || (if kindSv kind then decide (smpRate < 1000) || decide (16000 < smpRate) else smpRate != 0)

/-- The lookup and identity fields of a block, reserved where its kind or direction does not use them. -/
def blockFieldsBad (b : List Byte) : Bool :=
  let routed := kindRouted (blkKind b)
  (if routed then leOf b 0x52 2 != 0 else !zeroOf b 0x36 10 || !zeroOf b 0x40 16 || leOf b 0x54 2 != 0)
    || decide (4096 ≤ leOf b 0x50 2) || leOf b 0x56 2 != 0
    || decide (4096 ≤ leOf b 0x5E 2) || !zeroOf b (0x63 + leOf b 0x62 1) (129 - leOf b 0x62 1)
    || (if blkPub b then leOf b 0x62 1 == 0 || decide (129 < leOf b 0x62 1) else !zeroOf b 0x58 6 || leOf b 0x62 1 != 0)

/-- Check 1 of R474: the block. -/
def ctxBlockBad (b : List Byte) : Bool :=
  let rpl := leOf b 0x10 4
  b.length != 256 || decide (1024 ≤ leOf b 0 2) || bits (leOf b 2 1) 5 4 != 0 || decide (4 ≤ leOf b 3 1)
    || ctrlBad (blkCtrl b) (blkSmpRate b) || decide (2 ^ 20 ≤ leOf b 0x0C 4)
    || (if kindSv (blkKind b) then rpl % 2 ^ 26 != 0 else rpl != 0) || fld (blkPlaus b) 10 8 != 0
    || leOf b 0x1C 4 == 0 || decide (1000000 < leOf b 0x1C 4)
    || (if leOf b 0x20 4 = 0xFFFFFFFF then leOf b 0x24 4 != 0 else bits (leOf b 0x20 4) 30 20 != 0)
    || !zeroOf b 0x28 8 || !zeroOf b 0xE4 28 || blockFieldsBad b || (!blkPub b && !blkLookup b)

/-- The lookup key of a block (R54). -/
def blkKey (b : List Byte) : LookupKey :=
  let seg := leOf b 3 1
  let k := blkKind b
  if kindRouted k then ⟨seg, true, if k = 2 ∨ k = 4 then 0 else 1, if k = 2 ∨ k = 3 then 0 else 1, beOf b 0x30 16, beOf b 0x40 16, 0, 0, leOf b 0x54 2⟩
  else ⟨seg, false, k, 0, beOf b 0x30 6, 0, leOf b 0x50 2, leOf b 0x52 2, 0⟩

/-- The identity registered for a publisher (R88). -/
def blkIdent (b : List Byte) : Option PubIdent :=
  if blkPub b then some ⟨beOf b 0x58 6, leOf b 0x5E 2, leOf b 0x60 2, slice b 0x63 (leOf b 0x62 1)⟩ else none

/-! ### Creation (R212, R474) -/

/-- A pillow takes no new context: full, off, or draining (R60, R234). -/
def pillowShut (s : State) (p : Nat) : Bool :=
  decide (16384 ≤ (homedOn s p).length) || bit s.pwc.pil p == false
    || (match (getPil s p).st with
      | .off | .starting | .draining | .drained => true
      | .service | .returning | .failed => false)

/-- The pillow that a block homes its context on (R212): its group's, the one named, or the least loaded in SERVICE. -/
def blkPillow (s : State) (b : List Byte) : Option Nat :=
  let named := if bit (leOf b 2 1) 7 then leastLoaded s (servingPillows s) else some (leOf b 2 1 % 16)
  if blkBal b then (match getGroup s (blkGroup b) with | some g => some g.pillow | none => named) else named

/-- Check 6 of R474: the group conditions of R60. -/
def balanceBad (s : State) (b : List Byte) : Bool :=
  blkBal b && (match getGroup s (blkGroup b) with
    | none => true
    | some g => (!bit (leOf b 2 1) 7 && leOf b 2 1 % 16 != g.pillow) || blkSmpRate b != g.smpRate || bit (leOf b 0x10 4) 26
        || decide (16 ≤ (members s (blkGroup b)).length))

/-- Check 7 of R474: the key reference. -/
def keyBad (s : State) (b : List Byte) : Bool :=
  let k := leOf b 0x20 4
  if k = 0xFFFFFFFF then false
  else match keyNamed s (k / 2 ^ 31) (k % 2 ^ 20) with
    | none => true
    | some (attr, _, _, sl) => sl != leOf b 0 2 || attr != (if blkPub b then 0 else 1)

/-- How an insertion into the context table ends (R56, R57, log entry 31): in the buckets, with an entry in the stash, or with TABLE_FULL.
Which entries reach the stash is open. -/
inductive Insert
  | bucket
  | stash (pick : Nat)
  | full
  deriving DecidableEq, Repr

def insertKey (s : State) : Insert × State :=
  if s.cls.table.length < 4 then (.bucket, s)
  else
    let (n, s) := draw s
    if n % 2 = 0 ∧ s.cls.table.length - s.cls.stash.length < 262144 then (.bucket, s)
    else if s.cls.stash.length < 256 then (.stash (n / 2), s)
    else (.full, s)

/-- The table with the entry of a context; where the displacements end in the stash, the entry that an open number picks is in it. -/
def ClsSt.enter (x : ClsSt) (k : LookupKey) (i : Nat) (pick : Option Nat) : ClsSt :=
  let table := x.table ++ [(k, i)]
  match pick with
  | some n =>
    let free := (table.map (·.2)).filter (fun j => !x.stash.contains j)
    { x with table := table, stash := x.stash ++ [free.getD (n % max free.length 1) i] }
  | none => { x with table := table }

/-- The lowest index of a pillow's slice of the context store that no context of the pillow has. -/
def freeIndex (s : State) (p : Nat) : Nat := firstFree (s.ctxs.filter (fun e => decide (16384 * p ≤ e.1) && decide (e.1 < 16384 * (p + 1)))) (16384 * p)

/-- The context that a block makes, on a pillow, with its scratch and owner (R59, R326). -/
def makeCtx (b : List Byte) (p base len owner : Nat) (init : Bool) : Ctx :=
  { words := [blkCtrl b, w32 (leOf b 0x20 4), 0, w32 (leOf b 0x24 4), 0, 0, w32 (leOf b 0x08 4), 0, w32 (leOf b 0x10 4), 0, 0,
      w32 (leOf b 0x0C 4), 0, 0, 0, 0, 0, blkPlaus b, w32 (leOf b 0x18 4), 0, 0, 0, 0, w32 (p * 2 ^ 28 + leOf b 0 2 * 2 ^ 18)]
    key := some (blkKey b), lookup := blkLookup b, pub := blkIdent b, declRate := leOf b 0x1C 4, scrBase := base, scrLen := len, bgOwner := owner
    deferred := 0, pendingEval := false, failHarm := false, failBal := false, overlap := 0, kcv := 0, lastTs := 0, ttl := 0, reserve := 0
    ivNoted := false, bitwNoted := false, initDue := init, changes := [], moving := none, removing := none, origin := none, epoch := 0, epochNoted := false }

/-- LOADHI and its record when a creation brings the declared load above the capacity (R212). -/
def loadCheck (s : State) (p : Nat) : State :=
  if pilCapacity s p < declLoad s p then record (setEvt s (0x40 + p) 9) 0x0413 0x4 (0x200 + p) [(pilLoadWord s p).toNat] else s

/-- A context entered at an index: its lookup entry, its scratch zeroed where it has no INIT, the load check (R57, R212, R220). -/
def enterAt (s : State) (i : Nat) (b : List Byte) (c : Ctx) (stash : Option Nat) : State :=
  let s := setCtx s i (some c)
  let s := if blkLookup b then
      clsStashSync { s with cls := s.cls.enter (blkKey b) i stash }
    else s
  let s := if c.initDue then s else zeroScratch s i
  loadCheck s c.home

/-- The context enters the tables (R57, R220, R326). -/
def enterCtx (s : State) (b : List Byte) (p base len : Nat) (m : Image) (stash : Option Nat) : State × MbxRes :=
  let i := freeIndex s p
  let c := makeCtx b p base len (pickOwner s p) m.init.isSome
  (mirrorSend (enterAt s i b c stash) (.ctx i b), MbxRes.durable [.ctx i (some c.reserved)] i)

/-- CTX_CREATE: the checks of R474 in their order, the first that fails ends it; on a STANDBY the command is refused with STATE (R333). -/
def ctxCreate (s : State) (b : List Byte) : State × MbxRes :=
  let i := leOf b 0 2
  if s.pair.st = .standby then (s, MbxRes.refuse 2)
  else if ctxBlockBad b then (s, MbxRes.refuse 1)
  else if (getSlice s i).st = .free then (s, MbxRes.refuse 7)
  else if (getSlice s i).maxCtx ≤ ((ctxList s).filter (fun e => e.2.slice == i)).length then (s, MbxRes.refuse 5)
  else match blkPillow s b with
    | none => (s, MbxRes.refuse 0xC)
    | some p =>
      if pillowShut s p then (s, MbxRes.refuse 0xC)
      else match imageFor s p (blkKind b) (blkPub b) with
        | none => (s, MbxRes.refuse 0xD)
        | some m =>
          if balanceBad s b then (s, MbxRes.refuse 0xE)
          else if keyBad s b then (s, MbxRes.refuse 0xB)
          else
            let len := scratchSize s m (blkSmpRate b) (fld (blkPlaus b) 12 11 != 0)
            match ramFit (ramUsed s p) len with
            | none => (s, MbxRes.refuse 5)
            | some base =>
              if blkLookup b then
                if (lookup s (blkKey b)).isSome then (s, MbxRes.refuse 9)
                else match insertKey s with
                  | (.full, t) => (t, MbxRes.refuse 0xA)
                  | (.stash n, t) => enterCtx t b p base len m (some n)
                  | (.bucket, t) => enterCtx t b p base len m none
              else enterCtx s b p base len m none

/-- CTX_CREATE (R474). -/
def execCtxCreate (sl : Slot) (block : List Byte) (s : State) : Host.Outcome State Fault Refusal :=
  .next (if sliceBusy s (leOf block 0 2) then s else mbxRun s sl 0x20 (some 2) (fun s => ctxCreate s block))

/-! ### Change, removal, read (R61, R327) -/

/-- A field that CTX_MODIFY may not change differs from its present value (R327). -/
def modifyBad (c : Ctx) (ctrl rate supv plaus : Word) (declRate : Nat) : Bool :=
  (ctrl ^^^ c.word 0) &&& ~~~ 0x047FE000#32 != 0 || (rate ^^^ c.word 0x18) &&& 0xFFFF0000#32 != 0 || fld supv 31 20 != 0
    || (plaus ^^^ c.plaus) &&& ~~~ 0x000038FF#32 != 0 || declRate == 0 || decide (1000000 < declRate) || ctrlBad ctrl (fld rate 31 16)

/-- CTX_MODIFY (R61, R327). -/
def ctxModify (s : State) (i : Nat) (ctrl rate supv plaus plim : Word) (declRate : Nat) : State × MbxRes :=
  if s.pair.st = .standby then (s, MbxRes.refuse 2)
  else match liveCtx s i with
    | none => (s, MbxRes.refuse 8)
    | some c =>
      if modifyBad c ctrl rate supv plaus declRate then (s, MbxRes.refuse 1)
      else
        let c' := c.settled.applyModify ctrl rate supv plaus plim declRate
        (atBoundary s i (.modify ctrl rate supv plaus plim declRate), MbxRes.durable [.ctx i (some c')] ((c.gen + c.gensDue + 1) % 65536))

/-- CTX_MODIFY (R327). -/
def execCtxModify (sl : Slot) (ctx : Nat) (ctrl rate supv plaus plim : Word) (declRate : Nat) (s : State) : Host.Outcome State Fault Refusal :=
  .next (mbxRun s sl 0x21 (some 2) (fun s => ctxModify s ctx ctrl rate supv plaus plim declRate))

/-- CTX_REMOVE (R61): the lookup entry goes at once, the context with its last admitted frame. -/
def ctxRemove (s : State) (sl : Slot) (i : Nat) : State × MbxRes :=
  if s.pair.st = .standby then (s, MbxRes.refuse 2)
  else match liveCtx s i with
    | none => (s, MbxRes.refuse 8)
    | some _ => (ctxSettle (modCtx (unschedule (clearLookup s i) i) i (fun c => { c with removing := some (sl, 0x22) })) i, MbxRes.later)

/-- CTX_REMOVE (R61): it waits for the key commands of the context that came before it (R324). -/
def execCtxRemove (sl : Slot) (ctx : Nat) (s : State) : Host.Outcome State Fault Refusal :=
  .next (if keyBusy s ctx then s else mbxRun s sl 0x22 (some 2) (fun s => ctxRemove s sl ctx))

/-- The 96 bytes of a context. -/
def Ctx.bytes (c : Ctx) : List Byte := c.words.flatMap (fun w => leBytes 4 w.toNat)

/-- CTX_READ (R325). -/
def execCtxRead (sl : Slot) (ctx : Nat) (s : State) : Host.Outcome State Fault Refusal :=
  .next (mbxRun s sl 0x23 none (fun s =>
    if s.pair.st = .standby then (s, MbxRes.refuse 2)
    else match liveCtx s ctx with
      | none => (s, MbxRes.refuse 8)
      | some c => (s, MbxRes.ok 0 c.bytes)))

/-! ### Balance groups (R86, R327) -/

/-- The ranges of R86. -/
def groupBad (channels tolAbs tolRel persist balWait smpRate : Nat) : Bool :=
  !(channels == 3 || channels == 4) || decide (65535 < tolAbs) || decide (255 < tolRel) || persist == 0 || decide (64 < persist)
    || decide (balWait < 50) || decide (1000 < balWait) || decide (smpRate < 1000) || decide (16000 < smpRate)

/-- A new group of a definition, at a place of a pillow's shared RAM. -/
def groupOf (p base owner channels tolAbs tolRel persist balWait smpRate : Nat) : Group :=
  { pillow := p, base := base, channels := channels, tolAbs := tolAbs, tolRel := tolRel, persist := persist, balWait := balWait,
    smpRate := smpRate, owner := owner, instants := [], closed := [], bad := 0, clean := 0, failing := false, origin := none }

/-- BAL_DEFINE (R327): a definition of a group without members is replaced, place and history with it. -/
def balDefine (s : State) (g p channels tolAbs tolRel persist balWait smpRate : Nat) : State × MbxRes :=
  if 4096 ≤ g ∨ 16 ≤ p then (s, MbxRes.refuse 1)
  else if groupBad channels tolAbs tolRel persist balWait smpRate then (s, MbxRes.refuse 0xE)
  else if (getGroup s g).isSome ∧ (members s g).isEmpty = false then (s, MbxRes.refuse 2)
  else if bit s.pwc.pil p = false ∨ (getPil s p).st = .off ∨ (getPil s p).st = .draining ∨ (getPil s p).st = .drained then (s, MbxRes.refuse 0xC)
  else
    let t := setGroup s g none
    match (if 256 ≤ (groupsOn t p).length then none else ramFit (ramUsed t p) 2048) with
    | none => (s, MbxRes.refuse 5)
    | some base =>
      let x := groupOf p base (pickOwner t p) channels tolAbs tolRel persist balWait smpRate
      (mirrorSend (writeBytes (setGroup t g (some x)) (sharedKey p base) (List.replicate 2048 0))
        (.balDefine g p channels tolAbs tolRel persist balWait smpRate), MbxRes.durable [.group g (some x)])

/-- BAL_DEFINE (R327). -/
def execBalDefine (sl : Slot) (group pillow channels tolAbs tolRel persist balWait smpRate : Nat) (s : State) :
    Host.Outcome State Fault Refusal :=
  .next (mbxRun s sl 0x24 (some 2) (fun s =>
    if s.pair.st = .standby then (s, MbxRes.refuse 2) else balDefine s group pillow channels tolAbs tolRel persist balWait smpRate))

/-- BAL_REMOVE (R327). -/
def execBalRemove (sl : Slot) (group : Nat) (s : State) : Host.Outcome State Fault Refusal :=
  .next (mbxRun s sl 0x25 (some 2) (fun s =>
    if s.pair.st = .standby then (s, MbxRes.refuse 2)
    else if 4096 ≤ group then (s, MbxRes.refuse 1)
    else if (getGroup s group).isNone then (s, MbxRes.refuse 0xE)
    else if (members s group).isEmpty = false then (s, MbxRes.refuse 2)
    else (mirrorSend (setGroup s group none) (.balRemove group), MbxRes.durable [.group group none])))

end Sys2Proof.Machine
end

