-- ==== Sys2Proof/Machine/Programs.lean ====
section
/-! DEFINITION. Machine/Programs.lean: the pillow and program commands (R215 to R217, R232, R234 to R237). -/
namespace Sys2Proof.Machine

/-! ### Images (R215, R216) -/

/-- The number at an offset of an image, little-endian (R215). -/
def leAt (b : List Byte) (off n : Nat) : Nat := ofLe (slice b off n)

/-- An entry offset of the header: absent, or word-aligned and inside the code. -/
def entryAt (b : List Byte) (off : Nat) : Option Nat := if leAt b off 4 = 0xFFFFFFFF then none else some (leAt b off 4)

def entryBad (b : List Byte) (off codeLen : Nat) : Bool :=
  match entryAt b off with
  | none => false
  | some e => e % 4 != 0 || decide (codeLen ≤ e)

/-- The image that the bytes of PGM_LOAD spell. -/
def parseImage (b : List Byte) : Image :=
  { pgmId := leAt b 0x08 4, pgmVer := leAt b 0x0C 4, isa := leAt b 0x06 1, signer := leAt b 0x07 1, codeLen := leAt b 0x10 4,
    dataLen := leAt b 0x14 4, scrBase := leAt b 0x18 2, scrSmp := leAt b 0x1A 2, scrBg := leAt b 0x1C 2, cycles := leAt b 0x1E 2,
    cyclesHarm := leAt b 0x32 2, init := entryAt b 0x20, rx := entryAt b 0x24, tx := entryAt b 0x28, bg := entryAt b 0x2C,
    kinds := leAt b 0x30 2, digest := slice b 0x40 64, whole := beBytes 64 (Config.sha3 b), code := slice b 0x12A0 (leAt b 0x10 4),
    data := slice b (0x12A0 + leAt b 0x10 4) (leAt b 0x14 4) }

/-- Every byte of a range is 0. -/
def zeroAt (b : List Byte) (off n : Nat) : Bool := (slice b off n).all (· == 0)

/-- The first check of R216: fields in range, reserved bytes 0, entries aligned and inside the code; the length is header, code and
data. -/
def imageBad (b : List Byte) : Bool :=
  let m := parseImage b
  leAt b 0 4 != 0x4B585350 || leAt b 4 2 != 1 || m.isa == 0 || decide (2 < m.isa) || decide (1 < m.signer) || m.pgmId == 0
    || decide (m.codeLen < 4) || decide (28672 < m.codeLen) || m.codeLen % 4 != 0 || decide (8192 < m.dataLen)
    || decide (8192 < m.scrBase) || decide (64 < m.scrSmp) || decide (8192 < m.scrBg) || m.cycles == 0 || decide (0x1000 ≤ m.kinds)
    || entryBad b 0x20 m.codeLen || entryBad b 0x24 m.codeLen || entryBad b 0x28 m.codeLen || entryBad b 0x2C m.codeLen
    || !zeroAt b 0x34 12 || !zeroAt b 0x1293 13 || b.length != 0x12A0 + m.codeLen + m.dataLen

/-- A major opcode that Pypian-2 reserves (R251). -/
def majorRsvd (m : Nat) : Bool :=
  decide (0x30 ≤ m) || m == 0x07 || m == 0x12 || m == 0x13 || decide (0x1A ≤ m ∧ m ≤ 0x1F) || m == 0x26 || m == 0x27 || decide (0x2D ≤ m ∧ m ≤ 0x2F)

/-- The words of a byte list, little-endian. -/
def codeWords : List Byte → List Nat
  | a :: b :: c :: d :: rest => ofLe [a, b, c, d] :: codeWords rest
  | _ => []

/-- A Pypian-2 image with a reserved major opcode (R216). -/
def rsvdCode (m : Image) : Bool := m.isa == 2 && (codeWords m.code).any (fun w => majorRsvd (bits w 27 22))

/-- The key that SIGNER names. -/
def signerKey (s : State) (signer : Nat) : Option Nat := if signer = 0 then some Config.streamKey else s.tamper.codeKey

/-- The first failing check of R216 as a status, 0 where every check passes. A digest that does not match and a reserved opcode are
malformed images. -/
def imageStatus (s : State) (b : List Byte) : Nat :=
  let m := parseImage b
  if imageBad b then 1
  else match signerKey s m.signer with
    | none => 3
    | some k =>
      if Config.mldsaVerify k (Config.sha3 (b.take 0x80)) (ofBe (slice b 0x80 4627)) = false then 2
      else if m.digest ≠ beBytes 64 (Config.sha3 (m.code ++ m.data)) then 1
      else if rsvdCode m then 1
      else if s.images.any (fun x => x.pgmId == m.pgmId && decide (m.pgmVer ≤ x.pgmVer)) then 0xA
      else if 64 ≤ s.images.length then 6
      else 0

/-- PGM_LOAD (R216). -/
def pgmLoad (s : State) (b : List Byte) : State × MbxRes :=
  let st := imageStatus s b
  if st ≠ 0 then (s, MbxRes.refuse st)
  else
    let l := s.images ++ [parseImage b]
    ({ s with images := l }, MbxRes.durable [.image l])

/-- PGM_LOAD (R216). -/
def execPgmLoad (sl : Slot) (img : List Byte) (s : State) : Host.Outcome State Fault Refusal :=
  .next (mbxRun s sl 0x60 (some 4) (fun s => pgmLoad s img))

/-- An entry of PGM_ASSIGN: PGMID 0 is none. -/
def assignEntry (e : Nat × Nat) : Option (Nat × Nat) := if e.1 = 0 then none else some e

def findImage (s : State) (e : Nat × Nat) : Option Image := s.images.find? (fun m => m.pgmId == e.1 && m.pgmVer == e.2)

/-- An entry that R217 does not permit: image not held, KINDS bit not set, or its entry point missing. -/
def assignBad (s : State) (k : Nat) (e : Option (Nat × Nat)) : Bool :=
  match e with
  | none => false
  | some v =>
    match findImage s v with
    | none => true
    | some m => !bit m.kinds k || (if k % 2 = 0 then m.rx.isNone else m.tx.isNone)

/-- A bobbin that can serve: scheduled, spare or under test. -/
def canServe (x : Bobbin) : Bool := x.role == .scheduled || x.role == .spare || x.role == .testing

/-- The images written to every bobbin of a pillow, after the self-test that quarantines the bobbins named (R235). -/
def loadPillow (s : State) (p : Nat) (a : List (Option (Nat × Nat))) (fails : List Nat) : State :=
  let s := (bobsOf p).foldl (fun s b => if canServe (getBob s b) && fails.contains (b % 32) then quarantine s b 1 else s) s
  let s := modPil s p (fun x => { x with assign := a })
  (bobsOf p).foldl (fun s b => reloadBobbin (zeroWork s b) b) s

/-- PGM_ASSIGN (R217, R235). -/
def pgmAssign (s : State) (p : Nat) (entries : List (Nat × Nat)) (fails : List Nat) : State × MbxRes :=
  let a := entries.map assignEntry
  let ms := (a.filterMap id).eraseDups.filterMap (findImage s)
  if 16 ≤ p ∨ a.length ≠ 12 then (s, MbxRes.refuse 1)
  else if (a.zip (List.range 12)).any (fun e => assignBad s e.2 e.1) then (s, MbxRes.refuse 1)
  else if bit s.pwc.pil p = false then (s, MbxRes.refuse 4)
  else if 28672 < ms.foldl (fun n m => n + m.codeLen) 0 ∨ 8192 < ms.foldl (fun n m => n + m.dataLen) 0 then (s, MbxRes.refuse 7)
  else if (homedOn s p).isEmpty = false then (s, MbxRes.refuse 8)
  else (mirrorSend (loadPillow s p a fails) (.assign p entries), MbxRes.durable [.assign p a])

/-- PGM_ASSIGN (R235). -/
def execPgmAssign (sl : Slot) (pillow : Nat) (entries : List (Nat × Nat)) (fails : List Nat) (s : State) : Host.Outcome State Fault Refusal :=
  .next (mbxRun s sl 0x61 (some 4) (fun s => if s.pair.st = .standby then (s, MbxRes.refuse 4) else pgmAssign s pillow entries fails))

/-- PGM_REMOVE (R235): the version named is removed alone. -/
def pgmRemove (s : State) (id ver : Nat) : State × MbxRes :=
  if (findImage s (id, ver)).isNone then (s, MbxRes.refuse 1)
  else if (List.range 16).any (fun p => (getPil s p).assign.contains (some (id, ver))) then (s, MbxRes.refuse 8)
  else
    let l := s.images.filter (fun m => !(m.pgmId == id && m.pgmVer == ver))
    ({ s with images := l }, MbxRes.durable [.image l])

/-- PGM_REMOVE (R235). -/
def execPgmRemove (sl : Slot) (pgmId pgmVer : Nat) (s : State) : Host.Outcome State Fault Refusal :=
  .next (mbxRun s sl 0x65 (some 4) (fun s => pgmRemove s pgmId pgmVer))

/-! ### Drain and return (R234, R236) -/

/-- A pillow in SERVICE or FAILED. -/
def pilSettled (s : State) (p : Nat) : Bool := (getPil s p).st == .service || (getPil s p).st == .failed

/-- PILLOW_DRAIN (R234): 0 as the mask means all others. -/
def pillowDrain (s : State) (sl : Slot) (p mask : Nat) : State × MbxRes :=
  let m := if mask = 0 then 0xFFFF - 2 ^ p else mask
  if 16 ≤ p ∨ 0x10000 ≤ mask ∨ bit mask p = true then (s, MbxRes.refuse 1)
  else if (List.range 16).any (fun q => q != p && !pilSettled s q) then (s, MbxRes.refuse 5)
  else if pilSettled s p = false then (s, MbxRes.refuse 4)
  else if drainFits s m p = false then (s, MbxRes.refuse 6)
  else
    let s := mirrorSend (modPil (setPilState s p .draining) p (fun x => { x with cmd := some sl, targets := m })) (.drain p mask)
    (moveSettle (moveEmptyGroups s p m) p, MbxRes.later)

/-- PILLOW_DRAIN (R234). -/
def execPillowDrain (sl : Slot) (pillow mask : Nat) (s : State) : Host.Outcome State Fault Refusal :=
  .next (mbxRun s sl 0x62 (some 4) (fun s => if s.pair.st = .standby then (s, MbxRes.refuse 4) else pillowDrain s sl pillow mask))

/-- PILLOW_RETURN (R236). -/
def pillowReturn (s : State) (sl : Slot) (p : Nat) : State × MbxRes :=
  if 16 ≤ p then (s, MbxRes.refuse 1)
  else if (getPil s p).st ≠ .drained ∨ bit s.pwc.pil p = false then (s, MbxRes.refuse 4)
  else
    let s := mirrorSend (modPil (setPilState s p .returning) p (fun x => { x with cmd := some sl })) (.giveBack p)
    (moveSettle (returnEmptyGroups s p) p, MbxRes.later)

/-- PILLOW_RETURN (R236). -/
def execPillowReturn (sl : Slot) (pillow : Nat) (s : State) : Host.Outcome State Fault Refusal :=
  .next (mbxRun s sl 0x63 (some 4) (fun s => if s.pair.st = .standby then (s, MbxRes.refuse 4) else pillowReturn s sl pillow))

/-! ### Retest and status (R232, R237) -/

/-- BOBBIN_RETEST (R232): the domain on, the tests, the images; a bobbin that passes takes the spare role, or is scheduled where the
pillow has a spare; one that fails is quarantined again. -/
def bobbinRetest (s : State) (b : Nat) (pass : Bool) : State × MbxRes :=
  let x := getBob s b
  let p := b / 32
  if x.role ≠ .quarantined ∨ bit s.pwc.pil p = false then (s, MbxRes.refuse 4)
  else if 3 ≤ x.quarCount then (s, MbxRes.refuse 9)
  else
    let s := countSwitch { s with pwc := { s.pwc with bob := maskSet s.pwc.bob b true } } 1
    let s := reloadBobbin (zeroWork s b) b
    let spare := spareOf s p
    let s := setRole s b (if pass && spare.isSome then .scheduled else .testing)
    if pass then (pilSync (if spare.isSome then s else setRole s b .spare) p, MbxRes.ok)
    else (quarantine s b 1, MbxRes.ok)

/-- BOBBIN_RETEST (R232). -/
def execBobbinRetest (sl : Slot) (b : Fin 512) (pass : Bool) (s : State) : Host.Outcome State Fault Refusal :=
  .next (mbxRun s sl 0x64 (some 4) (fun s => bobbinRetest s b pass))

/-- PILLOW_STATUS (R237): assignment, background owners and guest count, in a layout that the spec does not give (log entry 29). -/
def pillowStatus (s : State) (p : Nat) : State × MbxRes :=
  if 16 ≤ p then (s, MbxRes.refuse 1)
  else
    let a := (getPil s p).assign.flatMap (fun e => match e with | some v => [v.1, v.2] | none => [0, 0])
    let owners := (homedOn s p).flatMap (fun e => [e.1, e.2.bgOwner])
    let guests := ((homedOn s p).filter (fun e => e.2.origin.isSome)).length
    (s, MbxRes.ok 0 (Config.pillowStatus a owners guests))

/-- PILLOW_STATUS (R237). -/
def execPillowStatus (sl : Slot) (pillow : Nat) (s : State) : Host.Outcome State Fault Refusal :=
  .next (mbxRun s sl 0x66 none (fun s => pillowStatus s pillow))

end Sys2Proof.Machine
end

