-- ==== Sys2Proof/Machine/Pair.lean ====
section
/-! DEFINITION. Machine/Pair.lean: heartbeat, pair-sense, mirroring, publish records and the pair commands (R330 to R356). -/
namespace Sys2Proof.Machine

/-- The module belongs to a pair: bound, its state not SINGLE. -/
def paired (s : State) : Bool := s.pair.bound && s.pair.st != .single

/-- What the partner sends is authenticated under the link key: bound, keyed, a lane in service (R334). -/
def linkKeyed (s : State) : Bool := s.pair.authDone && s.pair.lanes != 0

/-- The partner's state as a pair state. -/
def peerPair : PeerState → PairState
  | .single => .single | .binding => .binding | .active => .active | .standby => .standby | .alone => .alone
  | .detached => .detached | .held => .held

/-- The completions that wait for the partner's acknowledgement, as far as a test admits them, are posted (R348). -/
def releaseAcks (s : State) (p : Nat → Bool) : State :=
  let due := s.pair.ackWait.filter (fun e => p e.1)
  due.foldl (fun s e => mbxPost s e.2) { s with pair := { s.pair with ackWait := s.pair.ackWait.filter (fun e => !p e.1) } }

/-! ### Heartbeat (R339) -/

/-- HEARTBEAT_SEND (R339): role and mirror sequence on each lane; a module in DYING sends none (R340). -/
def execHeartbeatSend (s : State) : Host.Outcome State Fault Refusal :=
  .next (if linkKeyed s && s.pair.psOut != .dying then
      { s with pair := { s.pair with hbOut := [s.pair.lanes, s.pair.st.code, s.pair.mirrorSeq] } }
    else s)

/-- What a heartbeat of a partner in a state does to this module (R342, R347): a partner that has left, two modules ALONE, and the return of
the partner's heartbeat to a HELD module. -/
def peerSeen (s : State) (before peer : PairState) (returns : Bool) : State :=
  if peer = .single ∧ before ≠ .single ∧ paired s = true then
    let s := setPairState s .alone 0xA
    { s with pair := { s.pair with heldFrames := [] } }
  else if s.pair.st = .alone ∧ peer = .alone then
    setPairState (doubleFault s 9 0) (if s.pair.pref then .active else .binding) 9
  else if s.pair.st = .held ∧ returns = true then setPairState s .binding 9
  else s

/-- A heartbeat accepted: the intervals missed since the last one count in BRD_HBMISS (R339). -/
def heartbeat (s : State) (peer : PairState) (seq : Nat) : State :=
  let missed := match s.pair.hbAt with
    | some t => (s.boot.now - t - 1) / 1000 - (if s.pair.hbLost then 3 else 0)
    | none => 0
  let before := s.pair.partnerSt
  let returns := s.pair.hbLost
  let s := addReg s 0xD002C missed
  let s := { s with pair := { s.pair with hb := true, hbLost := false, hbAt := some s.boot.now, partnerSt := peer, peerSeq := seq } }
  peerSeen s before peer returns

/-- HEARTBEAT_RECEIVE (R339): an authenticated heartbeat on a lane in service. -/
def execHeartbeatReceive (lane : Fin 2) (peer : PeerState) (mirrorSeq : Nat) (s : State) : Host.Outcome State Fault Refusal :=
  .next (if linkKeyed s && bit s.pair.lanes lane then heartbeat s (peerPair peer) mirrorSeq else s)

/-! ### Loss of the partner (R341, R342, R351) -/

/-- What R341 decides from pair-sense once the heartbeat is lost. -/
inductive LossKind | link | death | ambiguous
  deriving DecidableEq, Repr

def lossKind (p : PairSt) : LossKind :=
  match p.psIn with
  | .active => .link
  | .standby => .link
  | .dying => .death
  | .opened => if p.dyingSeen then .death else .ambiguous

/-- Partner death (R342, R343, R356). -/
def partnerDeath (s : State) : State :=
  match s.pair.st with
  | .active => setPairState s .alone 4
  | .standby => if pageSafe s 0xD0 then setPairState s .held 4 else takeover s false 4
  | .detached => if pageSafe s 0xD0 then setPairState s .held 4 else takeover s true 4
  | .single | .binding | .alone | .held => s

/-- Ambiguous loss (R341, R342): a STANDBY or DETACHED module enters HELD. -/
def ambiguousLoss (s : State) : State :=
  if s.pair.st = .standby ∨ s.pair.st = .detached then setPairState s .held 7 else s

/-- Link loss (R342). -/
def linkLoss (s : State) : State :=
  match s.pair.st with
  | .active => setPairState s .alone 3
  | .standby => setPairState s .detached 3
  | .single | .binding | .alone | .detached | .held => s

/-- The heartbeat is lost for 3.0 µs: three intervals are missed, the exchange runs again before heartbeats count (R331), and completions
no longer wait for the partner (R348). -/
def heartbeatLost (s : State) : State :=
  let s := addReg s 0xD002C 3
  let s := { s with pair := { s.pair with hb := false, hbLost := true, authDone := false } }
  releaseAcks s (fun _ => true)

/-- HEARTBEAT_LOSS (R341): the decision, the state change of R342 and the recovery window of R351; inside the window of a pair-sense fault the
loss is a double fault, and a STANDBY or DETACHED module is HELD. -/
def heartbeatLoss (s : State) : State :=
  let s := heartbeatLost s
  if s.pair.recov ∧ s.pair.firstFault = 3 ∧ (s.pair.st = .standby ∨ s.pair.st = .detached) then
    setPairState (doubleFault s 8 0) .held 7
  else
    let s := doubleFault s 8 0
    match lossKind s.pair with
    | .link => openWindow (linkLoss s) 2
    | .death => partnerDeath s
    | .ambiguous => openWindow (ambiguousLoss s) 4

/-- HEARTBEAT_LOSS (R341). -/
def execHeartbeatLoss (s : State) : Host.Outcome State Fault Refusal :=
  .next (if paired s && !s.pair.hbLost then heartbeatLoss s else s)

/-- The partner's pair-sense as decoded (R453). -/
def senseOf (c : Nat) : Sense := match c with | 0 => .opened | 1 => .dying | 2 => .standby | _ => .active

/-- DYING is latched once seen, until the partner drives a tone again (R340). -/
def decodeSense (s : State) (n : Sense) : State :=
  { s with pair := { s.pair with
    psIn := n, dyingSeen := n == .dying || (s.pair.dyingSeen && n == .opened) } }

/-- PAIR_SENSE_CHANGE (R340, R341): while the heartbeat is lost the decision is taken again, and inside the window of a link loss it is a
double fault (R351). -/
def senseChange (s : State) (n : Sense) : State :=
  let s := decodeSense s n
  if paired s && s.pair.hbLost then
    match lossKind s.pair with
    | .link => s
    | .death => partnerDeath (if s.pair.recov ∧ s.pair.firstFault = 2 then doubleFault s 6 0 else s)
    | .ambiguous =>
      if s.pair.recov ∧ s.pair.firstFault = 2 then ambiguousLoss (doubleFault s 7 0)
      else if s.pair.st = .detached then openWindow (ambiguousLoss s) 4
      else s
  else s

/-- PAIR_SENSE_CHANGE (R340). -/
def execPairSenseChange (sense : Fin 4) (s : State) : Host.Outcome State Fault Refusal := .next (senseChange s (senseOf sense))

/-- PAIR_SENSE_FAULT (R341): heartbeats arrive while pair-sense shows DYING or OPEN; the roles stay. -/
def execPairSenseFault (s : State) : Host.Outcome State Fault Refusal :=
  .next (if paired s && s.pair.hb && (s.pair.psIn == .dying || s.pair.psIn == .opened) then
      openWindow (record (setEvt s 0xD0 2) 0x0601 0xC 0 [s.pair.psIn.code, bnat s.pair.hb]) 3
    else s)

/-- RECOVERY_WINDOW_END (R351): the ordinary rules again. -/
def execRecoveryWindowEnd (s : State) : Host.Outcome State Fault Refusal :=
  .next (if s.pair.recov then morSync { s with pair := { s.pair with recov := false, firstFault := 0, failMask := 0 } } else s)

/-! ### Mirrored records (R335) -/

/-- The lag of a mirrored item, in units of 10 ns, with LAGHI above 2 µs (R335, R355). -/
def mirrorLag (s : State) (lag : Nat) : State :=
  let n := min (lag / 10) 0xFFFF
  let s := { s with pair := { s.pair with lagNow := n, lagMax := max n s.pair.lagMax } }
  if 2000 < lag then setEvt s 0xD0 7 else s

/-- The module takes the configuration of the partner (R332, R333). -/
def mirrors (s : State) : Bool := s.pair.st == .binding || s.pair.st == .standby || s.pair.st == .detached

/-- A mirrored context as it is journalled: a publisher's with the reservation that a STANDBY keeps (R343). -/
def mirrorReserved (c : Ctx) : Ctx := if c.pubDir then { c with reserve := c.iv + 2 ^ 40 + 2 ^ 20 } else c

/-- A mirrored creation at its index: the block without its key, which is each module's own (R333, R335). -/
def mirrorCtx (s : State) (i : Nat) (b : List Byte) : State :=
  let p := i / 16384
  match getCtx s i, imageFor s p (blkKind b) (blkPub b) with
  | none, some m =>
    let len := scratchSize s m (blkSmpRate b) (fld (blkPlaus b) 12 11 != 0)
    match ramFit (ramUsed s p) len with
    | none => s
    | some base =>
      let c := makeCtx b p base len (pickOwner s p) m.init.isSome
      let c := (c.setWord 0x04 0xFFFFFFFF#32).setWord 0x0C 0
      if blkLookup b then
        match insertKey s with
        | (.full, t) => t
        | (.stash n, t) => journalAdd (enterAt t i b c (some n)) [.ctx i (some (mirrorReserved c))]
        | (.bucket, t) => journalAdd (enterAt t i b c none) [.ctx i (some (mirrorReserved c))]
      else journalAdd (enterAt s i b c none) [.ctx i (some (mirrorReserved c))]
  | _, _ => s

/-- A mirrored command that answered OK is journalled (R335). -/
def mirrorJournal (s : State) (r : State × MbxRes) : State :=
  if r.2.status = 0 then (if r.2.items.isEmpty then r.1 else journalAdd r.1 r.2.items) else s

/-- The completion of a mirrored command goes to no slot. -/
def noSlot : Slot := discardSlot ⟨0, 0, 0⟩

/-- The words of a context differ from the partner's (R349). -/
def keysDiffer (s : State) (i : Nat) : Bool :=
  match getCtx s i, smapGet (fun _ => none) s.pair.partnerKeys i with
  | some c, some k => c.nstate != k.nstate || (c.word 0x0C).toNat != k.kidCur || (c.word 0x10).toNat != k.kidNext
  | _, _ => false

/-- The partner's key words of a context; while this module resynchronises, a KID that the partner has committed and that is READY here
commits with the same CTX_OVLEND (R350). -/
def mirrorKeys (s : State) (i nstate kidCur kidNext ovlEnd : Nat) : State :=
  let s := { s with pair := { s.pair with partnerKeys := smapSet (fun _ => none) s.pair.partnerKeys i (some ⟨nstate, kidCur, kidNext⟩) } }
  let s : State := match getCtx s i with
    | some c =>
      if (s.pair.st = PairState.binding ∨ s.pair.st = PairState.detached) ∧ c.nstate = 2 ∧ (c.word 0x10).toNat = kidCur then commitCtx s i ovlEnd else s
    | none => s
  { s with pair := { s.pair with keySplit := s.pair.keySplit.filter (keysDiffer s) } }

/-- The publisher counters of the final record, and the role (R346). -/
def mirrorFinal (s : State) (ivs seqs : List (Nat × Nat)) : State :=
  if s.pair.st = .standby then
    let s := ivs.foldl (fun s e => modCtx s e.1 (fun c => if c.pubDir then c.setIv (min e.2 (2 ^ 64 - 1)) else c)) s
    let s := seqs.foldl (fun s e => setPairNet s (e.1 % 2) { getPairNet s (e.1 % 2) with seqNo := e.2 % 65536 }) s
    let s := setPairState s .active 5
    { s with pair := { s.pair with heldFrames := [], partnerSt := .standby } }
  else s

/-- The state after a mirrored configuration item (R335). -/
def mirrorConfig (s : State) (it : MirrorItem) : State :=
  match it with
  | .ctx i b => mirrorCtx s i b
  | .ctxModify i ctrl rate supv plaus plim d =>
    match getCtx s i with
    | some c => journalAdd (atBoundary s i (.modify ctrl rate supv plaus plim d)) [.ctx i (some (c.settled.applyModify ctrl rate supv plaus plim d))]
    | none => s
  | .ctxRemove i =>
    match getCtx s i with
    | some c =>
      if c.removing.isSome then s
      else ctxSettle (modCtx (unschedule (clearLookup s i) i) i (fun c => { c with removing := some (noSlot, 0x22) })) i
    | none => s
  | .commitAt i tc ovlEnd => { s with pair := { s.pair with commitAt := s.pair.commitAt ++ [(i, tc, ovlEnd)] } }
  | .balDefine g p ch ta tr pe bw sr => mirrorJournal s (balDefine s g p ch ta tr pe bw sr)
  | .balRemove g =>
    if (getGroup s g).isSome ∧ (members s g).isEmpty = true then journalAdd (setGroup s g none) [.group g none] else s
  | .assign p es => mirrorJournal s (pgmAssign s p es [])
  | .drain p m => mirrorJournal s (pillowDrain s noSlot p m)
  | .giveBack p => mirrorJournal s (pillowReturn s noSlot p)
  | .keyWords .. | .durable _ | .final .. => s

/-- A mirrored item applied (R335, R346, R348). -/
def mirrorItem (s : State) (it : MirrorItem) : State :=
  match it with
  | .keyWords i n kc kn ov => mirrorKeys s i n kc kn ov
  | .durable q => releaseAcks { s with pair := { s.pair with acked := max s.pair.acked q } } (fun n => decide (n ≤ q))
  | .final ivs seqs => mirrorFinal s ivs seqs
  | .ctx .. | .ctxModify .. | .ctxRemove _ | .commitAt .. | .balDefine .. | .balRemove _ | .assign .. | .drain .. | .giveBack _ =>
    if mirrors s then mirrorConfig s it else s

/-- MIRROR_RECORD (R335). -/
def execMirrorRecord (lag : Nat) (item : MirrorItem) (s : State) : Host.Outcome State Fault Refusal :=
  .next (if paired s && linkKeyed s then mirrorItem (mirrorLag s lag) item else s)

/-! ### Publish records (R337, R343) -/

/-- The mirrored next invocation value and sequence numbers of a record (R343). -/
def mirrorNext (s : State) (r : PubRecord) : State :=
  match getCtx s r.ctx with
  | some c =>
    let c := c.setIv (min (r.iv + 1) (2 ^ 64 - 1))
    let s := standbyReserve (setCtx s r.ctx (some c)) r.ctx c
    (List.range 2).foldl (fun s k =>
      if (pairMode s (2 * k) = 1 ∨ pairMode s (2 * k) = 2) ∧ c.fwdMask / 2 ^ (2 * k) % 4 ≠ 0 then
        setPairNet s k { getPairNet s k with seqNo := (r.seqNo + 1) % 65536 }
      else s) s
  | none => s

/-- PUBLISH_RECORD (R337): kept for the frame it names, which FRAME_DISPATCH builds by it and compares. -/
def execPublishRecord (r : PubRecIn) (s : State) : Host.Outcome State Fault Refusal :=
  .next (if paired s && linkKeyed s && mirrors s then
      let q : PubRecord := ⟨r.ctx, r.first, r.last, r.iv, r.seqNo, r.digest⟩
      mirrorNext { s with pair := { s.pair with records := s.pair.records ++ [q] } } q
    else s)

/-- HOLDBACK_EXPIRY (R337): no record came for a held frame; it is counted and freed, its descriptor SUPPRESSED (R317). -/
def holdbackExpiry (s : State) (h : Nat) : State :=
  match getFrame s h with
  | some f =>
    let s := setEvt (incReg s 0xD003C) 0xD0 5
    let s := txComplete s f.src 0 0 (f.ctx.getD 0) 0x01 3
    freeFrame { s with pair := { s.pair with heldFrames := s.pair.heldFrames.filter (· != h) } } h
  | none => s

/-- HOLDBACK_EXPIRY (R337). -/
def execHoldbackExpiry (handle : Nat) (s : State) : Host.Outcome State Fault Refusal :=
  .next (if s.pair.st = .standby ∧ s.pair.heldFrames.contains handle = true then holdbackExpiry s handle else s)

/-! ### The Bride link (R331, R332, R334) -/

/-- The link key of R331 from a fresh shared secret, an open value (log entry 6). -/
def newLinkKey (s : State) : State :=
  let (ss, s) := draw s
  let own := beBytes 32 (deviceFpr s)
  let fps := if s.pair.member = 0 then own ++ beBytes 32 s.pair.partner else beBytes 32 s.pair.partner ++ own
  { s with pair := { s.pair with linkKey := Config.kmac256 (ss % 2 ^ 256) fps 256 "KX5120 BRIDE", authDone := true, batches := 0, keysSent := [] } }

/-- The exchange of R331: member 1's key or member 0's ciphertext takes a signature of this module, for which Flurry gives the rnd; with it comes
the new link key. None where the randomness cannot be had. -/
def brideExchange (s : State) : Option State :=
  match rngTake s 32 with
  | some (rnd, t) => match ltuSign t rnd with
    | (t, some _) => some (newLinkKey t)
    | (_, none) => none
  | none => none

/-- A binding that does not come about. -/
def bindFails (s : State) (sl : Slot) (status : Nat) : State :=
  let s := { s with pair := { s.pair with cmd := none, partner := 0, member := 0, pref := false } }
  mbxFinish s sl 0x70 (MbxRes.refuse status)

/-- Both modules are authenticated under PAIR_BIND: the binding is journalled, and the PREF member is ACTIVE (R331, R332). -/
def bindDone (s : State) (sl : Slot) : State :=
  let s := { s with pair := { s.pair with cmd := none, bound := true, hbLost := false, partnerSt := .single } }
  let s := setPairState s (if s.pair.pref then .active else .binding) 1
  let s := { s with pair := { s.pair with psOut := s.pair.st.tone } }
  mbxFinish s sl 0x70 (MbxRes.durable [.pair true s.pair.partner s.pair.member s.pair.pref])

/-- BRIDE_AUTH_DONE (R331): the exchange of PAIR_BIND, or the one that a bound module runs by itself after its link was down. -/
def brideAuth (s : State) (fp : Nat) (ok : Bool) : State :=
  match s.pair.cmd with
  | some sl =>
    if !ok || fp != s.pair.partner then bindFails s sl 4
    else match brideExchange s with
      | some t => bindDone t sl
      | none => bindFails s sl 5
  | none => if s.pair.bound && !s.pair.authDone && ok && fp == s.pair.partner then (brideExchange s).getD s else s

/-- BRIDE_AUTH_DONE (R331). -/
def execBrideAuthDone (fingerprint : Nat) (ok : Bool) (s : State) : Host.Outcome State Fault Refusal :=
  .next (if s.pair.lanes ≠ 0 then brideAuth s fingerprint ok else s)

/-- FULL_COPY_APPLIED (R332, R342): BINDING and, after resynchronisation, DETACHED become STANDBY; an ALONE module whose partner took the copy
becomes ACTIVE. -/
def fullCopy (s : State) : State :=
  match s.pair.st with
  | .binding => setPairState s .standby 2
  | .detached => if s.pair.hb then setPairState s .standby 0xB else s
  | .alone =>
    if s.pair.hb && (s.pair.partnerSt == .binding || s.pair.partnerSt == .held || s.pair.partnerSt == .detached) then setPairState s .active 9 else s
  | .single | .active | .standby | .held => s

/-- FULL_COPY_APPLIED (R332). -/
def execFullCopyApplied (s : State) : Host.Outcome State Fault Refusal := .next (if paired s && linkKeyed s then fullCopy s else s)

/-- BRIDE_REKEY (R334): a new exchange gives a new link key; without randomness it is refused, and the key in use stays (R331). -/
def execBrideRekey (s : State) : Host.Outcome State Fault Refusal :=
  .next (if linkKeyed s then (brideExchange s).getD s else s)

/-- BRIDE_BATCH (R334): a batch that fails authentication is discarded, and the link is treated as down until the next heartbeat. -/
def execBrideBatch (valid : Bool) (s : State) : Host.Outcome State Fault Refusal :=
  .next (if linkKeyed s then
      (if valid then { s with pair := { s.pair with batches := s.pair.batches + 1 } } else { s with pair := { s.pair with hb := false } })
    else s)

/-- A Bride lane comes up or goes down (R334): the loss of a lane is BRIDECHG, and with both lanes down the exchange must run again. -/
def laneChange (s : State) (lane : Nat) (up : Bool) : State :=
  if bit s.pair.lanes lane = up then s
  else
    let l := maskSet s.pair.lanes lane up
    let s := { s with pair := { s.pair with lanes := l, authDone := s.pair.authDone && l != 0 } }
    if up then s else setEvt s 0xD0 1

/-- BRIDE_LANE_CHANGE (R334): the loss of a lane is BRIDECHG; with both lanes down the exchange must run again (R331). -/
def execBrideLaneChange (lane : Fin 2) (up : Bool) (s : State) : Host.Outcome State Fault Refusal :=
  .next (if s.boot.inReset || s.boot.phase == .hold || (up && !bit s.pwc.clkOk 0) then s else laneChange s lane up)

/-- KEYSPLIT (R349). -/
def execKeysplit (ctx : Nat) (s : State) : Host.Outcome State Fault Refusal :=
  .next (if paired s && keysDiffer s ctx && !s.pair.keySplit.contains ctx then
      record (setEvt { s with pair := { s.pair with keySplit := s.pair.keySplit ++ [ctx] } } 0xD0 4) 0x0603 0xC 0 [ctx]
    else s)

/-- BRD_KEYSPLIT: contexts now KEYSPLIT (R355). -/
def brdKeysplit (s : State) : Word := w32 ((s.pair.keySplit.filter (keysDiffer s)).length % 2 ^ 18)

/-! ### Commands (R354) -/

/-- A pair command: on an SNV-KX5120-E every one completes with NOT_PAIRABLE, and its refusal is recorded (R2, R330, R417); while the module
is ZEROISED every one but PAIR_STATUS is refused (R365). -/
def pairRun (s : State) (sl : Slot) (code : Nat) (lpStatus : Option Nat) (body : State → State × MbxRes) : State :=
  if s.pair.rpart then
    mbxRun s sl code lpStatus (fun s => if s.tamper.zeroised && code != 0x74 then (s, MbxRes.refuse 6) else body s)
  else if mbxReady s then mbxFinish (record (mbxTake s) 0x0605 0xC 0 [code]) sl code (MbxRes.refuse 3)
  else s

/-- PAIR_BIND (R331, R365). -/
def pairBind (s : State) (sl : Slot) (fp member pref : Nat) : State × MbxRes :=
  if 2 ≤ member ∨ 2 ≤ pref then (s, MbxRes.refuse 1)
  else if s.pair.st ≠ .single ∨ s.pair.cmd.isSome then (s, MbxRes.refuse 2)
  else if s.rng.st = .fatal then (s, MbxRes.refuse 5)
  else ({ s with pair := { s.pair with cmd := some sl, partner := fp, member := member, pref := pref == 1 } }, MbxRes.later)

/-- PAIR_BIND (R331): BRIDE_AUTH_DONE completes it. -/
def execPairBind (sl : Slot) (fingerprint member pref : Nat) (s : State) : Host.Outcome State Fault Refusal :=
  .next (pairRun s sl 0x70 (some 2) (fun s => pairBind s sl fingerprint member pref))

/-- PAIR_SWITCH (R346): the final record goes out, and the module is STANDBY. -/
def pairSwitch (s : State) : State × MbxRes :=
  if s.pair.st = .active ∧ s.pair.partnerSt = .standby ∧ pageSafe s 0xD0 = false then
    (switchOver s, MbxRes.ok)
  else (s, MbxRes.refuse 2)

/-- PAIR_SWITCH (R346). -/
def execPairSwitch (sl : Slot) (s : State) : Host.Outcome State Fault Refusal :=
  .next (pairRun s sl 0x71 (some 2) pairSwitch)

/-- PAIR_LEAVE (R342): the binding ends, with everything held for the partner. -/
def pairLeave (s : State) : State × MbxRes :=
  if s.pair.st = .single then (s, MbxRes.refuse 2)
  else
    let s := releaseAcks (setPairState s .single 0xA) (fun _ => true)
    ({ s with pair := { s.pair with
      bound := false, partner := 0, member := 0, pref := false, hb := false, hbLost := true, hbAt := none, authDone := false, linkKey := 0
      partnerSt := .single, heldFrames := [], records := [], partnerKeys := [], keySplit := [], out := [], keysSent := [] } },
      MbxRes.durable [.pair false 0 0 false])

/-- PAIR_LEAVE (R342). -/
def execPairLeave (sl : Slot) (s : State) : Host.Outcome State Fault Refusal :=
  .next (pairRun s sl 0x72 (some 2) pairLeave)

/-- PAIR_FORCE (R342, R343). -/
def execPairForce (sl : Slot) (s : State) : Host.Outcome State Fault Refusal :=
  .next (pairRun s sl 0x73 (some 2) (fun s =>
    if s.pair.st = .held then (takeover s true 8, MbxRes.ok) else (s, MbxRes.refuse 2)))

/-- PAIR_STATUS (R354): a status command, with BRD_STATE as its RESULT. -/
def execPairStatus (sl : Slot) (s : State) : Host.Outcome State Fault Refusal :=
  .next (pairRun s sl 0x74 none (fun s => (s, MbxRes.ok (brdStateWord s).toNat)))

/-- The write of BRD_CTRL (R352): BLOCK stays asserted while the module is HELD or the window is open. -/
def blkclrEffect (v : Word) (s : State) : State :=
  if fld v 0 0 = 1 ∧ s.pair.st ≠ .held ∧ s.pair.recov = false then { s with pair := { s.pair with block := false } } else s

/-- BLKCLR (R352). -/
def execBlkclr (by_ : Party) (v : Word) (s : State) : Host.Outcome State Fault Refusal :=
  .next (barWrite s by_ 4 0xD0044 v (blkclrEffect v))

/-- WATCHDOG_EXPIRY (R340): the control cluster no longer runs, and the module enters DYING. -/
def execWatchdogExpiry (s : State) : Host.Outcome State Fault Refusal :=
  .next (if s.boot.inReset || s.boot.phase == .rom then s else pairDying { s with boot := { s.boot with ccDead := true } })

end Sys2Proof.Machine
end

