-- ==== Sys2Proof/Machine/Lanes.lean ====
section
/-! DEFINITION. Machine/Lanes.lean: the cipher-lane commands (R133 to R155). -/
namespace Sys2Proof.Machine

/-! ### Admission (R144 to R146) -/

/-- The algorithm of a request's context. -/
def reqAlg (s : State) (r : LaneReq) : Nat :=
  match (r.frame.bind (getFrame s)).bind (fun f => f.ctx.bind (getCtx s)) with
  | some c => c.alg
  | none => 0

/-- A request as it is before its start (R152): all of its work, but for what its later pieces do (R149). -/
def freshReq (s : State) (r : LaneReq) : LaneReq :=
  let all := reqCycles (reqAlg s r) r.op r.block r.arg
  { r with started := false, status := 0, out := [], val := 0, left := if r.rest = 0 then all else min all r.rest, restore := 0, startAt := 0 }

/-- The slot that a request's key resolves to (R138): none while it is not resident. -/
def reqSlot (s : State) (r : LaneReq) : Option Nat := match r.key with | some k => resident s k | none => r.slot

/-- A request that admission can take: its key is resident, or it needs none. -/
def reqReady (s : State) (r : LaneReq) : Bool := match r.key with | some k => (resident s k).isSome | none => true

/-- The winner of the rotating pointer: its position, the request, and the requests left (R144). -/
def arbWinner (s : State) (a : ArbSt) (need : Bool) : Option (Nat × LaneReq × List (Nat × LaneReq)) :=
  ((List.range 33).findSome? (fun k =>
    let pos := (a.pointer + k) % 33
    (takeFirst (fun e => e.1 == pos && (!need || reqReady s e.2)) a.waiting).map (fun e => (pos, e.1.2, e.2))))

/-- A lane holds the key schedule of a slot (R134). -/
def laneCached (s : State) (n : Nat) (slot : Option Nat) : Bool :=
  match slot with
  | some k => (getLane s n).cache.contains (k, smapGet (fun _ => 0) s.firn.gens k)
  | none => false

/-- The lane that R145 chooses for a request of a slot, of the lanes of pillow p in SERVICE. -/
def chooseLane (s : State) (p : Nat) (slot : Option Nat) : Nat :=
  let a := 2 * p
  let b := 2 * p + 1
  if !laneServes s b then a
  else if !laneServes s a then b
  else
    let ca := laneCached s a slot
    let cb := laneCached s b slot
    let wa := laneWork s a
    let wb := laneWork s b
    if ca && !cb && decide (wa ≤ wb + 48) then a
    else if cb && !ca && decide (wb ≤ wa + 48) then b
    else if wa ≤ wb then a else b

/-- A lane's queue has room (R146). -/
def laneRoom (s : State) (n : Nat) : Bool := decide ((getLane s n).depth < 64)

/-- A request put into a lane's queue in admission order, its key resolved. -/
def enqueueLane (s : State) (n : Nat) (r : LaneReq) : State :=
  let slot := reqSlot s r
  let r := { freshReq s r with slot := slot, id := s.pool.next }
  let s := { s with pool := { s.pool with next := s.pool.next + 1 } }
  let s := modLane s n (fun x => { x with queue := x.queue ++ [r] })
  admitBobbin (match slot with | some k => touchSlot s k | none => s) r

/-- LANE_ADMISSION (R144 to R146, R152): moved requests go first; the winner of the pointer is placed on a lane, completes at once
where no lane serves or the module is ZEROISED, or stays where both queues are full. -/
def admission (s : State) (p : Nat) : State :=
  let a := (getPil s p).arb
  let other := fun (n : Nat) => if n % 2 = 0 then n + 1 else n - 1
  match a.moved with
  | _ :: _ =>
    if pillowServes s p then admitMoved s (if laneServes s (2 * p) then 2 * p else 2 * p + 1)
    else
      let s := modPil s p (fun y => { y with arb := { y.arb with moved := [] } })
      a.moved.foldl (fun s r => completeReq s (2 * p) r 6) s
  | [] =>
    let serves := pillowServes s p && !zeroisedNow s
    match arbWinner s a serves with
    | none => s
    | some (pos, r, rest) =>
      let take := fun (s : State) => modPil s p (fun y => { y with arb := { y.arb with waiting := rest, pointer := (pos + 1) % 33 } })
      if !serves then
        if r.bobbin.isSome then completeUnlaned (take s) p r (if keylessNow s then 2 else 6) else completePort (take s) p r (if zeroisedNow s then 2 else 6)
      else
        let n := chooseLane s p (reqSlot s r)
        if laneRoom s n then enqueueLane (take s) n r
        else if laneServes s (other n) && laneRoom s (other n) then enqueueLane (take s) (other n) r
        else setEvt (incReg s (cplReg n 0x40)) (cplPage n) 1

/-- LANE_ADMISSION (R144). -/
def execLaneAdmission (pillow : Fin 16) (s : State) : Host.Outcome State Fault Refusal := .next (admission s pillow)

/-! ### The start of a request (R133, R134, R138, R139) -/

/-- The attribute that an operation requires of its slot (R136, R160): a mismatch gives KEY_ATTR. -/
def attrOk (op : Nat) (x : SlotSt) : Bool :=
  match op with
  | 1 => x.attr == 1 | 2 => x.attr == 0 | 3 => x.attr == 1 | 4 => x.attr == 0
  | 8 => x.attr == 2 | 9 => x.attr == 2 | 0xA => x.attr == 3
  | 0xC => x.attr == 3 || (match x.holds with | .transient _ => true | _ => false)
  | _ => true

/-- The outcome of a request that starts with a slot's key: STATUS, writes, value (R139, R158, R162, R166). -/
def reqOutcome (s : State) (r : LaneReq) (x : SlotSt) : Nat × List (Nat × List Byte) × Nat :=
  match r.op with
  | 8 => match Config.kwpUnwrap x.key r.arg with
    | some k => (0, [], k)
    | none => (5, [], 0)
  | 9 => (0, [], ofBe (Config.kwpWrap x.key (ofBe r.arg)))
  | 0xA => (0, [], Config.kmac256 x.key r.arg 256 "KX2400 KDT")
  | 0xB => (0, [], kcvOf x.key x.kid x.ktype x.attr)
  | 0xC => (0, [], Config.kmac256 x.key r.arg 256 "")
  | op => match r.frame.bind (getFrame s) with
    | some f => let o := frameOp (reqAlg s r) x.key op r.block f.frame.bytes; (o.1, o.2, 0)
    | none => (0, [], 0)

/-- A key schedule used on a lane: a miss is counted in CPL_KCMISS and takes the place of the entry used longest ago (R134). DESIGN CHOICE (log
entry 145): so does the key of a Keccak request (DERIVE, KCV, KMAC), for which R134 names no expanded material. -/
def useSchedule (s : State) (n slot : Nat) : State × Bool :=
  let e := (slot, smapGet (fun _ => 0) s.firn.gens slot)
  let x := getLane s n
  let hit := x.cache.contains e
  let s := setLane s n { x with cache := (e :: x.cache.filter (· != e)).take 8 }
  (if hit then s else incReg s (cplReg n 0x38), hit)

/-- The longest SERVICE request (R149). -/
def pieceMax : Nat := 256

/-- A request with its cycles: SERVICE work beyond 256 cycles is left to further requests (R149). -/
def LaneReq.withWork (r : LaneReq) (cycles : Nat) : LaneReq :=
  if r.cls = 0 ∧ pieceMax < cycles then { r with left := pieceMax, rest := cycles - pieceMax } else { r with left := cycles, rest := 0 }

/-- A request starts on an idle lane: the slot and its attribute are checked before any data is read (R138), and the request runs to
the outcome that LANE_RESULT delivers. -/
def startReq (s : State) (n : Nat) (r : LaneReq) : State :=
  let all := reqCycles (reqAlg s r) r.op r.block r.arg
  let base := if r.rest = 0 then all else r.rest
  let run := fun (s : State) (r : LaneReq) => modLane s n (fun x => { x with running := some { r with started := true, startAt := s.boot.now } })
  if r.op = 0xD then run s { r.withWork base with val := Config.sha3 r.arg }
  else if r.op = 0xE then run s { r with left := base }
  else
    match r.slot.bind (fun k => (getSlot s k).map (fun x => (k, x))) with
    | none => run s { r with left := base, rest := 0, status := 2, out := [], val := 0 }
    | some (k, x) =>
      if attrOk r.op x then
        let (s, hit) := useSchedule s n k
        let o := reqOutcome s r x
        run s { r.withWork (base + (if hit then 0 else 48)) with status := o.1, out := o.2.1, val := o.2.2 }
      else run s { r with left := base, rest := 0, status := 3, out := [], val := 0 }

/-- The next request of the queue starts when it is one of the operation given and the lane is free for it (R146, R148). -/
def startOp (s : State) (n op : Nat) : State :=
  let x := getLane s n
  if laneFree x then
    match nextReq x.queue with
    | some (r, rest) => if r.op = op then startReq (setLane s n { x with queue := rest }) n r else s
    | none => s
  else s

/-- VERIFY (R139). -/
def execVerify (lane : Fin 32) (s : State) : Host.Outcome State Fault Refusal := .next (startOp s lane 1)

/-- GENERATE (R139). -/
def execGenerate (lane : Fin 32) (s : State) : Host.Outcome State Fault Refusal := .next (startOp s lane 2)

/-- DECRYPT (R139). -/
def execDecrypt (lane : Fin 32) (s : State) : Host.Outcome State Fault Refusal := .next (startOp s lane 3)

/-- ENCRYPT (R139). -/
def execEncrypt (lane : Fin 32) (s : State) : Host.Outcome State Fault Refusal := .next (startOp s lane 4)

/-- UNWRAP (R162). -/
def execUnwrap (lane : Fin 32) (s : State) : Host.Outcome State Fault Refusal := .next (startOp s lane 8)

/-- DERIVE (R166). -/
def execDerive (lane : Fin 32) (s : State) : Host.Outcome State Fault Refusal := .next (startOp s lane 0xA)

/-- KCV (R158). -/
def execKcv (lane : Fin 32) (s : State) : Host.Outcome State Fault Refusal := .next (startOp s lane 0xB)

/-- The control cluster's use of the Firn port (R136, R144, log entry 20): a request that heads the lane's queue starts on the lane; one that
does not is issued at position 32 of the lane's pillow. -/
def startPort (s : State) (n : Nat) (r : LaneReq) : State :=
  let heads := match nextReq (getLane s n).queue with
    | some (q, _) => q.op == r.op && q.arg == r.arg && q.slot == r.slot
    | none => false
  if heads then startOp s n r.op else issuePort s (n / 2) r

/-- WRAP (R136, R161): a key value under the WRAP key of a slot. -/
def execWrap (lane : Fin 32) (slot key : Nat) (s : State) : Host.Outcome State Fault Refusal :=
  .next (startPort s lane (portReq 9 0 (some slot) none none (beBytes 32 key) 0))

/-- KMAC (R136): KMAC256 of a byte string under the key of a slot. -/
def execKmac (lane : Fin 32) (slot : Nat) (x : List Byte) (s : State) : Host.Outcome State Fault Refusal :=
  .next (startPort s lane (portReq 0xC 0 (some slot) none none x 0))

/-- HASH3 (R136): SHA3-512 of a byte string. -/
def execHash3 (lane : Fin 32) (x : List Byte) (s : State) : Host.Outcome State Fault Refusal :=
  .next (startPort s lane (portReq 0xD 0 none none none x 0))

/-- LANE_SELFTEST (R151): the self-test request starts. -/
def execLaneSelftest (lane : Fin 32) (s : State) : Host.Outcome State Fault Refusal := .next (startOp s lane 0xE)

/-- SERVICE_SELFTEST_INSERT (R151): in SERVICE a SELFTEST request of the SERVICE class joins the queue. -/
def selftestInsert (s : State) (n : Nat) : State :=
  if laneServes s n ∧ laneRoom s n = true then enqueueLane s n (portReq 0xE 0 none none none [] 0) else s

/-- SERVICE_SELFTEST_INSERT (R151). -/
def execServiceSelftestInsert (lane : Fin 32) (s : State) : Host.Outcome State Fault Refusal := .next (selftestInsert s lane)

/-! ### Suspension (R147 to R149) -/

/-- LANE_SUSPEND (R147): a higher class waits, more than 32 cycles of work are left, and a suspend context is free. The lane is busy for the 4
cycles that save the state. -/
def laneSuspend (s : State) (n : Nat) : State :=
  let x := getLane s n
  match x.running with
  | some r =>
    let left := r.remaining s
    if r.cls + 1 < topClass x.queue ∧ 32 < left ∧ x.susp.length < 2 then
      incReg (setLane s n { x with
        running := none, susp := { r with left := left } :: x.susp, busy := x.busy + (r.left - left) + r.restore + 4 }) (cplReg n 0x34)
    else s
  | none => s

/-- LANE_SUSPEND (R147). -/
def execLaneSuspend (lane : Fin 32) (s : State) : Host.Outcome State Fault Refusal := .next (laneSuspend s lane)

/-- LANE_RESUME (R147, R148): the request suspended most recently continues when nothing of higher class waits; restoring it takes 4 cycles. -/
def laneResume (s : State) (n : Nat) : State :=
  let x := getLane s n
  match x.running, x.susp with
  | none, r :: rest =>
    if resumesFirst x then setLane s n { x with running := some { r with restore := 4, startAt := s.boot.now }, susp := rest } else s
  | _, _ => s

/-- LANE_RESUME (R148). -/
def execLaneResume (lane : Fin 32) (s : State) : Host.Outcome State Fault Refusal := .next (laneResume s lane)

/-- A SERVICE request of this number takes the class NORMAL (R149). -/
def LaneReq.promote (id : Nat) (r : LaneReq) : LaneReq := if r.id = id ∧ r.cls = 0 then { r with cls := 1 } else r

/-- SERVICE_PROMOTION (R149): the request has waited or been suspended for 50 µs, on the lane or in front of its pillow's arbiter. -/
def execServicePromotion (lane : Fin 32) (id : Nat) (s : State) : Host.Outcome State Fault Refusal :=
  let up := LaneReq.promote id
  let s := modLane s lane (fun x => { x with queue := x.queue.map up, susp := x.susp.map up })
  .next (modPil s (lane.val / 2) (fun y => { y with arb := { y.arb with waiting := y.arb.waiting.map (fun e => (e.1, up e.2)), moved := y.arb.moved.map up } }))

/-! ### Results (R140 to R142) -/

/-- A request counted as completed on a lane (R155). -/
def countReq (s : State) (n : Nat) : State := incReg s (cplReg n 0x2C)

/-- A request that has run ends: split work goes on with its next piece at the Firn port (R149), any other request completes (R140). -/
def endReq (s : State) (n : Nat) (r : LaneReq) : State :=
  if r.rest = 0 then completeReq s n r r.status else issuePort s (n / 2) { freshReq s r with cls := 0 }

/-- LANE_RESULT (R140): the running request completes; the private buffer of DECRYPT and ENCRYPT is cleared (R142); DRAINED may be
set, a moved request may enter, and a slot that waited for the request is emptied (R135). -/
def laneResult (s : State) (n : Nat) : State :=
  let x := getLane s n
  match x.running with
  | some r =>
    let clear := if r.op = 3 ∨ r.op = 4 then 24 else 0
    let s := countReq (setLane s n { x with running := none, busy := x.busy + r.left + r.restore + clear }) n
    let s := if r.status = 1 then incReg s (cplReg n 0x30) else s
    slotsSettle (laneDrained (admitMoved (endReq s n r) n) n)
  | none => s

/-- LANE_RESULT (R140). -/
def execLaneResult (lane : Fin 32) (s : State) : Host.Outcome State Fault Refusal := .next (laneResult s lane)

/-! ### Faults (R151 to R153) -/

/-- A frame that the pillow ends under its bobbin: the level stops at its next instruction (R272). -/
def endFrame (s : State) (h code : Nat) : State :=
  let b := (getFrame s h).bind (fun f => f.bobbin)
  let s := finishVerdict s h code 0
  match b with
  | some b => modBob s b (fun x => if x.frame = some h then { x with stop := true, await := none } else x)
  | none => s

/-- CPL_FAULT (R155). -/
def LaneSt.faultWord (x : LaneSt) : Word := pack [(x.faultEngine, 4), (x.faultCause, 0)]

/-- A request inserted into a list kept in admission order. -/
def insertReq (r : LaneReq) : List LaneReq → List LaneReq
  | [] => [r]
  | q :: qs => if r.id ≤ q.id then r :: q :: qs else q :: insertReq r qs

/-- The requests of a lane in their original order (R152). -/
def LaneSt.inOrder (x : LaneSt) : List LaneReq :=
  (x.queue ++ x.susp ++ (match x.running with | some r => [r] | none => [])).foldl (fun a r => insertReq r a) []

/-- Requests that end together on a lane with LANE_FAULT, and the verdict of the frames they end where there is one (R152, R153, R351). -/
def faultReqs (s : State) (n lres : Nat) (verdict : Option Nat) (reqs : List LaneReq) : State :=
  reqs.foldl (fun s r =>
    let s := completeReq (countReq s n) lres r 6
    match verdict, r.frame with
    | some code, some h => endFrame s h code
    | _, _ => s) s

/-- A request that starts again from its beginning: a piece of split work with all of its cycles (R149, R152). -/
def LaneReq.again (r : LaneReq) : LaneReq := if r.started ∧ r.rest ≠ 0 then { r with rest := r.rest + pieceMax } else r

/-- A faulted lane (R151 to R153, R351): its state is cleared, its requests move to the other lane, complete with LANE_FAULT where
that lane does not serve, and end their frames with PAIR_FAIL inside a takeover's window; a request caught in its final step ends its
frame with 0xA1. With both lanes out an ACTIVE may switch over (R346). -/
def faultLane (s : State) (n engine cause : Nat) : State :=
  let x := getLane s n
  if x.st = .selftest ∨ x.st = .service ∨ x.st = .draining then
    let p := n / 2
    let other := if n % 2 = 0 then n + 1 else n - 1
    let final := fun (r : LaneReq) => r.started && r.status == 0 && !r.out.isEmpty && decide (r.remaining s ≤ finalCycles r)
    let caught := match x.running with | some r => if final r then [r] else [] | none => []
    let reqs := x.inOrder.filter (fun r => !caught.contains r)
    let s := setLane s n { x with queue := [], running := none, susp := [], cache := [], faultEngine := engine, faultCause := cause,
                                  stCtrl := false, stDue := false, offDue := true }
    let s := setEvt (setLaneState s n .fault) (cplPage n) 0
    let s := if x.stCtrl && x.st == .selftest then setEvt s (cplPage n) 3 else s
    let s := faultReqs s n n (some 0xA1) caught
    let s := doubleFault s 2 (2 ^ p)
    let moves := !pairFails s p && laneServes s other
    let s := record s 0x0401 0x5 n [(getLane s n).faultWord.toNat, if moves then reqs.length else 0]
    let s :=
      if moves then
        let s := addReg s (cplReg n 0x3C) reqs.length
        admitMoved (modPil s p (fun y => { y with arb := { y.arb with moved := y.arb.moved ++ reqs.map (fun r => freshReq s r.again) } })) other
      else if pairFails s p then faultReqs s n n (some 0xA2) reqs
      else
        let s := faultReqs s n (2 * p) none reqs
        if laneServes s other then s else autoSwitch s
    slotsSettle s
  else s

/-- LANE_FAULT (R152). -/
def execLaneFault (lane : Fin 32) (engine : Fin 8) (cause : Fin 4) (s : State) : Host.Outcome State Fault Refusal :=
  .next (faultLane s lane engine cause)

/-- LANE_FAULT_POWEROFF (R152): a faulted lane without a self-test since is switched off. -/
def execLaneFaultPoweroff (lane : Fin 32) (s : State) : Host.Outcome State Fault Refusal :=
  let x := getLane s lane
  .next (if x.st = .fault ∧ x.offDue = true then laneOff s lane else s)

/-- LANE_SELFTEST_DONE (R151, R155): the self-test of a lane in SELFTEST ends. -/
def selftestDone (s : State) (n : Nat) (pass : Bool) (engine : Nat) : State :=
  let x := getLane s n
  if x.st = .selftest then
    if pass then
      let s := if x.stCtrl then setEvt (setLane s n { x with stCtrl := false }) (cplPage n) 3 else s
      laneEnter s n
    else faultLane s n engine 1
  else s

/-- LANE_SELFTEST_DONE (R151). -/
def execLaneSelftestDone (lane : Fin 32) (pass : Bool) (engine : Fin 8) (s : State) : Host.Outcome State Fault Refusal :=
  .next (selftestDone s lane pass engine)

/-! ### CPL_CTRL (R155) -/

/-- INSVC as written: a clear drains the lane, a set returns a draining lane to SERVICE outside the safe state (R151). -/
def applyInsvc (s : State) (n : Nat) : State :=
  if laneWanted s n then
    if (getLane s n).st = .draining ∧ (getLane s n).stDue = false then admitMoved (setLaneState s n .service) n else s
  else laneDrain s n

/-- A self-test started through CPL_CTRL (R155): from SERVICE or DRAINING the lane first drains. -/
def startSelftest (s : State) (n : Nat) : State :=
  let x := getLane s n
  match x.st with
  | .fault => setLaneState (setLane s n { x with stCtrl := true, offDue := false }) n .selftest
  | .service => laneDrain (setLane s n { x with stCtrl := true, stDue := true }) n
  | .draining => laneDrained (setLane s n { x with stCtrl := true, stDue := true }) n
  | _ => s

/-- The effect of a write to CPL_CTRL: INSVC is stored, SELFTEST is an action. -/
def cplCtrlEffect (n : Nat) (v : Word) (s : State) : State :=
  let s := applyInsvc (setReg s (cplReg n 0x20) (v &&& 1)) n
  if bit v.toNat 1 then startSelftest s n else s

/-- CPL_CTRL as the two rows of the table write it. -/
def cplCtrlWord (selftest insvc : Bool) : Word := pack [(bnat selftest, 1), (bnat insvc, 0)]

/-- CPL_SELFTEST (R155): a write of CPL_CTRL with SELFTEST 1. -/
def execCplSelftest (by_ : Party) (lane : Fin 32) (insvc : Bool) (s : State) : Host.Outcome State Fault Refusal :=
  .next (barWrite s by_ 4 (cplReg lane 0x20) (cplCtrlWord true insvc) (cplCtrlEffect lane (cplCtrlWord true insvc)))

/-- CPL_INSVC (R155): a write of CPL_CTRL with SELFTEST 0. -/
def execCplInsvc (by_ : Party) (lane : Fin 32) (insvc : Bool) (s : State) : Host.Outcome State Fault Refusal :=
  .next (barWrite s by_ 4 (cplReg lane 0x20) (cplCtrlWord false insvc) (cplCtrlEffect lane (cplCtrlWord false insvc)))

end Sys2Proof.Machine
end

