-- ==== Sys2Proof/Machine/StnOps.lean ====
section
/-! DEFINITION. Machine/StnOps.lean: what the station-side outputs and the words of the STN page show (R20, R457 to R464). -/
namespace Sys2Proof.Machine

/-- STN_CFG in force: the thresholds are the reset ones in the safe state, REMOTE_BLOCK following goes on (R464). -/
def rbFollow (s : State) : Bool := fld (getReg s 0x110020) 16 16 == 1

/-- The outputs follow their commands: the domain is on and the isolated link carries frames; unpowered, in reset, with the domain off or
the link lost they are open (R459, R460). -/
def outputsLive (s : State) : Bool := s.pwc.stn && s.stn.linkOk && !s.boot.inReset

/-- SO_1 BLOCK is closed (R461). -/
def blockClosed (s : State) : Bool := outputsLive s && !bit s.stn.ovld 1 && (s.pair.block || (rbFollow s && bit s.stn.si 3))

/-- SO_0 CRYPTO_OK pulses (R462): the port hold released, a master key active, the module neither ZEROISED, in LC_REPAIR, in the start-up
hold nor in the low-power hold, and the health frame arriving. -/
def cryptoOk (s : State) : Bool :=
  outputsLive s && !bit s.stn.ovld 0 && s.boot.phase == .service && !s.boot.portHold && s.firn.kstate == .active && !zeroisedNow s
    && !s.pwc.lpHold && s.stn.health

/-- SO_2 and SO_3 are closed: commanded, not latched open, and not in the safe state (R460, R464). -/
def so2Closed (s : State) : Bool := outputsLive s && !bit s.stn.ovld 2 && s.stn.so2 && !pageSafe s 0x110
def so3Closed (s : State) : Bool := outputsLive s && !bit s.stn.ovld 3 && s.stn.so3 && !pageSafe s 0x110

/-- STN_SI (R464). -/
def stnSiWord (s : State) : Word := pack [(bnat s.stn.linkOk, 31), (s.stn.raw, 8), (s.stn.si, 0)]

/-- STN_OUT (R464). -/
def stnOutWord (s : State) : Word :=
  pack [(s.stn.ovld, 4), (bnat s.stn.so3, 3), (bnat s.stn.so2, 2), (bnat (blockClosed s), 1), (bnat (cryptoOk s), 0)]

/-- STN_EVINFO, STN_EVTLO and STN_EVTHI: the oldest entry, 0 with the FIFO empty (R464). -/
def stnEvInfo (s : State) : Word :=
  match s.stn.events with
  | e :: rest => pack [(1, 31), (bnat (!rest.isEmpty), 30), (bnat e.edge, 29), (e.input, 0)]
  | [] => 0

def stnEvLo (s : State) : Word := match s.stn.events with | e :: _ => w32 e.time | [] => 0
def stnEvHi (s : State) : Word := match s.stn.events with | e :: _ => w32 (e.time / 2 ^ 32) | [] => 0

/-- An event enters the FIFO of 64 entries, or is lost and counted (R464). -/
def stnPush (s : State) (e : StnEvent) : State :=
  if s.stn.events.length < 64 then setEvt { s with stn := { s.stn with events := s.stn.events ++ [e] } } 0x110 0
  else setEvt (incReg s 0x110040) 0x110 1

/-- The CEREMONY input is energised no longer: an open ceremony is cancelled (R371, R459). -/
def ceremonySync (s : State) : State := if ceremonyInput s then s else cerCancel s 0xFF 0x0A

/-- The isolated link stops carrying frames: LINKERR, and the open ceremony is cancelled; what waited on the station side is
discarded (R459, R464). -/
def stnLinkLost (s : State) : State :=
  if s.stn.linkOk then ceremonySync (setEvt { s with stn := { s.stn with linkOk := false, health := false, waiting := [] } } 0x110 3) else s

end Sys2Proof.Machine
end

