-- ==== Sys2Proof/Machine/PowerOps.lean ====
section
/-! DEFINITION. Machine/PowerOps.lean: the words of the PWC pages, the manager's switching requests, and domains coming on (R30, R31, R39,
R435 to R439). -/
namespace Sys2Proof.Machine

/-! ### Words (R439) -/

/-- PWC_RESULT. -/
def pwcResult (s : State) : Word := pack [(bnat s.pwc.busy, 31), (s.pwc.status, 24), (s.pwc.op, 20), (s.pwc.group, 16), (s.pwc.index, 0)]

/-- PWC_MISCON. -/
def pwcMiscon (s : State) : Word :=
  let p := s.pwc
  pack [(bnat p.lpHold, 31), (bnat p.stn, 13), (p.cp, 9), (bnat p.liu, 8), (bnat p.ltu, 7), (p.dram, 5), (bnat p.pcie, 4), (p.port, 0)]

/-- PWC_BOBON of the pillow that PWC_BOBSEL selects. -/
def pwcBobon (s : State) : Word := w32 (s.pwc.bob / 2 ^ (32 * fld (getReg s 0x130038) 3 0))

/-- PWC_CLKSTAT. -/
def pwcClkstat (s : State) : Word := pack [(bnat s.ptp.substitute, 16), (s.pwc.clkOk, 0)]

/-! ### Requests (R435, R439) -/

/-- A request ends with its outcome: REQDONE (R439). -/
def pwcEnd (s : State) (status : Nat) : State := setEvt { s with pwc := { s.pwc with busy := false, status := status } } 0x130 0

/-- A request written to PWC_REQ is held, and its outcome is reported at once where it is refused; otherwise its action begins and
PWC_REQUEST_DONE reports it. -/
def pwcRun (s : State) (v : Word) (refusal : Nat) (action : State → State) : State :=
  let s := storeReg s 0x130024 v
  let s := { s with pwc := { s.pwc with busy := true, status := 0, op := fld v 31 28, group := fld v 27 24, index := fld v 9 0 } }
  if refusal = 0 then action s else pwcEnd s refusal

/-- The word of a request. -/
def pwcWord (op group index : Nat) : Word := pack [(op, 28), (group, 24), (index, 0)]

/-! ### Off (R30, R31, R435) -/

/-- Whether a bobbin may be switched off: 4 STATE for a quarantined one, 2 FLOOR where the pillow holds contexts and would be left without a
scheduled bobbin or without a spare. -/
def bobOffRefusal (s : State) (b : Nat) : Nat :=
  let x := getBob s b
  let p := b / 32
  let others := (schedBobs s p).filter (· != b)
  let spare := (spareOf s p).filter (· != b)
  if bit s.pwc.bob b = false then (if x.role = .quarantined then 4 else 0)
  else if (homedOn s p).isEmpty then 0
  else
    let sched := others.length + (if x.role = .scheduled ∧ spare.isSome = true then 1 else 0)
    let left := if x.role = .scheduled then sched else sched + bnat spare.isSome
    if sched = 0 ∨ left < 2 then 2 else 0

/-- The refusal of an OFF request, 0 where it is accepted: SAFE in the PWC safe state, STATE in the low-power hold, then the conditions of
R435. -/
def offRefusal (s : State) (group index : Nat) : Nat :=
  if pageSafe s 0x130 then 6
  else if s.pwc.lpHold then 4
  else match group with
    | 1 => bobOffRefusal s index
    | 2 =>
      if !(homedOn s index).isEmpty then 1
      else if (bobsOf index).any (bit s.pwc.bob) || bit s.pwc.lane (2 * index) || bit s.pwc.lane (2 * index + 1) then 4 else 0
    | 3 =>
      let x := getLane s index
      if bit s.pwc.lane index = false then 0
      else if x.st = .fault then 0
      else if x.depth ≠ 0 then 1
      else if x.st = .draining then 0 else 4
    | 4 => if portSpeed s index = 0 ∧ pairMode s index = 0 then 0 else 4
    | _ => if s.tamper.cer = .idle ∧ fld (brdCfg s) 1 1 = 0 then 0 else 4

/-- A bobbin withdrawn under steps 2 to 4 of R223: the spare is scheduled in its place and its assignments pass on; its domain goes off as
soon as it holds no frame. -/
def bobWithdraw (s : State) (b : Nat) : State :=
  if bit s.pwc.bob b = false then s
  else
    let p := b / 32
    let spare := if (getBob s b).role = .scheduled then (spareOf s p).filter (· != b) else none
    let s := setRole (endShadow s b) b .idle
    let s := match spare with | some k => setRole (endShadow s k) k .scheduled | none => s
    let s := passAssignments s b spare
    pilSync (if (getBob s b).frame.isNone then bobOff s b else s) p

/-- The station-side domain off or on: its section is as at reset, the page included (R39, R435, R460). -/
def stnSwitch (s : State) (on : Bool) : State :=
  if s.pwc.stn = on then s
  else
    let s := if on then pageReset s 0x110 else stnLinkLost s
    ceremonySync (countSwitch { s with pwc := { s.pwc with stn := on }, stn := StationSt.reset } 5)

/-- The domain of an accepted OFF request goes off. -/
def switchOff (s : State) (group index : Nat) : State :=
  match group with
  | 1 => bobWithdraw s index
  | 2 => pillowOff s index
  | 3 => laneOff s index
  | 4 => portOff s index
  | _ => stnSwitch s false

/-! ### On (R39, R224, R435) -/

/-- A pillow in STARTING enters SERVICE once two of its bobbins and one of its lanes are on. -/
def pilStart (s : State) (p : Nat) : State :=
  let bobs := (bobsOf p).filter (bit s.pwc.bob)
  if (getPil s p).st = .starting ∧ 2 ≤ bobs.length ∧ (bit s.pwc.lane (2 * p) || bit s.pwc.lane (2 * p + 1)) = true then setPilState s p .service
  else s

/-- A bobbin's domain on: it runs the self-test of R224 before it joins. -/
def bobOn (s : State) (b : Nat) : State :=
  if bit s.pwc.bob b then s
  else
    let s := { s with pwc := { s.pwc with bob := maskSet s.pwc.bob b true } }
    let s := setBob s b { Bobbin.init b with role := .testing, quarCount := (getBob s b).quarCount }
    pilStart (countSwitch (reloadBobbin s b) 1) (b / 32)

/-- A pillow's fabric on: STARTING with its last durable assignment. -/
def pillowOn (s : State) (p : Nat) : State :=
  if bit s.pwc.pil p then s
  else
    let s := pageReset { s with pwc := { s.pwc with pil := maskSet s.pwc.pil p true } } (0x40 + p)
    let s := setPil s p { Pillow.init with assign := smapGet (fun _ => defaultAssign) s.durable.assigns p }
    pilStart (countSwitch (setPilState s p .starting) 2) p

/-- A port's MAC domain on: its page at its reset values. -/
def portOn (s : State) (n : Nat) : State :=
  if bit s.pwc.port n then s
  else countSwitch (pageReset { s with pwc := { s.pwc with port := maskSet s.pwc.port n true } } (0x10 + n)) 4

/-- The refusal of an ON request: STATE for a quarantined bobbin, and in the low-power hold. -/
def onRefusal (s : State) (group index : Nat) : Nat :=
  if s.pwc.lpHold then 4 else if group = 1 ∧ (getBob s index).role = .quarantined then 4 else 0

/-- The domain of an accepted ON request comes on. -/
def switchOn (s : State) (group index : Nat) : State :=
  match group with
  | 1 => bobOn s index
  | 2 => pillowOn s index
  | 3 => pilStart (laneOn s index) (index / 2)
  | 4 => portOn s index
  | _ => stnSwitch s true

/-! ### The low-power hold (R438) -/

/-- LPHOLD_ENTER is refused with STATE: a pillow holds a context, the pair is not SINGLE, or the hold is entered already. -/
def lpEnterRefusal (s : State) : Nat := if (ctxList s).isEmpty ∧ s.pair.st = .single ∧ s.pwc.lpHold = false then 0 else 4

/-- What was on, in the order in which PwcSt.saved keeps it. -/
def onNow (s : State) : List Nat := [s.pwc.bob, s.pwc.pil, s.pwc.lane, s.pwc.port, s.pwc.cp, bnat s.pwc.ltu, bnat s.pwc.liu]

/-- Every domain that the hold switches off, with the contents that go with it. -/
def lpDomainsOff (s : State) : State :=
  let s := forAll 512 bobOff s
  let s := forAll 16 pillowOff (forAll 32 laneOff s)
  let s := forAll 4 portOff s
  let s := liuOff (ltuOff (dramOff (dramOff s 0) 1))
  { s with
    pwc := { s.pwc with cp := Nat.land s.pwc.cp 3 }, captures := [], mem := s.mem.filter (fun (e : Nat × Byte) => decide (2 ^ 64 ≤ e.1)) }

/-- Entry to the low-power hold: LPHOLDCHG (R438, R439). -/
def lpEnter (s : State) : State :=
  let saved := onNow s
  let s := lpDomainsOff s
  setEvt { s with pwc := { s.pwc with lpHold := true, saved := saved } } 0x130 3

/-- The LTU and the LIU on again, with their pages at their reset values (R39). -/
def unitsOn (s : State) (ltu liu : Bool) : State :=
  let s := if ltu then ltuOn s else s
  if liu then liuOn s else s

/-- Both DRAM controllers on, with requests for new XTS keys (R293, R438). -/
def dramsOn (s : State) : State :=
  let s := { s with pwc := { s.pwc with dram := 3 } }
  rngRequest (rngRequest s 0 64) 1 64

/-- A bobbin on again with its pillow: self-tested, scheduled, but for the highest one of its pillow, which is the spare. -/
def bobRestore (s : State) (saved b : Nat) : State :=
  if bit saved b ∧ bit s.pwc.bob b = false then
    let last := (bobsOf (b / 32)).all (fun k => decide (k ≤ b) || !bit saved k)
    setRole (bobOn s b) b (if last then .spare else .scheduled)
  else s

/-- The low-power hold left: every domain that was on before comes on (R438). -/
def lpLeave (s : State) : State :=
  let w := fun (k : Nat) => s.pwc.saved.getD k 0
  let s := setEvt { s with pwc := { s.pwc with lpHold := false, saved := [], cp := Nat.lor s.pwc.cp (w 4) } } 0x130 3
  let s := unitsOn (dramsOn s) (w 5 == 1) (w 6 == 1)
  let s := forAll 16 (fun s p => if bit (w 1) p then pillowOn s p else s) s
  let s := forAll 32 (fun s n => if bit (w 2) n then pilStart (laneOn s n) (n / 2) else s) s
  let s := forAll 512 (fun s b => bobRestore s (w 0) b) s
  forAll 4 (fun s n => if bit (w 3) n then portOn s n else s) s

end Sys2Proof.Machine
end

