-- ==== Sys2Proof/Machine/Units.lean ====
section
/-! DEFINITION. Machine/Units.lean: the lattice transform unit, the long-integer unit, and the identity and public-key commands (R186
to R209, R437). -/
namespace Sys2Proof.Machine

/-! ### LTU -/

/-- LTU_OPERATION (R186, R190): the control cluster issues an operation with its input bytes. -/
def execLtuOperation (op : LtuOp) (input : List Byte) (s : State) : Host.Outcome State Fault Refusal :=
  .next (ltuIssue s op input)

/-- The unit idle again, with nothing running. -/
def ltuIdle (s : State) : State := { s with ltu := { s.ltu with st := .idle, op := none, input := [], rnd := none } }

/-- The running operation ends (R188 to R190): a signing attempt of 64 iterations is discarded and starts again with fresh rnd, for which it
waits if need be, or ends with RNG; a fault puts the unit in FAULT, where every waiting operation ends; otherwise the result is given. -/
def ltuDone (s : State) (iters : Nat) (fault : Bool) : State :=
  if s.ltu.st ≠ .busy then s
  else if fault then
    let s := ltuClear s .fault
    setEvt (incReg (ltuEnd s 2 []) 0x9002C) 0x90 0
  else if s.ltu.op = some .dsaSign ∧ 64 ≤ iters then
    let input := s.ltu.input
    ltuGo (ltuStart (ltuIdle (ltuRestart s)) .dsaSign input)
  else
    let s := if s.ltu.op = some .dsaSign then { s with ltu := { s.ltu with maxIter := max s.ltu.maxIter iters } } else s
    let (r, s) := ltuResult s
    ltuGo (incReg (ltuEnd (ltuIdle s) 0 r) 0x90024)

/-- LTU_OPERATION_DONE (R188). -/
def execLtuOperationDone (iters : Nat) (fault : Bool) (s : State) : Host.Outcome State Fault Refusal := .next (ltuDone s iters fault)

/-! ### LIU (R202) -/

/-- SETMOD (R202): n := SRCA, with the Montgomery constants. -/
def execSetmod (w : LiuWord) (s : State) : Host.Outcome State Fault Refusal := .next (liuIssue s w.pub (liuCmdOf 0x01 w 0))

/-- MONTMUL (R202): DST := SRCA·SRCB·2^(−64L) mod n. -/
def execMontmul (w : LiuWord) (s : State) : Host.Outcome State Fault Refusal := .next (liuIssue s w.pub (liuCmdOf 0x02 w 0))

/-- MODADD (R202). -/
def execModadd (w : LiuWord) (s : State) : Host.Outcome State Fault Refusal := .next (liuIssue s w.pub (liuCmdOf 0x03 w 0))

/-- MODSUB (R202). -/
def execModsub (w : LiuWord) (s : State) : Host.Outcome State Fault Refusal := .next (liuIssue s w.pub (liuCmdOf 0x04 w 0))

/-- TOMONT (R202). -/
def execTomont (w : LiuWord) (s : State) : Host.Outcome State Fault Refusal := .next (liuIssue s w.pub (liuCmdOf 0x05 w 0))

/-- FROMMONT (R202). -/
def execFrommont (w : LiuWord) (s : State) : Host.Outcome State Fault Refusal := .next (liuIssue s w.pub (liuCmdOf 0x06 w 0))

/-- MUL (R202). -/
def execMul (w : LiuWord) (s : State) : Host.Outcome State Fault Refusal := .next (liuIssue s w.pub (liuCmdOf 0x07 w 0))

/-- COPY (R202). -/
def execCopy (w : LiuWord) (s : State) : Host.Outcome State Fault Refusal := .next (liuIssue s w.pub (liuCmdOf 0x08 w 0))

/-- ZERO (R202). -/
def execZero (w : LiuWord) (s : State) : Host.Outcome State Fault Refusal := .next (liuIssue s w.pub (liuCmdOf 0x09 w 0))

/-- CMP (R202): LIU_STATE.CMP := the sign of SRCA − SRCB. -/
def execLiuCmp (w : LiuWord) (s : State) : Host.Outcome State Fault Refusal := .next (liuIssue s w.pub (liuCmdOf 0x0A w 0))

/-- EXPPUB (R202). -/
def execExppub (w : LiuWord) (s : State) : Host.Outcome State Fault Refusal := .next (liuIssue s w.pub (liuCmdOf 0x0B w 0))

/-- EXPSEC (R202). -/
def execExpsec (w : LiuWord) (s : State) : Host.Outcome State Fault Refusal := .next (liuIssue s w.pub (liuCmdOf 0x0C w 0))

/-- KEYIN (R202): the key of a control-cluster blob into a secret register. -/
def execKeyin (w : LiuWord) (blob : Nat) (s : State) : Host.Outcome State Fault Refusal := .next (liuIssue s w.pub (liuCmdOf 0x0D w blob))

/-- LIU_ABORT (R205). -/
def execLiuAbort (s : State) : Host.Outcome State Fault Refusal := .next (liuAbort s)

/-- LIU_SELFTEST (R202, R204): the known-answer tests start. -/
def execLiuSelftest (s : State) : Host.Outcome State Fault Refusal := .next (liuIssue s [] ⟨0x0F, 0, 0, 0, false, 1, 0⟩)

/-- LIU_COMMAND_DONE (R204). -/
def execLiuCommandDone (residueOk : Bool) (s : State) : Host.Outcome State Fault Refusal := .next (liuDone s residueOk)

/-! ### Idle gating (R437) -/

/-- UNIT_IDLE_GATE (R437). -/
def execUnitIdleGate (u : IdleUnit) (s : State) : Host.Outcome State Fault Refusal := .next (unitGate s u)

/-- CP_IDLE_GATE (R437): CP_2 or CP_3. -/
def execCpIdleGate (cp : Fin 2) (s : State) : Host.Outcome State Fault Refusal := .next (cpGate s (2 + cp))

/-! ### Commands 0x50 to 0x53 (R192 to R199, R207, R208) -/

/-- ID_READ (R193): the identity public key, then the certificate chain; a buffer too small for both is BAD_FORMAT. -/
def idRead (s : State) (sl : Slot) : State × MbxRes :=
  match s.lc.idPub with
  | none => (s, MbxRes.refuse 0x03)
  | some pub =>
    let bs := beBytes 2592 pub ++ s.lc.certChain
    if sl.rlen < bs.length then (s, MbxRes.refuse 0x01) else (s, MbxRes.ok 0 bs)

/-- ID_READ (R193). -/
def execIdRead (sl : Slot) (s : State) : Host.Outcome State Fault Refusal := .next (mbxRun s sl 0x50 (some 0x04) (fun s => idRead s sl))

/-- The 96 BAR0 pages in ascending order (R33, R198). -/
def allPages : List Nat := (List.range 0x150).filter (fun p => (pageBlock p).isSome)

/-- BLK_ID of a page (R41). -/
def blkId (p : Nat) : Word :=
  match pageBlock p with
  | some (c, n, i) => pack [(c, 16), (n, 8), (i, 0)]
  | none => 0

/-- A map of one bit per CRC entry, 16 bytes (R197). -/
def crcMap (f : Nat → Bool) : List Byte :=
  leBytes 16 ((allPages.zip (List.range 96)).foldl (fun a e => a + bnat (f e.1) * 2 ^ e.2) 0)

/-- The CRC entries: BLK_ID and BLK_CFGREF, 0 in a switched-off domain (R198). -/
def crcEntries (s : State) : List Byte :=
  allPages.flatMap (fun p => leBytes 4 (blkId p).toNat ++ leBytes 4 (if pageOn s p then (getPage s p).cfgRef.toNat else 0))

/-- The pillows on which an image serves homed contexts (R197, R198). -/
def imagePillows (s : State) (m : Image) : Nat :=
  (List.range 16).foldl (fun a p =>
    let serves := (homedOn s p).any (fun e => match imageFor s p e.2.kind e.2.pubDir with
      | some x => x.pgmId == m.pgmId && x.pgmVer == m.pgmVer
      | none => false)
    a + bnat serves * 2 ^ p) 0

/-- An image inserted in ascending PGMID, then PGMVER order. -/
def insertImage (m : Image) : List Image → List Image
  | [] => [m]
  | x :: xs => if x.pgmId < m.pgmId ∨ (x.pgmId = m.pgmId ∧ x.pgmVer < m.pgmVer) then x :: insertImage m xs else m :: x :: xs

/-- The images in service, ordered (R198). -/
def servingImages (s : State) : List Image :=
  (s.images.filter (fun m => imagePillows s m != 0)).foldl (fun l m => insertImage m l) []

/-- The running firmware image. -/
def runningImage (s : State) : FwImage := if s.boot.slot = 0 then s.boot.imageA else s.boot.imageB

/-- FLAGS of the attestation report (R197). -/
def attestFlags (s : State) : Nat :=
  bnat s.tamper.zeroised + 2 * bnat (s.lc.views != 0) + 4 * bnat (allPages.any (fun p => pageOn s p && bit (getPage s p).stat 23))
    + 8 * bnat (s.pair.st == .active) + 16 * bnat (s.pair.st == .standby)

/-- The bytes of an attestation report before its signature (R197, R198). -/
def attestBody (s : State) (nonce : List Byte) : List Byte :=
  let img := runningImage s
  let pg := servingImages s
  leBytes 4 0x4B584154 ++ leBytes 2 1 ++ [b8 s.lc.st.code, b8 (attestFlags s)] ++ nonce
    ++ leBytes 8 (s.ptp.sec % 2 ^ 48) ++ leBytes 4 (ptpStateWord s).toNat ++ leBytes 4 s.boot.bootCnt
    ++ beBytes 32 (deviceFpr s) ++ beBytes 64 (Config.sha3 (fwHead img)) ++ leBytes 4 img.fwVer ++ leBytes 4 img.svn ++ [b8 s.boot.slot] ++ leBytes 3 0
    ++ leBytes 4 s.lc.svnMin ++ leBytes 4 (match activeRec s.firn with | some r => r.seq | none => 0) ++ leBytes 4 0
    ++ leBytes 2 pg.length ++ leBytes 2 96 ++ leBytes 12 0
    ++ crcMap (fun p => pageOn s p && bit (getPage s p).stat 23) ++ crcMap (fun p => !pageOn s p) ++ crcEntries s
    ++ pg.flatMap (fun m => leBytes 4 m.pgmId ++ leBytes 2 (imagePillows s m) ++ leBytes 2 0 ++ m.whole)

/-- The LTU cannot work for a command: its status, 0 where it can (R191, R208). -/
def ltuBar (s : State) : Nat := match s.ltu.st with | .aborted => 0x0B | .fault => 0x0A | _ => 0

/-- The report of ATTEST with its signature, or RNG where a restart of the signature got no rnd (R189, R197, R199). -/
def attestSign (s : State) (nonce : List Byte) (rnd : Nat) : State × MbxRes :=
  if !s.lc.identity then (s, MbxRes.refuse 0x03)
  else if ltuBar s ≠ 0 then (s, MbxRes.refuse (ltuBar s))
  else
    let body := attestBody s nonce
    match ltuSign s rnd with
    | (s, some r) => (s, MbxRes.ok 0 (body ++ identitySign s (Config.sha3 body) r))
    | (s, none) => (s, MbxRes.refuse 0x02)

/-- ATTEST (R197 to R199). -/
def attest (s : State) (sl : Slot) (nonce : List Byte) : State × MbxRes :=
  if nonce.length ≠ 32 ∨ sl.rlen < 10227 then (s, MbxRes.refuse 0x01)
  else match s.lc.st with
    | .blank | .factoryTest => (s, MbxRes.refuse 0x03)
    | .scrap | .repair | .invalid => (s, MbxRes.refuse 0x04)
    | .sealed | .field | .ret =>
      if !s.lc.identity then (s, MbxRes.refuse 0x03)
      else if ltuBar s ≠ 0 then (s, MbxRes.refuse (ltuBar s))
      else match rngAsk s 32 (.attest sl nonce) with
        | .now rnd s => attestSign s nonce rnd
        | .later s => (s, MbxRes.later)
        | .refused => (s, MbxRes.refuse 0x02)

/-- ATTEST (R197). -/
def execAttest (sl : Slot) (nonce : List Byte) (s : State) : Host.Outcome State Fault Refusal :=
  .next (mbxRun s sl 0x51 (some 0x04) (fun s => attest s sl nonce))

/-- SVN_ADVANCE (R196): the thermometer word reaches the target. How the completion reports it is not stated: RESULT is an open value. -/
def svnAdvance (s : State) (target : Nat) : State × MbxRes :=
  if s.lc.st ≠ .sealed ∧ s.lc.st ≠ .field then (s, MbxRes.refuse 0x04)
  else if target ≤ s.lc.svnMin ∨ (runningImage s).svn < target then (s, MbxRes.refuse 0x0C)
  else
    let old := s.lc.svnMin
    let s := record { s with lc := { s.lc with svnMin := target } } 0x0014 0 0 [old, target]
    let (r, s) := draw s
    (s, MbxRes.ok (r % 2 ^ 32))

/-- SVN_ADVANCE (R196). -/
def execSvnAdvance (sl : Slot) (target : Nat) (s : State) : Host.Outcome State Fault Refusal :=
  .next (mbxRun s sl 0x52 (some 0x04) (fun s => svnAdvance s target))

/-- The library service that a certificate's signature needs, none for an algorithm that the module does not support (R207, R208). -/
def certCall (c : CertIn) : Option LibCall :=
  match c.alg with
  | .rsa => some (.rsaVerify c.n c.sigR c.lengthsOk)
  | .ecdsaP256 => some (.ecdsaVerify .p256 c.sigR c.sigS c.x c.y c.lengthsOk)
  | .ecdsaP384 => some (.ecdsaVerify .p384 c.sigR c.sigS c.x c.y c.lengthsOk)
  | .otherCurve => some (.ecdsaVerify .other c.sigR c.sigS c.x c.y c.lengthsOk)
  | .unsupported => none

/-- The status of the library's input checks, in their order (R207); 0 where none fails. -/
def certStatus (c : CertIn) : Nat := match certCall c with | some l => libStatus l | none => 0x01

/-- The code of a certificate algorithm for the verification that Config leaves open. -/
def certCode : CertAlg → Nat
  | .rsa => 0 | .ecdsaP256 => 1 | .ecdsaP384 => 2 | .unsupported => 3 | .otherCurve => 4

/-- CERT_CHECK (R207, R208). The LIU commands that the library runs are counted as an open number. -/
def certCheck (s : State) (c : CertIn) : State × MbxRes :=
  let s := liuWake s
  if c.alg = .unsupported then (s, MbxRes.refuse 0x01)
  else if s.liu.st = .aborted then (s, MbxRes.refuse 0x0B)
  else if s.liu.st = .fault then (s, MbxRes.refuse 0x0A)
  else
    let (k, s) := draw s
    let s := addReg s 0x91024 k
    let st := certStatus c
    if st ≠ 0 then (libReject s (if c.alg = .rsa then 1 else 4) st, MbxRes.refuse st)
    else if Config.certVerify (certCode c.alg) [c.n, c.e, c.x, c.y, c.sigR, c.sigS] c.tbs then (s, MbxRes.ok)
    else (s, MbxRes.refuse 0x09)

/-- CERT_CHECK (R208). -/
def execCertCheck (sl : Slot) (c : CertIn) (s : State) : Host.Outcome State Fault Refusal :=
  .next (mbxRun s sl 0x53 (some 0x04) (fun s => certCheck s c))

end Sys2Proof.Machine
end

