-- ==== Sys2Proof/Machine/TamperOps.lean ====
section
/-! DEFINITION. Machine/TamperOps.lean: the tamper response and the closing of debug views (R154, R183, R184, R357 to R365, R392). -/
namespace Sys2Proof.Machine

/-! ### Sources (R357 to R359) -/

/-- The sources that cannot be disabled: MESH0, MESH1 and bits 6 to 11 (R357, R358). -/
def alwaysSources : Nat := 0xFC3

/-- TMP_SRCEN (R378). -/
def sourcesEnabled (s : State) : Nat := Nat.lor alwaysSources (Nat.land s.tamper.srcEn 0x3C)

/-- The tamper response is armed in this life-cycle state (R359). -/
def tamperArmed (s : State) : Bool := s.lc.st == .sealed || s.lc.st == .field || s.lc.st == .repair

/-- TMP_ACTIVE follows the sources, every change SRCCHG (R378). -/
def setActive (s : State) (m : Nat) : State :=
  if m = s.tamper.active then s else setEvt { s with tamper := { s.tamper with active := m } } 0xE0 1

/-- The moment of each source's last trip, for the clean second of R376. -/
def noteTrips (s : State) (m : Nat) : State :=
  { s with tamper := { s.tamper with
    trips := s.tamper.trips.filter (fun e => !bit m e.1) ++ ((List.range 12).filter (bit m)).map (fun b => (b, s.boot.now)) } }

/-! ### Debug views (R392, R394) -/

/-- Halted bobbins resume: the bobbins of their pillows that are scheduled or spare run the self-test again (R224, R392). -/
def resumeHalted (s : State) : State :=
  let pils := (s.lc.halted.map (fun b => b / 32)).eraseDups
  let s := { s with lc := { s.lc with halted := [] } }
  pils.foldl (fun s p => (bobsOf p).foldl (fun s b =>
    if (getBob s b).role = .scheduled ∨ (getBob s b).role = .spare then setRole s b .testing else s) s) s

/-- The debug views close: halted bobbins resume, DEBUGCHG and a DEBUG record (R392, R394). -/
def debugClose (s : State) : State :=
  if s.lc.views = 0 then s
  else
    let v := s.lc.views
    let cer := s.lc.viewCer
    let s := resumeHalted s
    let s := setEvt { s with lc := { s.lc with views := 0, viewEnd := 0, viewCer := 0 } } 0x00 1
    morSync (record s 0x0705 0x1 0 [v, cer, 0])

/-- The debug views open (R391, R392). -/
def debugOpen (s : State) (views seconds cer : Nat) : State :=
  let s := setEvt { s with lc := { s.lc with views := views, viewEnd := s.boot.now + seconds * 1000000000, viewCer := cer } } 0x00 1
  record s 0x0705 0x1 0 [views, cer, 1]

/-! ### Erasure (R154, R183, R184) -/

/-- A lane request ends with ZEROISED: a bobbin has its LRES, and the Firn port returns no key (R154). -/
def reqZeroised (s : State) (n : Nat) (r : LaneReq) : State :=
  if r.bobbin.isSome then completeFrameReq s n r 4 else { s with firn := { s.firn with portResult := some (r.op, 4, 0) } }

/-- Every lane that is on stops, cleared, in ABORTED; what it held ends with ZEROISED, counted as completed (R154, R155). -/
def lanesTamper (s : State) : State :=
  forAll 32 (fun s n =>
    let x := getLane s n
    if x.st = .off then s
    else
      let reqs := x.running.toList ++ x.susp ++ x.queue
      let s := setLaneState s n .aborted
      let s := modLane s n (fun x => { x with queue := [], running := none, susp := [], cache := [], stCtrl := false, stDue := false, offDue := false })
      reqs.foldl (fun s r => reqZeroised (incReg s (cplReg n 0x2C)) n r) s) s

/-- What waits for an unwrap or a derivation, at an arbiter, or to move to another lane, ends with ZEROISED: the requests at the arbiters are
admitted before the Firn zeroisation is complete (R144, R154). -/
def needsTamper (s : State) : State :=
  let s := s.firn.needs.foldl (fun s n => n.waiters.foldl (fun s w =>
    if w.2.bobbin.isSome then completeUnlaned s n.via w.2 4 else s) s) { s with firn := { s.firn with needs := [] } }
  forAll 16 (fun s p =>
    let a := (getPil s p).arb
    let s := modPil s p (fun y => { y with arb := { y.arb with moved := [], waiting := [] } })
    let s := a.moved.foldl (fun s r => reqZeroised s (2 * p) r) s
    a.waiting.foldl (fun s w => if w.2.bobbin.isSome then completeUnlaned s p w.2 4 else reqZeroised s (2 * p) w.2) s) s

/-- A staging load cannot end any more: its context returns to NONE, and leaves the schedule (R154, R168, R184). -/
def loadsTamper (s : State) : State :=
  (ctxList s).foldl (fun s e =>
    let c := { e.2 with changes := e.2.changes.filter (fun ch => match ch with | .stage .. | .loaded .. => false | .modify .. | .commit .. | .unstage => true) }
    if c.nstate = 1 then unschedule (setCtx s e.1 (some c.unstage)) e.1 else setCtx s e.1 (some c)) s

/-- Slots, records A and B and every staged secret cleared: KSTATE ZEROISED (R183). -/
def firnErase (s : State) : State :=
  let s := s.firn.slots.foldl (fun s e =>
    { s with firn := { s.firn with gens := smapMod (fun _ => 0) s.firn.gens e.1 (· + 1) } }) s
  let s := { s with firn := { s.firn with
    slots := [], comps := [], recA := .empty, recB := .empty, rewrapped := 0, rewrapNext := 0, mmkKcv := 0 } }
  let s := setDram s 0 { s.pool.dram0 with keyVal := false, key := 0 }
  let s := setDram s 1 { s.pool.dram1 with keyVal := false, key := 0 }
  setKState s .zeroised

/-- The ZEROISED status of a command's family; none where the family goes on (R184, R354, R362). -/
def zeroisedStatus (code : Nat) : Option Nat :=
  if code / 16 = 4 then some 0x07 else if code / 16 = 7 then some 0x06 else if code / 16 = 8 then some 0x0E else none

/-- What a command that the tamper line ended had done without its record ever becoming durable (R179, R180, R184): a bundle's record carries
ZEROISED, and the officer table and the code-signing key are those of NAND. -/
def undoItem (s : State) (it : JItem) : State :=
  match it with
  | .bundle p => record s 0x0500 0x6 0 (p ++ [0x07])
  | .officers _ => { s with tamper := { s.tamper with officers := s.durable.officers } }
  | .codeKey _ => { s with tamper := { s.tamper with codeKey := s.durable.codeKey } }
  | _ => s

/-- A command that waits for bytes of Flurry: its slot and code. -/
def CcNeed.command : CcNeed → Option (Slot × Nat)
  | .kemGenerate sl _ => some (sl, 0x46)
  | .ceremonyOpen sl _ _ _ => some (sl, 0x80)
  | .gdoi sl _ => some (sl, 0x4A)
  | .ltuSign | .attest _ _ | .logSeal _ _ _ _ => none

/-- A key or ceremony command that waits for bytes of Flurry ends with ZEROISED; its request is served for nobody (R184, R362). -/
def rngWaitTamper (s : State) : State :=
  let ended := s.rng.waiting.filterMap (fun r => r.need.bind CcNeed.command)
  let s := { s with rng := { s.rng with
    waiting := s.rng.waiting.map (fun r => if (r.need.bind CcNeed.command).isSome then { r with need := none } else r) } }
  ended.foldl (fun s e => mbxFinish s e.1 e.2 (MbxRes.refuse ((zeroisedStatus e.2).getD 0))) s

/-- Commands in progress end ZEROISED, and no journal record of theirs is ever made durable (R184, R362). -/
def commandsTamper (s : State) : State :=
  let hit := fun (r : JRec) => match r.done with | some d => (zeroisedStatus d.code).isSome | none => (zeroisedStatus r.cmd).isSome
  let ended := s.journal.filter hit
  let stage := s.firn.stageCmds
  let commit := s.firn.commitCmds
  let s := { s with journal := s.journal.filter (fun r => !hit r), firn := { s.firn with stageCmds := [], commitCmds := [] } }
  let bundle := fun (r : JRec) => r.items.any (fun it => match it with | .bundle _ | .officers _ | .codeKey _ => true | _ => false)
  let s := (ended.filter bundle).foldl (fun s r => r.items.foldl undoItem s) s
  let s := ended.foldl (fun s r => match r.done with
    | some d => mbxPost s { d with status := (zeroisedStatus d.code).getD 0, resLen := 0, result := 0 }
    | none => s) s
  let s := stage.foldl (fun s e => mbxFinish s e.2 0x41 (MbxRes.refuse 0x07)) s
  let s := commit.foldl (fun s e => mbxFinish s e.1 0x42 (MbxRes.refuse 0x07)) s
  let s := rngWaitTamper s
  match s.pair.cmd with
  | some sl => bindFails s sl 6
  | none => s

/-- A ZEROISED notice to every slice that is not FREE (R317, R361). -/
def zeroisedNotices (s : State) : State :=
  s.slices.foldl (fun s e => if e.2.st = .free then s else notice s e.1 0 0x06 0) s

/-- The erasure of R183 and the actions of R361, short of the record. -/
def zeroise (s : State) : State :=
  let entered := !s.tamper.zeroised
  let s := pairDying { s with tamper := { s.tamper with zeroised := true }, lc := { s.lc with idKey := none } }
  let s := needsTamper (lanesTamper s)
  let s := loadsTamper (commandsTamper s)
  let s := cerCancel s 0xFF 0x0E
  let s := firnErase s
  let s := rngTamper (liuTamper (ltuTamper s))
  let s := debugClose s
  let s := doubleFault s 5 0
  if entered then zeroisedNotices s else s

/-- An event kept by the tamper die while the module is in reset or its main supply is off (R363): slots 1 to 31, then slot 32 for the
latest, with the count of those that found every slot full. -/
def batteryEvent (s : State) (m : Nat) : State :=
  let l := s.tamper.batRecs
  let count := s.boot.now * 32768 / 1000000000
  let l' := if l.length < 32 then l ++ [⟨m, count, 0⟩] else l.take 31 ++ [⟨m, count, (l.getLastD ⟨0, 0, 0⟩).lost + 1⟩]
  { s with
    tamper := { s.tamper with batRecs := l', zeroised := true }
    firn := { s.firn with recA := .empty, recB := .empty, kstate := .zeroised } }

end Sys2Proof.Machine
end

