-- ==== Sys2Proof/Machine/LifeOps.lean ====
section
/-! DEFINITION. Machine/LifeOps.lean: the life-cycle word, its decoding, and the transitions (R382 to R390). -/
namespace Sys2Proof.Machine

/-- The START and DONE group of transition k in LCW (R383). -/
def lcwStart (lcw k : Nat) : Nat := lcw / 2 ^ (8 * (k - 1)) % 16
def lcwDone (lcw k : Nat) : Nat := lcw / 2 ^ (8 * (k - 1) + 4) % 16

/-- The state that transition k reaches (R383); 0 is BLANK. -/
def lcReached (k : Nat) : Lc :=
  match k with | 0 => .blank | 1 => .factoryTest | 2 => .sealed | 3 => .field | 4 => .ret | _ => .scrap

/-- The first transition from k on whose START or DONE is not SET, with some fuel; 6 for none. -/
def lcFirst (lcw : Nat) : Nat → Nat → Nat
  | 0, _ => 6
  | fuel + 1, k => if k ≤ 5 ∧ lcwStart lcw k = 15 ∧ lcwDone lcw k = 15 then lcFirst lcw fuel (k + 1) else min k 6

/-- lc_decode of R383: the state, and in LC_REPAIR the code of the target. -/
def lcDecode (lcw : Nat) : Lc × Nat :=
  let k := lcFirst lcw 5 1
  if lcw / 2 ^ 40 ≠ 0 then (.invalid, 0)
  else if 6 ≤ k then (.scrap, 0)
  else if lcw / 2 ^ (8 * k) ≠ 0 then (.invalid, 0)
  else
    let a := lcwStart lcw k
    let d := lcwDone lcw k
    if a = 0 ∧ d = 0 then (lcReached (k - 1), 0)
    else if a = 0 ∨ d = 15 then (.invalid, 0)
    else (.repair, (lcReached k).code)

/-- Firn is zeroised: KSTATE ZEROISED or NOMMK, no master-key record STAGED (R382, R385). -/
def firnZeroised (s : State) : Bool :=
  (s.firn.kstate == .zeroised || s.firn.kstate == .nommk)
    && !stagedRec s.firn

/-- The groups of a transition programmed, as far as the outcome lets them be (R385): a group that fails is PART in bits that are open. -/
def lcProgram (s : State) (k : Nat) (otp : OtpOutcome) : State :=
  let base := 2 ^ (8 * (k - 1))
  let put := fun (s : State) (g : Nat) => { s with lc := { s.lc with lcw := Nat.lor s.lc.lcw (g * base) } }
  match otp with
  | .done => put s 0xFF
  | .startNone => s
  | .startPart => let (d, s) := draw s; put s (1 + d % 14)
  | .donePart => let (d, s) := draw s; put s (15 + 16 * (d % 15))

/-- Steps 1 to 4 of a transition (R385, R392): the first record, the groups, and with every bit programmed the second record and the reset
that is due; the status of the command. -/
def lcTransition (s : State) (k : Nat) (otp : OtpOutcome) : State × Nat :=
  let s := record (debugClose s) 0x0703 0x1 0 [k, 1]
  let s := lcProgram s k otp
  match otp with
  | .done =>
    let s := record s 0x0703 0x1 0 [k, 4]
    ({ s with lc := { s.lc with running := true, resetDue := true } }, 0)
  | .startNone | .startPart | .donePart => (s, 0x08)

/-- LC_RETURN, the inner command of a ceremony (R385, R393). -/
def lcReturn (s : State) (b : List Byte) (otp : OtpOutcome) : State × Nat :=
  if b ≠ [] then (s, 0x01)
  else if s.lc.st ≠ .field then (s, 0x02)
  else if s.lc.running then (s, 0x05)
  else if s.tamper.zeroised = false ∨ firnZeroised s = false then (s, 0x03)
  else lcTransition s 4 otp

end Sys2Proof.Machine
end

