-- ==== Sys2Proof/Machine/Tamper.lean ====
section
/-! DEFINITION. Machine/Tamper.lean: tamper sources, officers and ceremonies (R357 to R378). -/
namespace Sys2Proof.Machine

/-! ### Sources -/

/-- A tamper event of enabled sources in an armed state (R361, R362): one erasure, one record for each source in ascending order. While the
module is in reset, the tamper die keeps it (R363). During boot the DRAM controllers whose keys were drawn draw new ones (R19, R362). -/
def tamperEvent (s : State) (m : Nat) : State :=
  let s := { s with tamper := { s.tamper with last := m, evCnt := min (s.tamper.evCnt + 1) 0xFFFFFFFF } }
  if s.boot.inReset then batteryEvent { s with tamper := { s.tamper with active := Nat.lor s.tamper.active m } } m
  else
    let s := noteTrips (setActive s (Nat.lor s.tamper.active m)) m
    let booting := (s.boot.phase == .rom || s.boot.phase == .firmware) && dramKeyed s
    let s := zeroise (setEvt s 0xE0 0)
    let s := if booting then rngRequest (rngRequest s 0 64) 1 64 else s
    ((List.range 12).filter (bit m)).foldl (fun s b => record s 0x0700 0xD 0 [2 ^ b, 0]) s

/-- TAMPER_DETECT (R361): the sources among those given that are enabled trip in one cycle. -/
def execTamperDetect (sources : BitVec 12) (s : State) : Host.Outcome State Fault Refusal :=
  .next (
    let m := Nat.land sources.toNat (sourcesEnabled s)
    if tamperArmed s && m != 0 then tamperEvent s m else s)

/-- TAMPER_SOURCE_EVENT (R358, R359): a source enters its tripped condition without asserting the tamper line, or leaves it; in an unarmed
state the trip is recorded. -/
def sourceEvent (s : State) (b : Nat) (tripped : Bool) : State :=
  if tripped then
    if tamperArmed s && bit (sourcesEnabled s) b then s
    else
      let s := noteTrips (setActive s (Nat.lor s.tamper.active (2 ^ b))) (2 ^ b)
      if tamperArmed s then s else record s 0x0700 0xD 0 [2 ^ b, 0]
  else setActive s (if bit s.tamper.active b then s.tamper.active - 2 ^ b else s.tamper.active)

/-- TAMPER_SOURCE_EVENT (R359). While the module is in reset, the tamper die keeps the source's condition alone. -/
def execTamperSourceEvent (src : Fin 12) (tripped : Bool) (s : State) : Host.Outcome State Fault Refusal :=
  .next (if s.boot.inReset then { s with tamper := { s.tamper with active := (sourceEvent s src tripped).tamper.active } }
    else sourceEvent s src tripped)

/-- A persistent mesh breach (R360): IDKILL is programmed and the identity seed erased; in reset, at the next power-up. -/
def meshBreach (s : State) : State :=
  if s.boot.inReset then { s with tamper := { s.tamper with breachDue := true } }
  else { s with lc := { s.lc with idKill := true, idKey := none, seedA := none, seedB := none } }

/-- MESH_MEASUREMENT (R357, R360): consecutive failures of MESH0 and MESH1; the eighth is a persistent breach. The trip itself is
TAMPER_DETECT. -/
def execMeshMeasurement (source : Fin 4) (ok : Bool) (s : State) : Host.Outcome State Fault Refusal :=
  .next (
    let n := if source.val = 0 then s.tamper.meshFail0 else s.tamper.meshFail1
    let n' := if ok then 0 else min (n + 1) 8
    let t := s.tamper
    if 2 ≤ source.val then s
    else
      let s := { s with tamper := if source.val = 0 then { t with meshFail0 := n' } else { t with meshFail1 := n' } }
      if n = 7 ∧ n' = 8 ∧ tamperArmed s = true then meshBreach s else s)

/-- MESH_SEED_REFRESH (R357): eight bytes from Flurry; while it is fatal, and in reset, the die continues from its last seed. -/
def execMeshSeedRefresh (s : State) : Host.Outcome State Fault Refusal :=
  .next (if s.boot.inReset then s else rngRequest s 4 8)

/-- TAMPER_TEMP_MEASUREMENT (R378): TMP_TEMP, and TEMPWARN while it lies within 5 °C of −45 °C or +100 °C, or beyond. -/
def execTamperTempMeasurement (temp : BitVec 16) (s : State) : Host.Outcome State Fault Refusal :=
  .next (
    let t := sgn 16 temp.toNat
    condSet { s with tamper := { s.tamper with temp := temp.toNat } } 0xE0 4 (decide (t ≤ -640 ∨ 1520 ≤ t)))

/-- VBAT_LOW_WARNING (R364): a low VBAT with the main supply present. -/
def execVbatLowWarning (mv : Nat) (s : State) : Host.Outcome State Fault Refusal :=
  .next (if s.boot.inReset || decide (2700 ≤ mv) then s
    else record { s with tamper := { s.tamper with vbat := mv } } 0x0701 0xD 0 [mv])

/-! ### Officers (R367, R368) -/

/-- The entries of an officer table block. -/
def tableEntries (b : List Byte) : List Officer :=
  (List.range (leOf b 0 1)).map (fun i => ⟨leOf b (4 + 2596 * i) 1, leOf b (5 + 2596 * i) 1, ofBe (slice b (8 + 2596 * i) 2592), 0⟩)

/-- The length of the table that a block begins with. -/
def tableLen (b : List Byte) : Nat := 4 + 2596 * leOf b 0 1

/-- A table that R367 refuses with BAD_FORMAT. -/
def tableBad (b : List Byte) : Bool :=
  let n := leOf b 0 1
  let es := tableEntries b
  decide (n < 2) || decide (16 < n) || decide (b.length < tableLen b) || leOf b 1 3 != 0
    || (List.range n).any (fun i => leOf b (6 + 2596 * i) 2 != 0)
    || es.any (fun o => decide (16 ≤ o.index) || o.roles == 0 || decide (16 ≤ o.roles))
    || (es.map (fun o => o.index)).eraseDups.length != n || (es.map (fun o => o.pubKey)).eraseDups.length != n
    || decide ((es.filter (fun o => bit o.roles 0)).length < 2)

/-- The table that a new one makes: an unchanged entry keeps its last_bseq (R180, R367). -/
def newTable (s : State) (b : List Byte) : List Officer :=
  (tableEntries b).map (fun o => match officerAt s o.index with
    | some p => if p.roles = o.roles ∧ p.pubKey = o.pubKey then p else o
    | none => o)

/-- OFFICER_INIT (R368): the first table, signed by its first two AUTHORISE entries. -/
def officerInit (s : State) (b : List Byte) : State × MbxRes :=
  let n := tableLen b
  let digest := Config.sha3 (beBytes 32 (deviceFpr s) ++ b.take n)
  let sigs := [ofBe (slice b n 4627), ofBe (slice b (n + 4627) 4627)]
  let signers := ((tableEntries b).filter (fun o => bit o.roles 0)).take 2
  if s.lc.st ≠ .sealed ∧ s.lc.st ≠ .field then (s, MbxRes.refuse 0x10)
  else if tableBad b ∨ n + 9254 < b.length then (s, MbxRes.refuse 0x01)
  else if s.tamper.officers ≠ [] then (s, MbxRes.refuse 0x02)
  else if ceremonyInput s = false then (s, MbxRes.refuse 0x0A)
  else if b.length < n + 9254 ∨ (signers.zip sigs).any (fun e => !Config.mldsaVerify e.1.pubKey digest e.2) then
    (s, MbxRes.refuse 0x06)
  else
    let l := tableEntries b
    ({ s with tamper := { s.tamper with officers := l } }, MbxRes.durable [.officers l])

/-- OFFICER_INIT (R368). -/
def execOfficerInit (sl : Slot) (block : List Byte) (s : State) : Host.Outcome State Fault Refusal :=
  .next (mbxRun s sl 0x84 (some 0x02) (fun s => officerInit s block))

/-! ### Ceremonies (R369 to R376) -/

/-- Ceremony commands are accepted in SEALED and FIELD (R379, R389). -/
def ceremonyState (s : State) : Bool := s.lc.st == .sealed || s.lc.st == .field

/-- The inner commands under dual control (R369). -/
def dualControl (inner : Nat) : Bool :=
  inner == 0x47 || inner == 0x86 || inner == 0x87 || inner == 0x88 || inner == 0x92 || inner == 0x93

/-- The states in which an inner command is accepted (R369, R365). -/
def innerAccepted (s : State) (inner : Nat) : Bool :=
  let sf := s.lc.st == .sealed || s.lc.st == .field
  match inner with
  | 0x47 => sf && !s.tamper.zeroised
  | 0x92 => s.lc.st == .field
  | 0x93 => s.lc.st == .field && !s.tamper.zeroised
  | _ => sf

/-- The ceremony opens with its nonce (R370 to R372). -/
def ceremonyWith (s : State) (inner id : Nat) (block : List Byte) (n : Nat) : State × MbxRes :=
  let nonce := n % 2 ^ 256
  let s := { s with tamper := { s.tamper with
    cerId := id, cerCmd := inner, cerNonce := nonce, cerBlock := block, cerOff1 := none, cerOff2 := none, cerFails := 0, cerHigh := id
    cerExpired := none } }
  (cerChange s .opened 0, MbxRes.ok id (beBytes 32 nonce))

/-- CEREMONY_OPEN (R372). -/
def ceremonyOpen (s : State) (sl : Slot) (inner id : Nat) (block : List Byte) : State × MbxRes :=
  if dualControl inner = false ∨ 2 ^ 32 ≤ id then (s, MbxRes.refuse 0x01)
  else if id ≤ s.tamper.cerHigh then (s, MbxRes.refuse 0x0C)
  else if s.tamper.cer ≠ .idle then (s, MbxRes.refuse 0x03)
  else if ceremonyInput s = false then (s, MbxRes.refuse 0x0A)
  else if s.rng.st = .fatal then (s, MbxRes.refuse 0x0D)
  else if innerAccepted s inner = false then (s, MbxRes.refuse 0x10)
  else if inner = 0x47 ∧ s.firn.kstate = .changing then (s, MbxRes.refuse 0x02)
  else match rngAsk s 32 (.ceremonyOpen sl inner id block) with
    | .now n s => ceremonyWith s inner id block n
    | .later s => (s, MbxRes.later)
    | .refused => (s, MbxRes.refuse 0x0D)

/-- CEREMONY_OPEN goes on with bytes that it waited for, where no other ceremony has opened meanwhile. -/
def ceremonyGiven (s : State) (inner id : Nat) (block : List Byte) (n : Nat) : State × MbxRes :=
  if s.tamper.cer ≠ .idle then (s, MbxRes.refuse 0x03)
  else if ceremonyInput s = false then (s, MbxRes.refuse 0x0A)
  else ceremonyWith s inner id block n

/-- CEREMONY_OPEN (R372). -/
def execCeremonyOpen (sl : Slot) (inner id : Nat) (block : List Byte) (s : State) : Host.Outcome State Fault Refusal :=
  .next (mbxRun s sl 0x80 (some 0x02) (fun s => ceremonyOpen s sl inner id block))

/-- The roles that a token's officer must hold (R369): AUTHORISE, and DEBUG for DEBUG_UNLOCK. -/
def rolesFor (inner : Nat) : Nat := if inner = 0x93 then 9 else 1

/-- The checks of a token in their order (R372); 0 where none fails. -/
def tokenStatus (s : State) (t : List Byte) : Nat :=
  let x := s.tamper
  if t.length ≠ 4771 ∨ beAt t 0 4 ≠ 0x4B584443 ∨ beAt t 4 2 ≠ 1 ∨ beAt t 7 1 ≠ 0 ∨ beAt t 0x2D 3 ≠ 0 then 0x01
  else if s.lc.devFp = none ∨ beAt t 8 32 ≠ deviceFpr s then 0x04
  else if beAt t 0x28 4 ≠ x.cerId ∨ beAt t 0x30 32 ≠ x.cerNonce ∨ beAt t 0x2C 1 ≠ x.cerCmd ∨ beAt t 0x50 64 ≠ Config.sha3 x.cerBlock then 0x08
  else match officerAt s (beAt t 6 1) with
    | none => 0x05
    | some o =>
      if Nat.land o.roles (rolesFor x.cerCmd) ≠ rolesFor x.cerCmd then 0x05
      else if x.cerOff1 = some o.index then 0x07
      else if Config.mldsaVerify o.pubKey (Config.sha3 (t.take 0x90)) (ofBe (t.drop 0x90)) then 0 else 0x06

/-- The signature check runs on the LTU, unless it is ABORTED (R190, R191). -/
def ltuVerify (s : State) : State := if s.ltu.st = .aborted ∨ s.ltu.st = .fault then s else ltuServe s

/-- CEREMONY_AUTH (R371, R372): a failing token counts, and the third cancels the ceremony. -/
def ceremonyAuth (s : State) (t : List Byte) : State × MbxRes :=
  if s.tamper.cer ≠ .opened ∧ s.tamper.cer ≠ .auth1 then
    (s, MbxRes.refuse (if s.tamper.cer = .idle ∧ s.tamper.cerExpired = some (beAt t 0x28 4) then 0x09 else 0x02))
  else
    let st := tokenStatus s t
    let s := if st = 0 ∨ st = 0x06 then ltuVerify s else s
    if st ≠ 0 then
      let s := setEvt (incReg s 0xE0040) 0xE0 3
      let s := { s with tamper := { s.tamper with cerFails := s.tamper.cerFails + 1 } }
      (if 3 ≤ s.tamper.cerFails then cerCancel s st 0x02 else s, MbxRes.refuse st)
    else
      let o := beAt t 6 1
      if s.tamper.cer = .opened then (cerChange { s with tamper := { s.tamper with cerOff1 := some o } } .auth1 0, MbxRes.ok)
      else (cerChange { s with tamper := { s.tamper with cerOff2 := some o } } .auth2 0, MbxRes.ok)

/-- CEREMONY_AUTH (R372). -/
def execCeremonyAuth (sl : Slot) (token : List Byte) (s : State) : Host.Outcome State Fault Refusal :=
  .next (mbxRun s sl 0x81 (some 0x02) (fun s => if ceremonyState s then ceremonyAuth s token else (s, MbxRes.refuse 0x10)))

/-! ### Inner commands (R373 to R376, R385, R391) -/

/-- The result of an inner command: its status and durable changes, or none while its work goes on. -/
structure Inner where
  state : State
  done : Option (Nat × List JItem)

/-- OFFICER_SET (R367). -/
def officerSet (s : State) (b : List Byte) : Inner :=
  if tableBad b ∨ b.length ≠ tableLen b then ⟨s, some (0x01, [])⟩
  else
    let l := newTable s b
    ⟨{ s with tamper := { s.tamper with officers := l } }, some (0, [.officers l])⟩

/-- A source of the mask has tripped within the preceding second, or is tripped now (R376). -/
def trippedLately (s : State) (m : Nat) : Bool :=
  Nat.land s.tamper.active m != 0 || s.tamper.trips.any (fun e => bit m e.1 && decide (s.boot.now < e.2 + 1000000000))

/-- The blobs and nodes that outlived the zeroisation, for the next boot to erase (R184). -/
def markOutlived (s : State) : State :=
  let l := (s.firn.blobs.filter (fun e => e.2.isSome)).map (fun e => KeyRef.blob e.1)
    ++ (s.firn.nodes.filter (fun e => e.2.isSome)).map (fun e => KeyRef.node e.1)
  { s with firn := { s.firn with outlived := l } }

/-- TAMPER_REARM (R366, R376): the enables are written; a ZEROISED module leaves that state into NOMMK, a paired one into HELD. -/
def tamperRearm (s : State) (b : List Byte) : Inner :=
  let w := leOf b 0 4
  if b.length ≠ 4 ∨ Nat.land w 0xFFFFFFC3 ≠ 0 then ⟨s, some (0x01, [])⟩
  else if trippedLately s (Nat.lor (sourcesEnabled s) w) then ⟨s, some (0x0B, [])⟩
  else
    let was := s.tamper.zeroised
    let s := { s with tamper := { s.tamper with srcEn := w, zeroised := false } }
    if was then
      let s := setKState (markOutlived s) .nommk
      ⟨if s.pair.bound then setPairState s .held 6 else s, some (0, [])⟩
    else ⟨s, some (0, [])⟩

/-- CODEKEY_SET (R375). -/
def codekeySet (s : State) (b : List Byte) : Inner :=
  if b.length ≠ 2592 then ⟨s, some (0x01, [])⟩
  else
    let k := if ofBe b = 0 then none else some (ofBe b)
    ⟨{ s with tamper := { s.tamper with codeKey := k } }, some (0, [.codeKey k])⟩

/-- DEBUG_UNLOCK (R391). -/
def debugUnlock (s : State) (b : List Byte) : Inner :=
  let v := leOf b 0 4
  let d := leOf b 4 4
  if innerAccepted s 0x93 = false then ⟨s, some (0x02, [])⟩
  else if b.length ≠ 8 ∨ 32 ≤ v ∨ d < 60 ∨ 28800 < d then ⟨s, some (0x01, [])⟩
  else ⟨morSync (debugOpen (debugClose s) v d s.tamper.cerId), some (0, [])⟩

/-- The exclusive-or of the components held (R176). -/
def mmkOf (l : List MmkComp) : Nat := l.foldl (fun a c => Nat.xor a c.value) 0

/-- The inactive record written as STAGED, with SEQ one above the active one; before the first master key, the record that holds the KEM
seed (R176, R366). -/
def stageMmk (f : FirnSt) (mmk kcv : Nat) : FirnSt :=
  match activeRec f with
  | some r =>
    let n := MmkRec.withCrc ⟨r.seq + 1, 0x5A, mmk, r.kemSeed, kcv, 0⟩
    if f.recA.active && f.recA == r then { f with recB := n } else { f with recA := n }
  | none =>
    let put := fun (r : MmkRec) => MmkRec.withCrc { r with mmk := mmk, kcv := kcv }
    if f.recA.staged then { f with recA := put f.recA }
    else if f.recB.staged then { f with recB := put f.recB }
    else { f with recA := MmkRec.withCrc ⟨1, 0x5A, mmk, none, kcv, 0⟩ }

/-- MMK_CHANGE (R176, R374): with every component held and the KCV right, steps 1 and 2; the rewrap follows, and with no blob to rewrap the
change ends at once. -/
def mmkChange (s : State) (b : List Byte) : Inner :=
  let l := s.firn.comps
  let n := match l with | c :: _ => c.count | [] => 0
  let mmk := mmkOf l
  let kcv := leOf b 0 8
  if s.tamper.zeroised then ⟨s, some (0x07, [])⟩
  else if s.firn.kstate = .changing then ⟨s, some (0x02, [])⟩
  else if l.isEmpty ∨ l.length ≠ n ∨ (l.map (fun c => c.number)).eraseDups.length ≠ n ∨ b.length ≠ 8 then ⟨s, some (0x08, [])⟩
  else if kcvOf mmk s.tamper.cerId 2 2 ≠ kcv then ⟨s, some (0x05, [])⟩
  else
    let s := { s with firn := { stageMmk s.firn mmk kcv with mmkKcv := kcv, rewrapped := 0, rewrapNext := 0 } }
    ⟨setKState s .changing, none⟩

/-- The inner command of a ceremony with its stored block (R373). -/
def runInner (s : State) (otp : OtpOutcome) : Inner :=
  let b := s.tamper.cerBlock
  match s.tamper.cerCmd with
  | 0x47 => mmkChange s b
  | 0x86 => officerSet s b
  | 0x87 => tamperRearm s b
  | 0x88 => codekeySet s b
  | 0x92 => let r := lcReturn s b otp; ⟨r.1, some (r.2, [])⟩
  | _ => debugUnlock s b

/-- CEREMONY_EXEC (R373). -/
def ceremonyExec (s : State) (sl : Slot) (id : Nat) (otp : OtpOutcome) : State × MbxRes :=
  if s.tamper.cer ≠ .auth2 ∨ s.tamper.cerId ≠ id then
    (s, MbxRes.refuse (if s.tamper.cer = .idle ∧ s.tamper.cerExpired = some id then 0x09 else 0x02))
  else
    let s := cerChange { s with tamper := { s.tamper with cerSlot := some sl } } .exec 0
    let r := runInner s otp
    match r.done with
    | some (inner, items) => (execEnd r.state inner items, MbxRes.later)
    | none => (if r.state.firn.blobs.isEmpty ∨ (activeRec r.state.firn).isNone then mmkRewrapDone r.state else r.state, MbxRes.later)

/-- CEREMONY_EXEC (R373). -/
def execCeremonyExec (sl : Slot) (id : Nat) (otp : OtpOutcome) (s : State) : Host.Outcome State Fault Refusal :=
  .next (mbxRun s sl 0x82 (some 0x02) (fun s => if ceremonyState s then ceremonyExec s sl id otp else (s, MbxRes.refuse 0x10)))

/-- CEREMONY_CANCEL (R371). -/
def execCeremonyCancel (sl : Slot) (id : Nat) (s : State) : Host.Outcome State Fault Refusal :=
  .next (mbxRun s sl 0x83 (some 0x02) (fun s =>
    if ceremonyState s = false then (s, MbxRes.refuse 0x10)
    else if s.tamper.cer = .idle ∨ s.tamper.cerId ≠ id then (s, MbxRes.refuse (if s.tamper.cerExpired = some id then 0x09 else 0x02))
    else (cerCancel s 0 0x02, MbxRes.ok)))

/-- CEREMONY_EXPIRY (R371): an EXEC that runs is not cut short. -/
def execCeremonyExpiry (s : State) : Host.Outcome State Fault Refusal :=
  .next (if s.tamper.cer = .idle ∨ s.tamper.cer = .exec then s
    else
      let id := s.tamper.cerId
      let s := cerEnd s 0xFF
      { s with tamper := { s.tamper with cerExpired := some id } })

end Sys2Proof.Machine
end

