-- ==== Sys2Proof/Machine/Ports.lean ====
section
/-! DEFINITION. Machine/Ports.lean: frames at the process-bus ports, redundancy, links, egress and delivery (R54, R58, R67, R73, R95,
R99 to R116, R127 to R131, R282, R317). -/
namespace Sys2Proof.Machine

/-! ### Arrival (R54, R58, R101, R102, R112, R113) -/

/-- The duplicate filter holds an entry for a source and sequence number (R108). -/
def dupSeen (s : State) (n : Nat) (f : Frame) : Bool :=
  match f.redSeq with
  | some q => (pairMode s n == 1 || pairMode s n == 2) && (getPairNet s (n / 2)).filter.any (fun e => e.mac == f.srcMac && e.seq == q)
  | none => false

/-- A lookup miss (R58): counted, and treated by the unknown-stream policy of the port; DROP in the CLS safe state. -/
def unknownStream (s : State) (n : Nat) : State × RxTo :=
  let s := setEvt (incReg s (regAddr 0x20 (0x30 + 4 * n))) 0x20 0
  let pol := if pageSafe s 0x20 then 0 else fld (getReg s (regAddr 0x20 0x24)) (2 * n + 1) (2 * n)
  (s, if pol = 1 then .exception else if pol = 2 ∧ pairMode s n = 3 then .relay else .nowhere)

/-- A frame of a classified form looked up and admitted (R5, R54, R95). -/
def classify (s : State) (n : Nat) (f : Frame) : State × RxTo :=
  if f.fragment ∨ 1 < f.vlanTags then (setEvt (incReg s (regAddr 0x20 0x40)) 0x20 1, .nowhere)
  else match (keyOf (segmentOf s n) f).bind (lookup s) with
    | some i => match getCtx s i with
      | some c => admitFrame s n i c f
      | none => unknownStream s n
    | none => unknownStream s n

/-- A frame of 64 to 1,522 bytes, counted with its FCS (R100). -/
def frameSizeOk (f : Frame) : Bool := decide (64 ≤ f.bytes.length + 4) && decide (f.bytes.length + 4 ≤ 1522)

/-- Where a frame that starts at a port goes (R100, R101, R102, R108, R113): one of a wrong size is not classified. A PTP frame is the
time unit's; a BITW pair without the transparent clock relays it as it relays any other frame (R113, R123). -/
def arrivalTo (s : State) (n : Nat) (f : Frame) : State × RxTo :=
  let mode := pairMode s n
  let layer2 := f.form == .sv || f.form == .goose
  let exc : RxTo := if fld (getReg s (pbpReg n 0x20)) 7 7 = 1 then .exception else .nowhere
  if frameSizeOk f = false then (s, .nowhere)
  else if f.form = .undecodable then (setEvt (incReg s (pbpReg n 0x3C)) (0x10 + n) 2, .nowhere)
  else if f.form = .ptp then (s, if mode = 3 ∧ fld (pairCfg s n) 7 7 = 0 then .relay else .nowhere)
  else if mode = 3 then (if layer2 && !f.hsrTagged then classify s n f else (s, .relay))
  else if f.form = .other ∨ (f.hsrTagged = true ∧ mode ≠ 2) then (s, exc)
  else if f.form = .supervision ∨ dupSeen s n f = true then (s, .nowhere)
  else classify s n f

/-- The form that the parser accepts a frame as (R101): a sampled-value APDU has 1 to 8 ASDUs, and a routed form the UDP port 102. -/
def Frame.parsed (f : Frame) : Frame :=
  let asdus := decide (1 ≤ f.smpCnts.length) && decide (f.smpCnts.length ≤ 8)
  let routed := f.form == .rsv4 || f.form == .rsv6 || f.form == .rgoose4 || f.form == .rgoose6
  let sv := f.form == .sv || f.form == .rsv4 || f.form == .rsv6
  if routed && f.udpPort != 102 then { f with form := .other }
  else if sv && !asdus then { f with form := .undecodable }
  else f

/-- FRAME_ARRIVAL: a frame starts on a port whose link is up and that is receiving none. -/
def frameArrival (s : State) (n : Nat) (f : Frame) : State :=
  let p := getPort s n
  if p.up && p.rxFrame.isNone then
    let f := Frame.parsed f
    let r := arrivalTo s n f
    modPort r.1 n (fun p => { p with rx := r.2, rxFrame := some f, rxTs := rxTime s n, rxPassed := false, rxCopy := none })
  else s

/-- FRAME_ARRIVAL (R54). -/
def execFrameArrival (port : Fin 4) (f : Frame) (s : State) : Host.Outcome State Fault Refusal := .next (frameArrival s port f)

/-! ### The last byte (R100, R108, R109) -/

/-- The duplicate-filter entry of a good first copy (R108, R109): the oldest of 16,384 entries makes way, with DUPOVF on the pair's
page where it had not expired. -/
def dupInsert (s : State) (n : Nat) (f : Frame) (h : Option Nat) : State :=
  match f.redSeq with
  | some q =>
    if pairMode s n = 1 ∨ pairMode s n = 2 then
      let x := getPairNet s (n / 2)
      let full := decide (16384 ≤ x.filter.length)
      let age := fld (pairCfg s n) 27 16 * 1000000
      let early := match x.filter with | e :: _ => full && decide (s.boot.now < e.madeAt + age) | [] => false
      let s := setPairNet s (n / 2) { x with filter := (if full then x.filter.drop 1 else x.filter) ++ [⟨f.srcMac, q, s.boot.now, n, h⟩] }
      if early then setEvt s (0x10 + n / 2 * 2) 3 else s
    else s
  | none => s

/-- Two copies whose last bytes complete in the same cycle (R109): the frame of the copy from the higher port, which the copy from port n
displaces while nothing of it has been delivered. Which of two last bytes of one instant of the model's clock comes first in the queue
is not time, so the entry remembers its port. -/
def tieLoser (s : State) (n : Nat) (f : Frame) : Option Nat :=
  match f.redSeq with
  | some q =>
    match (getPairNet s (n / 2)).filter.find? (fun e => e.mac == f.srcMac && e.seq == q) with
    | some e =>
      if (pairMode s n = 1 ∨ pairMode s n = 2) ∧ e.madeAt = s.boot.now ∧ n < e.port then
        match e.handle.bind (getFrame s), e.handle with
        | some g, some h => if (g.stage == .ready || g.stage == .running) && g.delivery.isNone then some h else none
        | _, _ => none
      else none
    | none => none
  | none => none

/-- The filter entry of a source and sequence number passes to the copy that proceeds (R109). -/
def dupTake (s : State) (n : Nat) (f : Frame) (h : Option Nat) : State :=
  let x := getPairNet s (n / 2)
  setPairNet s (n / 2) { x with filter := x.filter.map (fun e =>
    if e.mac = f.srcMac ∧ some e.seq = f.redSeq then { e with port := n, handle := h } else e) }

/-- The pool handle behind a reception, none for a frame that is not in the pool. -/
def RxTo.handle (r : RxTo) : Option Nat := match r with | .pool h => some h | _ => none

/-- An admitted frame is complete: unused reserved cells go back (R95), and its delivery may begin (R73). -/
def rxComplete (s : State) (h len : Nat) : State :=
  match getFrame s h with
  | some f =>
    let c := min f.cells (cellsFor len)
    let s := returnRx s f.pillow (f.cells - c)
    tryDeliver (setFrame s h (some { f with cells := c, rxDone := true })) h
  | none => s

/-- A frame relayed to the other port of a BITW pair, on queue 3 (R113, R115). -/
def relayFrame (s : State) (n ts len : Nat) (f : Frame) : State :=
  let cells := cellsFor len
  let s := setFree s (s.pool.free - cells)
  let o := otherPort n
  let (h, s) := addFrame s { FrameRec.fresh f (.port n) ts none 0 cells 0 false with stage := .verdict, consumers := 1, egress := 2 ^ o, rxDone := true }
  let r := enqueueAt s o 3 h
  if r.2 then r.1 else freeFrame r.1 h

/-- A good frame goes where its reception decided (R58, R102, R113). -/
def rxGood (s : State) (n len : Nat) (f : Frame) (dst : RxTo) (ts : Nat) : State :=
  match dst with
  | .nowhere => s
  | .pool h => rxComplete s h len
  | .exception => managerDeliver s 0 n ts f.bytes
  | .relay => relayFrame s n ts len f

/-- FRAME_LAST_BYTE (R100, R108): a length outside 64 to 1,522 bytes or a bad FCS discards the frame, a second copy of a duplicate is
discarded, of two that complete together the one from the lower port proceeds (R109), and a good frame goes on; the ring copy of a bad one ends
with an inverted FCS (R110). -/
def frameLastByte (s : State) (n len : Nat) (fcsOk : Bool) : State :=
  let p := getPort s n
  match p.rxFrame with
  | none => s
  | some f =>
    let s := setPort s n { p with rx := .nowhere, rxFrame := none, rxPassed := false, rxCopy := none }
    let quiet := fun (s : State) => match p.rx with | .pool h => withdrawFrame s h | _ => s
    if len < 64 ∨ 1522 < len then quiet (incReg s (pbpReg n 0x38))
    else if !fcsOk then
      let s := setEvt (incReg (endCopy s p.rxCopy) (pbpReg n 0x34)) (0x10 + n) 1
      match p.rx with
      | .pool h => endUnder s h 0x60
      | _ => s
    else
      let s := incReg s (pbpReg n 0x30)
      match tieLoser s n f with
      | some h => rxGood (dupTake (withdrawFrame (incReg s (pbpReg (n / 2 * 2) 0x40)) h) n f p.rx.handle) n len f p.rx p.rxTs
      | none =>
        if dupSeen s n f then quiet (incReg s (pbpReg (n / 2 * 2) 0x40))
        else rxGood (dupInsert s n f p.rx.handle) n len f p.rx p.rxTs

/-- FRAME_LAST_BYTE (R100). -/
def execFrameLastByte (port : Fin 4) (len : Nat) (fcsOk : Bool) (s : State) : Host.Outcome State Fault Refusal :=
  .next (frameLastByte s port len fcsOk)

/-- DUP_ENTRY_EXPIRY (R108): DUPAGE is up for an entry. -/
def execDupEntryExpiry (pair : Fin 2) (mac seq : Nat) (s : State) : Host.Outcome State Fault Refusal :=
  let x := getPairNet s pair
  .next (setPairNet s pair { x with filter := x.filter.filter (fun e => !(e.mac == mac && e.seq == seq)) })

/-- The module is the source of a frame (R110): it carries a registered publisher's MAC. DESIGN CHOICE (log entry 130): raw frames of the
manager, whose source addresses the module does not hold, are not told from others. -/
def ownSource (s : State) (f : Frame) : Bool :=
  (ctxList s).any (fun e => match e.2.pub with | some p => p.srcMac == f.srcMac | none => false)

/-- HSR_PASS_THROUGH (R110): after its first 64 bytes a frame in reception is sent on from the other ring port, on queue 1, once. The messages
of a pair's transparent clock pass through it alone (R123). -/
def hsrPass (s : State) (n : Nat) : State :=
  let p := getPort s n
  match p.rxFrame with
  | none => s
  | some f =>
    let clock := f.form == .ptp && fld (pairCfg s n) 7 7 == 1
    if pairMode s n = 2 ∧ p.rxPassed = false ∧ clock = false ∧ ownSource s f = false ∧ dupSeen s n f = false then
      let o := otherPort n
      let cells := cellsFor (f.bytes.length + 4)
      let s := setFree (setPort s n { p with rxPassed := true, rxCopy := some s.pool.next }) (s.pool.free - cells)
      let (h, s) := addFrame s { FrameRec.fresh f (.port n) p.rxTs none 0 cells 0 false with stage := .verdict, consumers := 1, egress := 2 ^ o, rxDone := true }
      let r := enqueueAt s o 1 h
      if r.2 then r.1 else freeFrame r.1 h
    else s

/-- HSR_PASS_THROUGH (R110). -/
def execHsrPassThrough (port : Fin 4) (s : State) : Host.Outcome State Fault Refusal := .next (hsrPass s port)

/-- The management port is up: with host access, while the SerDes reference is in tolerance (R127, R433). -/
def mgmtUp (s : State) : Bool := s.boot.access == .full && bit s.pwc.clkOk 0

/-- MGMT_FRAME_RECEIVE (R127): a frame of the management port that is up goes to ring 1. -/
def execMgmtFrameReceive (bytes : List Byte) (s : State) : Host.Outcome State Fault Refusal :=
  .next (if mgmtUp s then managerDeliver s 1 0 (ptpNow s) bytes else s)

/-! ### Links and pair modes (R99, R107, R130) -/

/-- LINK_CHANGE (R130): the receive side of a port reports; the link is up only on a port that is enabled and whose PHY is not refused. What
was announced on a port that is down counts no more, so that the PASSIVE port of a PRP pair takes over (R122). -/
def linkChange (s : State) (n : Nat) (r : LinkReport) : State :=
  let p := getPort s n
  let up := r.up && portEnabled s n && !(p.spdErr && portSpeed s n == 4)
  let fec := up && r.fecAligned && fld (getReg s (pbpReg n 0x20)) 5 4 == 1
  let s := if up then s else { s with ptp := { s.ptp with ranks := setAt s.ptp.ranks n none } }
  setLink (setPort s n { p with los := r.los, fecAct := fec }) n up

/-- LINK_CHANGE (R130). -/
def execLinkChange (port : Fin 4) (r : LinkReport) (s : State) : Host.Outcome State Fault Refusal := .next (linkChange s port r)

/-- PHY_SPEED_REPORT (R99): on SGMII the module follows the PHY; 10 Mb/s holds the port down with SPDERR and a PORT_SPEED record. -/
def phySpeed (s : State) (n : Nat) (v : PhySpeed) : State :=
  if portSpeed s n = 4 then
    match v with
    | .m10 =>
      let s := portDown (modPort s n (fun p => { p with spdErr := true, phySpeed := false })) n
      record s 0x0101 0x2 n [(pbpLink s n).toNat]
    | .m100 => modPort s n (fun p => { p with spdErr := false, phySpeed := false })
    | .m1000 => modPort s n (fun p => { p with spdErr := false, phySpeed := true })
  else s

/-- PHY_SPEED_REPORT (R99). -/
def execPhySpeedReport (port : Fin 4) (speed : PhySpeed) (s : State) : Host.Outcome State Fault Refusal := .next (phySpeed s port speed)

/-- A frame in reception at a mode change is discarded before any delivery and counted (R107). -/
def rxDiscard (s : State) (n : Nat) : State :=
  let p := getPort s n
  match p.rxFrame with
  | some _ =>
    let s := endCopy (setPort s n { p with rx := .nowhere, rxFrame := none, rxPassed := false, rxCopy := none }) p.rxCopy
    let s := setEvt (incReg s (pbpReg n 0x3C)) (0x10 + n) 2
    match p.rx with | .pool h => withdrawFrame s h | _ => s
  | none => s

/-- The frames received on a pair whose verdict and delivery are still to come: discarded at a mode change, unless their delivery has begun;
those complete under the old mode (R107). -/
def pairDiscard (s : State) (k : Nat) : State :=
  (frameList s).foldl (fun s e =>
    match e.2.src with
    | .port n =>
      if n / 2 = k ∧ (e.2.stage = .ready ∨ e.2.stage = .running) ∧ e.2.delivery.isNone = true then
        withdrawFrame (setEvt (incReg s (pbpReg n 0x3C)) (0x10 + n) 2) e.1
      else if n / 2 = k ∧ e.2.stage = .running then
        modFrame s e.1 (fun f => { f with pairWas := some (f.pairWas.getD (pairCfg s n)) })
      else s
    | .desc _ _ => s) s

/-- The effect of a write to PBP_PAIRCFG: a change of MODE takes both ports of the pair down (R107). -/
def pairCfgEffect (k : Nat) (v : Word) (s : State) : State :=
  let s' := if fld v 1 0 = pairMode s (2 * k) then s
    else
      let s := pairDiscard (rxDiscard (rxDiscard s (2 * k)) (2 * k + 1)) k
      portDown (portDown s (2 * k)) (2 * k + 1)
  storeReg s' (pbpReg (2 * k) 0x24) v

/-- PAIR_MODE_CHANGE (R107): a write of PBP_PAIRCFG. -/
def execPairModeChange (by_ : Party) (pair : Fin 2) (v : Word) (s : State) : Host.Outcome State Fault Refusal :=
  .next (barWrite s by_ 4 (pbpReg (2 * pair) 0x24) v (pairCfgEffect pair v))

/-! ### Supervision and epochs (R67, R317) -/

/-- STREAM_LOST (R67): the supervision interval of a subscriber is up. -/
def streamLost (s : State) (i : Nat) : State :=
  match getCtx s i with
  | some c =>
    if c.pubDir || c.lost then s
    else
      let s := setCtx s i (some (c.setSeenLost c.seen true))
      record (notice s c.slice i 0x01 0) 0x0201 0x4 (0x200 + c.home) (i :: words64 c.lastTs)
  | none => s

/-- STREAM_LOST (R67). -/
def execStreamLost (ctx : Nat) (s : State) : Host.Outcome State Fault Refusal := .next (streamLost s ctx)

/-- EPOCH_END (R161, R317): PTP time has reached CTX_OVLEND of a PREVIOUS key. -/
def epochEnd (s : State) (i : Nat) : State :=
  match getCtx s i with
  | some c =>
    if c.nstate = 3 ∧ c.epochNoted = false ∧ serialLt (ptpSec32 s) (c.word 0x14).toNat = false then
      freeRef (notice (setCtx s i (some { c with epochNoted := true })) c.slice i 0x03 0) c.nextRef
    else s
  | none => s

/-- EPOCH_END (R317). -/
def execEpochEnd (ctx : Nat) (s : State) : Host.Outcome State Fault Refusal := .next (epochEnd s ctx)

/-- The head word of a frame once it is its turn among the frames of its context (R62, R316). -/
def headWrite (s : State) (h : Nat) : State :=
  match getFrame s h with
  | some f => if deliveryTurn s h f then finishDelivery s h else s
  | none => s

/-- HEAD_WORD_WRITE (R73): after every payload write, the head word and the RX entry. -/
def execHeadWordWrite (handle : Nat) (s : State) : Host.Outcome State Fault Refusal := .next (headWrite s handle)

/-! ### Egress (R111, R115, R129, R282, R335) -/

/-- The next frame of a port's queues, in strict priority (R115). -/
def PortSt.nextTx (p : PortSt) : Option (Nat × PortSt) :=
  match p.q1, p.q2, p.q3 with
  | h :: r, _, _ => some (h, { p with q1 := r })
  | [], h :: r, _ => some (h, { p with q2 := r })
  | [], [], h :: r => some (h, { p with q3 := r })
  | [], [], [] => none

/-- EGRESS_START (R105, R111, R112, R115, R124, R129): the first byte of the next frame leaves, in the form the port's pair gives it; a port that
does not send discards it. -/
def egressStart (s : State) (n : Nat) : State :=
  let p := getPort s n
  match p.tx, p.nextTx with
  | none, some (h, q) =>
    if portSends s n then
      let s' := setPort s n { q with tx := some h, txFrame := (getFrame s h).map (fun f => f.leaving s n) }
      modFrame s' h (fun f => { f with sent := some (f.sent.getD (txTime s n, n)) })
    else dropQueued (setPort s n q) n h
  | _, _ => s

/-- EGRESS_START (R115). -/
def execEgressStart (port : Fin 4) (s : State) : Host.Outcome State Fault Refusal := .next (egressStart s port)

/-- The descriptor of a frame completes as SENT on the first port to finish (R317), and an ACTIVE sends its publish record (R335). -/
def txSent (s : State) (h : Nat) (f : FrameRec) : State :=
  match f.sent with
  | some (ts, port) =>
    if f.txDone then s
    else
      let s := txComplete (setFrame s h (some { f with txDone := true })) f.src ts port (f.ctx.getD 3) 0x01 0
      match s.pair.st, f.ctx.bind (getCtx s) with
      | .active, some c => if c.pubDir && f.verdict != 0 then brideSend s (.publish (publishRecordOf (f.ctx.getD 0) c f)) else s
      | _, _ => s
  | none => s

/-- EGRESS_END (R110, R282, R317): the last byte of the frame being sent has left, with an inverted FCS where the frame proved bad. -/
def egressEnd (s : State) (n : Nat) : State :=
  let p := getPort s n
  match p.tx with
  | none => s
  | some h =>
    let bad := match getFrame s h with | some f => f.badFcs | none => false
    let s := incReg (setPort s n { p with tx := none, txFrame := none, lastOut := p.txFrame.map (fun f => (f, bad)) }) (pbpReg n 0x44)
    match getFrame s h with
    | some f => leavePort (txSent s h f) n h
    | none => s

/-- EGRESS_END (R282). -/
def execEgressEnd (port : Fin 4) (s : State) : Host.Outcome State Fault Refusal := .next (egressEnd s port)

end Sys2Proof.Machine
end

