-- ==== Sys2Proof/Machine/Tick.lean ====
section
/-! DEFINITION. Machine/Tick.lean: one nanosecond of an idle module (log entry 2): the clocks advance, the time unit slews (R120), which
the offsets it holds follow (R121), 1PPS out ends its pulse (R125), changed key words go to the partner (R335), and a change of master key goes on (R176). -/
namespace Sys2Proof.Machine

/-- The time unit's clock moved by a signed number of ns. -/
def PtpSt.move (p : PtpSt) (d : Int) : PtpSt :=
  let t := ((p.sec * 1000000000 + p.ns : Nat) + d).toNat
  { p with sec := t / 1000000000 % 2 ^ 48, ns := t % 1000000000 }

/-- ns between two slewing steps of 1 ns (R120): 200 ns a ms in LOCKED, 2,000 ns a ms in ACQUIRING; none in another state. -/
def slewPeriod (st : ClkSt) : Option Nat :=
  match st with
  | .locked => some 5000
  | .acquiring => some 500
  | .freerun => none
  | .holdover => none

/-- What the time unit slews at a moment of the model's clock. -/
def slewNow (p : PtpSt) (now : Nat) : Int :=
  match slewPeriod p.st with
  | some k => if now % k = 0 then (if 0 < p.slew then 1 else if p.slew < 0 then -1 else 0) else 0
  | none => 0

/-- The key words of a context that the two modules of a pair compare (R335). -/
def Ctx.keyWords (c : Ctx) : PartnerKey × Nat :=
  (⟨c.nstate, (c.word 0x0C).toNat, (c.word 0x10).toNat⟩, (c.word 0x14).toNat)

/-- The key words of a context go to the partner where they differ from those last sent (R335). -/
def keyWordsSend (s : State) (i : Nat) (c : Ctx) : State :=
  let k := c.keyWords
  if smapGet (fun _ => none) s.pair.keysSent i = some k then s
  else
    let s := brideSend s (.item (.keyWords i k.1.nstate k.1.kidCur k.1.kidNext k.2))
    { s with pair := { s.pair with keysSent := smapSet (fun _ => none) s.pair.keysSent i (some k) } }

/-- Every changed key word goes to the partner, while the link carries records. DESIGN CHOICE (log entry 154): each microsecond of an idle module. -/
def keyWordsStep (s : State) : State :=
  if brideSends s then (ctxList s).foldl (fun s e => keyWordsSend s e.1 e.2) s else s

/-- One nanosecond passes. -/
def tick (s : State) : State :=
  let now := s.boot.now + 1
  let d := slewNow s.ptp now
  let p := { s.ptp.move (1 + d) with
    slew := s.ptp.slew - d, irigOffset := s.ptp.irigOffset - d, ppsOffset := s.ptp.ppsOffset - d, ptpOffset := s.ptp.ptpOffset - d }
  let p := { p with ppsOut := p.ppsOut && decide (p.ns < fld (getReg s 0x12003C) 15 0 * 10000) }
  let s := { s with boot := { s.boot with now := now }, ptp := p }
  let s := if now % 1000 = 0 then keyWordsStep s else s
  if now % 10000 = 0 then rewrapStep s else s

end Sys2Proof.Machine
end

