-- ==== Sys2Proof/Machine/Time.lean ====
section
/-! DEFINITION. Machine/Time.lean: the time unit: sources, clock states, steps, PTP, 1PPS and IRIG-B (R118 to R126, R132, R472). -/
namespace Sys2Proof.Machine

/-! ### Clock states and steps (R118 to R120) -/

/-- The source term of a source (R118). -/
def sourceTerm (src : Nat) : Nat := if src = 1 then 20 else if src = 2 then 50 else 1000

/-- The time unit changed; a change of state is STATECHG with its TIME_STATE record (R119), and 1PPS out is inactive outside LOCKED
and HOLDOVER (R125). -/
def ptpChange (s : State) (p : PtpSt) : State :=
  if p.st = s.ptp.st then { s with ptp := p }
  else
    let old := ptpStateWord s
    let p := { p with ppsOut := p.ppsOut && (p.st == .locked || p.st == .holdover) }
    let s := { s with ptp := p }
    record (setEvt s 0x120 0) 0x0110 0x11 0 [old.toNat, (ptpStateWord s).toNat]

/-- The sources enabled in PTP_CFG (R132): PTP, IRIG-B, 1PPS in. -/
def ptpCfg (s : State) : Word := getReg s 0x120020
def ptpEn (s : State) : Bool := fld (ptpCfg s) 9 9 == 1
def irigEn (s : State) : Bool := fld (ptpCfg s) 11 11 == 1
def ppsInEn (s : State) : Bool := fld (ptpCfg s) 10 10 == 1

/-- The source that R118 follows of those enabled and valid: 1 PTP, 2 IRIG-B with 1PPS in, 3 IRIG-B alone, 0 none. -/
def bestSource (s : State) : Nat :=
  if ptpEn s && s.ptp.ptpOk then 1
  else if s.ptp.rejected then 0
  else if irigEn s && s.ptp.irigOk then (if ppsInEn s && s.ptp.ppsOk then 2 else 3)
  else 0

/-- A step of the clock (R120): logged, STEP, PTP_STEPCNT and a TIME_STEP record. -/
def timeStep (s : State) (o : Int) : State :=
  let p := s.ptp.move o
  let p := { p with
    steps := (⟨p.sec, p.ns, o⟩ :: p.steps).take 8, lastStepAt := some s.boot.now, slew := 0
    irigOffset := p.irigOffset - o, ppsOffset := p.ppsOffset - o, ptpOffset := p.ptpOffset - o }
  record (setEvt (incReg { s with ptp := p } 0x120040) 0x120 1) 0x0111 0x11 0 (words64 (unsgn 64 o))

/-- An offset corrected (R120): above 10 µs by a step, deferred within 2 s of the last one; otherwise by slewing. -/
def correct (s : State) (o : Int) : State :=
  if 10000 < o.natAbs then
    match s.ptp.lastStepAt with
    | some t => if s.boot.now < t + 2000000000 then s else timeStep s o
    | none => timeStep s o
  else { s with ptp := { s.ptp with slew := o } }

/-- The filtered offset magnitude (R118): the mean of the last 16 magnitudes, rounded up. DESIGN CHOICE (log entry 142): of the updates there
are, while the source followed has given fewer than 16. -/
def filtered (l : List Nat) : Nat := if l.isEmpty then 0 else (l.foldl (· + ·) 0 + l.length - 1) / l.length

/-- An offset that the time unit slews away (R120). -/
def slewBy (s : State) (o : Int) : State := { s with ptp := { s.ptp with slew := o } }

/-- An update of the source that the time unit follows (R119): its offset is measured and corrected, and the state moves on; into LOCKED without a
step (R120). DESIGN CHOICE (log entry 143): the update that leads to ACQUIRING is the first of the 16 below 100 ns. -/
def followUpdate (s : State) (src : Nat) (o : Int) : State :=
  let p := s.ptp
  let m := o.natAbs
  let p := if p.src = src then p else { p with src := src, offsets := [], consec := 0 }
  let p := { p with offsets := (m :: p.offsets).take 16, lastOffset := o, lastUpdate := s.boot.now,
                    consec := if m < 100 then p.consec + 1 else 0 }
  let est := filtered p.offsets + sourceTerm src
  let acquire := { p with st := .acquiring, estErr := 0xFFFFFF, consec := if m < 100 then 1 else 0 }
  let lock := { p with st := .locked, estErr := est, everLocked := true }
  match s.ptp.st with
  | .freerun => correct (ptpChange s acquire) o
  | .acquiring =>
    if 16 ≤ p.consec then slewBy (ptpChange s lock) o else correct (ptpChange s { p with estErr := 0xFFFFFF }) o
  | .locked => if 10000 < m then correct (ptpChange s acquire) o else correct (ptpChange s { p with estErr := est }) o
  | .holdover => if m ≤ estErrNow s + 1000 then slewBy (ptpChange s lock) o else correct (ptpChange s acquire) o

/-- An update of a valid source (R118, R119): of the one followed, of a better one that agrees within 1 µs while LOCKED, or of the
one that R118 chooses while the clock is in another state; any other update is not followed. -/
def sourceUpdate (s : State) (src : Nat) (o : Int) : State :=
  if pageSafe s 0x120 || s.ptp.substitute then s
  else
    let p := s.ptp
    if p.st = .locked ∧ p.src = src then followUpdate s src o
    else if p.st = .locked ∧ p.src ≠ 0 then
      if src < p.src ∧ src = bestSource s ∧ o.natAbs ≤ 1000 then followUpdate s src o else s
    else if src = bestSource s then followUpdate s src o
    else s

/-- HOLDOVER is entered (R118): from LOCKED with the ESTERR of the last update, from ACQUIRING with the last offset, the source term
and the growth since; in the PTP safe state also from FREERUN, with an unknown error. -/
def enterHoldover (s : State) : State :=
  let p := s.ptp
  let e := match p.st with
    | .locked => p.estErr
    | .acquiring => p.lastOffset.natAbs + sourceTerm p.src + (s.boot.now - p.lastUpdate) * holdRate s / 1000000000
    | .freerun => 0xFFFFFF
    | .holdover => p.holdErr
  if p.st = .holdover then s
  else ptpChange s { p with st := .holdover, src := 0, holdErr := e, holdAt := s.boot.now, slew := 0 }

/-- The source followed is lost (R119): another valid source is followed from its next update; without one LOCKED goes to HOLDOVER,
ACQUIRING to HOLDOVER after a LOCKED and to FREERUN otherwise. -/
def sourceGone (s : State) : State :=
  let p := s.ptp
  let b := bestSource s
  if p.src = 0 ∨ p.src = b then s
  else if b ≠ 0 then { s with ptp := { p with src := b, offsets := [], consec := 0 } }
  else match p.st with
    | .locked => enterHoldover s
    | .acquiring => if p.everLocked then enterHoldover s else ptpChange s { p with st := .freerun, src := 0, estErr := 0xFFFFFF, slew := 0 }
    | _ => s

/-- The port whose announce is best (R122): the lowest rank, the lowest port among equals. -/
def bestPort (ranks : List (Option Nat)) (mask : Nat) : Option Nat :=
  ((List.range 4).foldl (fun (a : Option (Nat × Nat)) n =>
    match ranks.getD n none with
    | some r => if bit mask n then (match a with | some (_, q) => if r < q then some (n, r) else a | none => some (n, r)) else a
    | none => a) none).map (·.1)

/-- A port's announces have ended (R119, R122): PTP is followed on the best port that is left, and is lost with the last one. -/
def announceLost (s : State) (n : Nat) : PtpSt :=
  let ranks := setAt s.ptp.ranks n none
  match bestPort ranks (fld (ptpCfg s) 19 16) with
  | some q => { s.ptp with ranks := ranks, port := q }
  | none => { s.ptp with ranks := ranks, ptpOk := false }

/-- SOURCE_LOSS (R119): a source has given nothing for its intervals. -/
def execSourceLoss (src : TimeSource) (s : State) : Host.Outcome State Fault Refusal :=
  let p := s.ptp
  let p := match src with
    | .ptp n => announceLost s n
    | .irig => { p with irigOk := false, irigPrev := none, rejected := false }
    | .pps => { p with ppsOk := false, rejected := false }
  .next (sourceGone { s with ptp := p })

/-- HOLDOVER_EXPIRY (R119): ESTERR above 1 ms, or HOLDMAX seconds; the PTP safe state holds HOLDOVER. -/
def execHoldoverExpiry (s : State) : Host.Outcome State Fault Refusal :=
  .next (if s.ptp.st = .holdover ∧ pageSafe s 0x120 = false then
      ptpChange s { s.ptp with st := .freerun, src := 0, estErr := 0xFFFFFF, slew := 0 }
    else s)

/-! ### PTP (R122, R123) -/

/-- A frame of the module's own: nothing but its form and bytes. -/
def plainFrame (form : FrameForm) (bytes : List Byte) : Frame :=
  { form := form, dstMac := 0, srcMac := 0, vlanTags := 0, vlanId := 0, appId := 0, fragment := false, dstAddr := 0, srcAddr := 0,
    udpPort := 0, ident := [], smpCnts := [], smpSynch := 0, samples := [], stNum := 0, sqNum := 0, tSec := 0, tFrac := 0, ttl := 0,
    simulation := false, quality := [], ext := none, redSeq := none, hsrTagged := false, bytes := bytes }

/-- The queue of a PTP message (R115): 1 for an event message, 3 for any other one. -/
def ptpQueue (k : PtpKind) : Nat :=
  match k with
  | .sync | .pdelayReq | .pdelayResp => 1
  | .announce | .followUp | .pdelayRespFollowUp | .management => 3

/-- A PTP message put on the queue of its kind on a port (R115), with its timestamp and, for a sync passed on, the delay of its link (R123). -/
def sendPtp (s : State) (n : Nat) (k : PtpKind) (ts : Nat) (link : Option Nat) (bytes : List Byte) : State :=
  let cells := cellsFor (bytes.length + 4)
  let s := setFree s (s.pool.free - cells)
  let r := { FrameRec.fresh (plainFrame .ptp bytes) (.port n) ts none 0 cells 0 false with
    stage := .verdict, consumers := 1, egress := 2 ^ n, rxDone := true, link := link }
  let (h, s) := addFrame s r
  let q := enqueueAt s n (ptpQueue k) h
  if q.2 then q.1 else freeFrame q.1 h

/-- A message for the time unit: announces choose the port, a completed sync of that port is a source update, peer-delay exchanges
are answered and measured (R122, R472). -/
def ptpOwn (s : State) (n : Nat) (m : PtpMsg) : State :=
  let p := s.ptp
  match m.kind with
  | .announce =>
    let ranks := setAt p.ranks n (some m.rank)
    { s with ptp := { p with ranks := ranks, port := (bestPort ranks (fld (ptpCfg s) 19 16)).getD p.port } }
  | .sync | .followUp =>
    match m.offset with
    | some o =>
      if bestPort p.ranks (fld (ptpCfg s) 19 16) = some n then
        sourceUpdate { s with ptp := { p with ptpOk := true, ptpOffset := o, port := n } } 1 o
      else s
    | none => s
  | .pdelayReq =>
    let s := sendPtp s n .pdelayResp (ptpNow s) none (Config.pdelayResponse m.bytes 0)
    sendPtp s n .pdelayRespFollowUp (ptpNow s) none (Config.pdelayResponse m.bytes 1)
  | .pdelayResp | .pdelayRespFollowUp =>
    match m.delay with
    | some d => { s with ptp := { p with pdelay := setAt p.pdelay n (some (min d 0xFFFFFF)) } }
    | none => s
  | .management => s

/-- A message that a transparent clock passes on (R122, R123): everything but the peer-delay messages of the link itself. -/
def ptpPasses (k : PtpKind) : Bool :=
  match k with
  | .announce | .sync | .followUp | .management => true
  | .pdelayReq | .pdelayResp | .pdelayRespFollowUp => false

/-- PTP_MESSAGE (R122, R123): a message that relies on an option of no support is discarded and counted, one of another domain discarded; with
TCEN an HSR or BITW pair passes it on, a sync with its correction; a port that takes part in PTP hands it to the time unit. -/
def ptpMessage (s : State) (n : Nat) (m : PtpMsg) : State :=
  if (getPort s n).up then
    if !m.optionOk then setEvt (incReg s (pbpReg n 0x3C)) (0x10 + n) 2
    else if m.domain ≠ fld (ptpCfg s) 31 24 then s
    else
      let s := if (pairMode s n = 2 ∨ pairMode s n = 3) ∧ fld (pairCfg s n) 7 7 = 1 ∧ ptpPasses m.kind = true then
          sendPtp s (otherPort n) m.kind m.rxTs (if m.kind = .sync then some ((s.ptp.pdelay.getD n none).getD 0) else none) m.bytes
        else s
      if ptpEn s ∧ bit (fld (ptpCfg s) 19 16) n = true then
        (if pageSafe s 0x120 then s else ptpOwn s n m)
      else s
  else s

/-- PTP_MESSAGE (R122). -/
def execPtpMessage (port : Fin 4) (m : PtpMsg) (s : State) : Host.Outcome State Fault Refusal := .next (ptpMessage s port m)

/-- PEER_DELAY_REQUEST (R122): once a second each port that takes part in PTP asks for its link's delay. -/
def execPeerDelayRequest (s : State) : Host.Outcome State Fault Refusal :=
  .next (if ptpEn s then
      (List.range 4).foldl (fun s n =>
        if bit (fld (ptpCfg s) 19 16) n && (getPort s n).up then sendPtp s n .pdelayReq (ptpNow s) none (Config.pdelayRequest n) else s) s
    else s)

/-! ### 1PPS and IRIG-B (R121, R125, R126) -/

/-- The whole seconds nearest to an offset, in ns. -/
def wholeSec (o : Int) : Int := (o + 500000000) / 1000000000 * 1000000000

/-- SRCFAIL with its TIME_SOURCE record: the sources compared and their difference (R121, R125, R417). -/
def sourceFail (s : State) (srcs : Nat) (diff : Int) : State :=
  record (setEvt s 0x120 2) 0x0112 0x11 0 (srcs :: words64 (unsgn 64 diff))

/-- 1PPS in and IRIG-B differ by more than 1 µs: both are rejected (R121). -/
def irigPpsDiffer (s : State) : Bool :=
  irigEn s && ppsInEn s && s.ptp.irigOk && s.ptp.ppsOk
    && decide (1000 < (s.ptp.ppsOffset - (s.ptp.irigOffset - wholeSec s.ptp.irigOffset)).natAbs)

/-- Both are rejected as a source, with SRCFAIL and its record (R121). DESIGN CHOICE (log entry 144): until a frame or an edge finds them agreed again
or one of them is lost; meanwhile no further record is written. -/
def rejectBoth (s : State) : State :=
  let d := s.ptp.ppsOffset - (s.ptp.irigOffset - wholeSec s.ptp.irigOffset)
  if s.ptp.rejected then s else sourceGone (sourceFail { s with ptp := { s.ptp with rejected := true } } 6 d)

/-- IRIG-B and 1PPS in agree, or one of them is absent. -/
def agreed (s : State) : State := { s with ptp := { s.ptp with rejected := false } }

/-- PPS_IN_EDGE (R121, R125). -/
def ppsInEdge (s : State) (o : Int) : State :=
  if ppsInEn s = false ∨ pageSafe s 0x120 = true then s
  else if s.ptp.st = .locked ∧ s.ptp.src = 2 ∧ 1000000 < o.natAbs then sourceFail s 2 o
  else
    let s := { s with ptp := { s.ptp with ppsOk := true, ppsOffset := o } }
    if irigPpsDiffer s then rejectBoth s
    else if irigEn s && s.ptp.irigOk then sourceUpdate (agreed s) 2 (o + wholeSec s.ptp.irigOffset)
    else agreed s

/-- PPS_IN_EDGE (R125). -/
def execPpsInEdge (offset : Int) (s : State) : Host.Outcome State Fault Refusal := .next (ppsInEdge s offset)

/-- The level of the 1PPS output: inverted when POL is 1 (R125). -/
def ppsPin (s : State) : Bool := s.ptp.ppsOut != (fld (getReg s 0x12003C) 16 16 == 1)

/-- PPS_OUT (R125): the rise at a PTP second, driven in LOCKED and HOLDOVER alone. -/
def execPpsOut (s : State) : Host.Outcome State Fault Refusal :=
  .next { s with ptp := { s.ptp with ppsOut := fld (ptpCfg s) 8 8 == 1 && (s.ptp.st == .locked || s.ptp.st == .holdover) } }

/-- The days from 1 January 1970 to 1 January of a year. -/
def yearDays (y : Nat) : Nat := 365 * (y - 1970) + (y - 1969) / 4 - (y - 1901) / 100 + (y - 1601) / 400

/-- The UTC second of an IRIG-B frame, counted from the PTP epoch: in the year that it names, otherwise in PTP_UTCOFS.YEAR (R126). -/
def irigSecond (s : State) (f : IrigFrame) : Nat := yearDays (f.year.getD (fld (getReg s 0x120038) 31 16)) * 86400 + f.second

/-- The offset of an IRIG-B frame from the clock on the TAI timescale (R126). -/
def irigTotal (s : State) (f : IrigFrame) : Int :=
  let tai := f.taiUtc.getD (fld (getReg s 0x120038) 15 0)
  f.offset + ((irigSecond s f + tai : Nat) - ((ptpNow s + 500000000) / 1000000000 : Nat) : Int) * 1000000000

/-- IRIGB_FRAME (R121, R126): a bad or out-of-sequence frame is discarded with IRIGERR; without a year IRIG-B is no valid source. -/
def irigbFrame (s : State) (f : IrigFrame) : State :=
  if irigEn s = false ∨ pageSafe s 0x120 = true then s
  else
    let p := s.ptp
    let follows := match p.irigPrev with | some q => irigSecond s f == q + 1 | none => true
    let s := { s with ptp := { p with irigPrev := if f.wellFormed then some (irigSecond s f) else none } }
    if !f.wellFormed || !follows then setEvt s 0x120 3
    else if f.year.isNone && fld (getReg s 0x120038) 31 16 == 0 then s
    else
      let o := irigTotal s f
      let s := { s with ptp := { s.ptp with irigOk := true, irigOffset := o } }
      if irigPpsDiffer s then rejectBoth s
      else if ppsInEn s && s.ptp.ppsOk then agreed s
      else sourceUpdate (agreed s) 3 o

/-- IRIGB_FRAME (R126). -/
def execIrigbFrame (f : IrigFrame) (s : State) : Host.Outcome State Fault Refusal := .next (irigbFrame s f)

/-- TIME_SOURCE_COMPARE (R121): while LOCKED on PTP with IRIG-B valid, a difference above 2 µs is SRCFAIL, and PTP is kept. -/
def execTimeSourceCompare (s : State) : Host.Outcome State Fault Refusal :=
  let p := s.ptp
  let d := p.irigOffset - p.ptpOffset
  .next (if p.st = .locked ∧ p.src = 1 ∧ irigEn s = true ∧ p.irigOk = true ∧ p.rejected = false ∧ 2000 < d.natAbs then sourceFail s 5 d else s)

/-! ### Reads that latch (R132, R472) -/

/-- PTP_TNS_READ (R132): the seconds of the instant are latched. -/
def execPtpTnsRead (by_ : Party) (s : State) : Host.Outcome State Fault Refusal :=
  .next (barRead s by_ 0x120028 (fun s => { s with ptp := { s.ptp with tsSec := s.ptp.sec } }))

/-- PTP_STEPSEC_READ (R472): the step log is latched. -/
def execPtpStepsecRead (by_ : Party) (s : State) : Host.Outcome State Fault Refusal :=
  .next (barRead s by_ 0x121040 (fun s => { s with ptp := { s.ptp with snap := s.ptp.steps } }))

end Sys2Proof.Machine
end

