-- ==== Sys2Proof/Machine/Power.lean ====
section
/-! DEFINITION. Machine/Power.lean: the commands and events of power domains, clock inputs and temperature (R433 to R439). -/
namespace Sys2Proof.Machine

/-! ### Requests (R435, R438) -/

/-- OFF: PWC_REQ written with operation 0x1 (R435). -/
def execOff (by_ : Party) (group : BitVec 4) (index : BitVec 10) (s : State) : Host.Outcome State Fault Refusal :=
  let v := pwcWord 1 group.toNat index.toNat
  .next (barWrite s by_ 4 0x130024 v (fun s => pwcRun s v (offRefusal s group.toNat index.toNat) (fun s => switchOff s group.toNat index.toNat)))

/-- ON: PWC_REQ written with operation 0x2 (R435). -/
def execOn (by_ : Party) (group : BitVec 4) (index : BitVec 10) (s : State) : Host.Outcome State Fault Refusal :=
  let v := pwcWord 2 group.toNat index.toNat
  .next (barWrite s by_ 4 0x130024 v (fun s => pwcRun s v (onRefusal s group.toNat index.toNat) (fun s => switchOn s group.toNat index.toNat)))

/-- LPHOLD_ENTER: PWC_REQ written with operation 0x3 (R438). -/
def execLpholdEnter (by_ : Party) (s : State) : Host.Outcome State Fault Refusal :=
  let v := pwcWord 3 0 0
  .next (barWrite s by_ 4 0x130024 v (fun s => pwcRun s v (lpEnterRefusal s) lpEnter))

/-- LPHOLD_EXIT: PWC_REQ written with operation 0x4 (R438). -/
def execLpholdExit (by_ : Party) (s : State) : Host.Outcome State Fault Refusal :=
  let v := pwcWord 4 0 0
  .next (barWrite s by_ 4 0x130024 v (fun s => pwcRun s v (if s.pwc.lpHold then 0 else 4) lpLeave))

/-- PWC_REQUEST_DONE (R435, R439): the request in progress ends. A bobbin that still held a frame goes off once the frame is finished; a
domain that did not come up goes off again, with FAULT. -/
def pwcDone (s : State) (came : Bool) : State :=
  let p := s.pwc
  if p.busy = false then s
  else if p.op = 1 ∧ p.group = 1 ∧ bit p.bob p.index = true then
    if (getBob s p.index).frame.isNone then pwcEnd (bobOff s p.index) 0 else s
  else if came then pwcEnd s 0
  else pwcEnd (if p.op = 2 then switchOff s p.group p.index else s) 5

/-- PWC_REQUEST_DONE (R439). -/
def execPwcRequestDone (came : Bool) (s : State) : Host.Outcome State Fault Refusal := .next (pwcDone s came)

/-! ### Clock inputs (R433, R434) -/

/-- The substitute clock taken or given back: the error that has grown so far is kept (R434). -/
def setSubstitute (s : State) (on : Bool) : State :=
  let e := estErrNow s
  let p := if s.ptp.st = .holdover then { s.ptp with holdErr := e, holdAt := s.boot.now } else s.ptp
  { s with ptp := { p with substitute := on } }

/-- What a faulted clock input does to the block it feeds (R433, R434). -/
def clockEffect (s : State) (clk : Nat) : State :=
  match clk with
  | 0 => laneChange (laneChange (forAll 4 portDown s) 0 false) 1 false
  | 1 => pcieLinkReport (functionReset s) false 0 0 false
  | 2 =>
    let s := if s.ptp.st = .freerun then s else enterHoldover s
    setSubstitute { s with ptp := { s.ptp with ptpOk := false, irigOk := false, ppsOk := false, rejected := false } } true
  | _ => s

/-- A fault of the system reference or of the engine clock trips CLKGLITCH (R29, R357, R433): a tamper event in an armed state, otherwise a
source event (R359). -/
def clockGlitch (s : State) : State := if tamperArmed s && bit (sourcesEnabled s) 7 then tamperEvent s (2 ^ 7) else sourceEvent s 7 true

/-- CLOCK_FAULT (R29, R433): of an input, CLKFAULT, its bit of PWC_CLKSTAT, the record and the effect; of the system reference and the engine
clock, the record and the tamper source. -/
def clockFault (s : State) (clk : Nat) (period : Word) : State :=
  if s.boot.inReset then s
  else if 4 ≤ clk then clockGlitch (record s 0x0012 0x12 0 [clk, period.toNat])
  else if bit s.pwc.clkOk clk = false then s
  else
    let s := setEvt { s with pwc := { s.pwc with clkOk := maskSet s.pwc.clkOk clk false } } 0x130 1
    clockEffect (record s 0x0012 0x12 0 [clk, period.toNat]) clk

/-- CLOCK_FAULT (R433). -/
def execClockFault (clk : Fin 6) (period : Word) (s : State) : Host.Outcome State Fault Refusal := .next (clockFault s clk period)

/-- CLOCK_FAULT_END (R433, R434). -/
def execClockFaultEnd (clk : Fin 6) (s : State) : Host.Outcome State Fault Refusal :=
  .next (if 4 ≤ clk.val ∨ bit s.pwc.clkOk clk.val = true then s
    else
      let s := { s with pwc := { s.pwc with clkOk := maskSet s.pwc.clkOk clk true } }
      if clk.val = 2 then setSubstitute s false else s)

/-! ### Temperature (R439) -/

/-- THERMAL_WARNING (R439): PWC_TJ, and THERM while it is 110 °C or above. -/
def execThermalWarning (tj : BitVec 16) (s : State) : Host.Outcome State Fault Refusal :=
  .next (condSet { s with pwc := { s.pwc with tj := tj.toNat } } 0x130 2 (decide (1760 ≤ tj.toInt)))

end Sys2Proof.Machine
end

