-- ==== Sys2Proof/Machine/Rebuild.lean ====
section
/-! DEFINITION. Machine/Rebuild.lean: what the boot ROM judges at reset release, and what the firmware restores and rebuilds at its entry
(R172 to R176, R184, R192, R195, R307, R309, R342, R360, R363, R387, R421, R423, R431). -/
namespace Sys2Proof.Machine

/-! ### The boot ROM -/

/-- The battery domain has lost its content (R431): the master-key records read as empty, the source enables as disabled, and SEQRES, the
battery records and the latched time are gone. -/
def batteryLost (s : State) : State :=
  { s with
    firn := { s.firn with recA := .empty, recB := .empty }
    tamper := { s.tamper with srcEn := 0, batRecs := [] }
    mor := { s.mor with seqRes := 0 }
    boot := { s.boot with latchSec := 0, latchNs := 0 } }

/-- The first failing check of an image (R195): 1 fields and reserved bytes, 2 the signer's key, 3 the signature, 4 the body, 5 the SVN; 0 while it
is valid. -/
def imageFault (s : State) (m : FwImage) : Nat :=
  if fwBad m then 1
  else if s.lc.fwKeyHash.getD m.keyIdx none ≠ some (fingerprint m.pubKey) ∨ bit s.lc.fwKeyRevoke m.keyIdx = true then 2
  else if Config.mldsaVerify m.pubKey (Config.sha3 (fwHead m)) m.sig = false then 3
  else if Config.sha3 (m.body.take m.length) ≠ m.bodyDigest then 4
  else if m.svn < s.lc.svnMin then 5
  else 0

/-- Both images checked, A first, and the one chosen copied (R195, R421): the boot-preference word's when it is valid and its copy matches,
the other one otherwise. Answers whether an image is left to start. -/
def chooseImage (s : State) (env : BootEnv) : Bool × State :=
  let copyOk := fun (k : Nat) => if k = 0 then env.copyA else env.copyB
  let fa := imageFault s s.boot.imageA
  let fb := imageFault s s.boot.imageB
  let valid := fun (k : Nat) => if k = 0 then fa == 0 else fb == 0
  let p := s.boot.prefSlot
  let q := 1 - p
  let runs := fun (k : Nat) => valid k && copyOk k
  let tried := if runs p then [p] else [p, q]
  let copies := tried.filter (fun k => valid k && !copyOk k)
  let bad := (if fa = 0 then [] else [(0, fa)]) ++ (if fb = 0 then [] else [(1, fb)]) ++ copies.map (fun k => (k, 6))
  let s := { s with boot := { s.boot with
    notes := s.boot.notes ++ bad, aInv := bad.any (fun e => e.1 == 0), bInv := bad.any (fun e => e.1 == 1), slot := if runs p then p else q } }
  (runs p || runs q, s)

/-- The time unit at reset release (R423): the latched time and the battery domain's count; 0 when that domain lost its content. -/
def bootTime (s : State) (env : BootEnv) : PtpSt :=
  let ns := s.boot.latchNs + env.elapsedNs
  if env.batteryOk then
    { PtpSt.reset with sec := (s.boot.latchSec + env.elapsedSec + ns / 1000000000) % 2 ^ 48, ns := ns % 1000000000 }
  else PtpSt.reset

/-- A power failure in the middle of step 4 of a change of master key (R176): the STAGED record's STATE is written and its CRC is not. -/
def tornRecords (f : FirnSt) : FirnSt :=
  match stagedOf f with
  | some (r, true) => { f with recA := { r with state := 0xA5 } }
  | some (r, false) => { f with recB := { r with state := 0xA5 } }
  | none => f

/-- LCW decoded and the units that reset release starts: Flurry, the clocks, and the count of boots since SEALED (R197, R383, R400, R421). -/
def romStart (s : State) (env : BootEnv) : State :=
  let d := lcDecode s.lc.lcw
  let counts := !(d.1 == .blank || d.1 == .factoryTest || d.1 == .invalid)
  { s with
    boot := { s.boot with
      inReset := false, now := 0, phase := .rom, powerFail := false, batteryOk := env.batteryOk, bootCnt := s.boot.bootCnt + bnat counts }
    lc := { s.lc with st := d.1, target := d.2 }
    rng := { s.rng with katOk := env.katOk, startAt := 0 }
    firn := if env.torn && s.boot.powerFail then tornRecords s.firn else s.firn
    ptp := bootTime s env }

/-- The start-up hold of a module whose LCW decodes INVALID (R384): the cause that it shows is open. -/
def invalidHold (s : State) : State :=
  let (c, s) := draw s
  enterHold s (c % 16)

/-- What the boot ROM does with what it reads (R384, R421, R425). -/
def romChecks (s : State) (env : BootEnv) : State :=
  if s.lc.st = .invalid then invalidHold s
  else if env.otpOk = false then enterHold s 5
  else
    let (some_, s) := chooseImage s env
    if some_ = false then
      let s := enterHold s 1
      { s with boot := { s.boot with access := .holdPages } }
    else if env.katOk = false then rngFatal s
    else rngRequest (rngRequest s 0 64) 1 64

/-! ### Keys and identity at firmware entry -/

/-- A record at a moment of its own (R363). -/
def recordAt (s : State) (ns code block inst : Nat) (payload : List Nat) : State :=
  let p := s.ptp
  let s := record { s with ptp := { p with sec := ns / 1000000000 % 2 ^ 48, ns := ns % 1000000000 } } code block inst payload
  { s with ptp := p }

/-- The battery records copied into Moraine and cleared (R363): each at the time latched at power loss plus its count. -/
def copyBattery (s : State) : State :=
  let l := s.tamper.batRecs
  let base := s.boot.latchSec * 1000000000 + s.boot.latchNs
  let s := l.foldl (fun s r => recordAt s (base + r.count * 1000000000 / 32768) 0x0700 0xD 0 [r.sources, r.count]) s
  { s with tamper := { s.tamper with batRecs := [], batCopied := l.length } }

/-- The event VBATLOW of a battery domain that has lost its content, where a key existed (R431): ZEROISED, a tamper event of source bit 10. -/
def batteryGone (s : State) : State :=
  record { s with tamper := { s.tamper with zeroised := true, last := 2 ^ 10, evCnt := min (s.tamper.evCnt + 1) 0xFFFFFFFF } } 0x0700 0xD 0 [2 ^ 10, 0]

/-- A master key has gone with the battery domain (R431): ZEROISED with a TAMPER record, or a VBAT_LOW record where no key ever existed. -/
def batteryOutcome (s : State) : State :=
  if s.boot.batteryOk then s
  else match s.lc.st with
    | .field | .repair => batteryGone s
    | .sealed =>
      if s.lc.keyed then batteryGone s
      else record { s with tamper := { s.tamper with zeroised := false } } 0x0701 0xD 0 [s.tamper.vbat]
    | .blank | .factoryTest | .ret | .scrap | .invalid => { s with tamper := { s.tamper with zeroised := false } }

/-- A persistent breach on VBAT takes effect (R360). -/
def breachBoot (s : State) : State :=
  if s.tamper.breachDue then meshBreach { s with tamper := { s.tamper with breachDue := false } } else s

/-- A NAND copy of the identity seed opened with the device root key: its encryption and authentication let no other key open it (R192). -/
def SeedCopy.opened (c : Option SeedCopy) : Option Nat :=
  match c with | some x => if x.key = Config.deviceRootKey then some x.seed else none | none => none

/-- The control cluster's identity key pair from its seed (R192). -/
def LcSt.withSeed (x : LcSt) (seed : Option Nat) : LcSt := { x with idKey := seed, idPub := seed.map Config.mldsaPub }

/-- The identity key (R192, R387): its 32-byte seed drawn from Flurry at the first boot in SEALED, kept in two copies, with the fingerprint
programmed into DEVFP; recomputed from the first copy that opens at every other boot. -/
def identityBoot (s : State) : State :=
  let usable := s.lc.rootKey && s.lc.st != .scrap
  if s.lc.st = .sealed ∧ s.lc.devFp = none ∧ s.lc.idKill = false ∧ usable = true then
    match rngTake s 32 with
    | some (n, s) =>
      let seed := n % 2 ^ 256
      let copy := some (SeedCopy.mk Config.deviceRootKey seed)
      { s with lc := { s.lc.withSeed (some seed) with
          seedA := copy, seedB := copy, devFp := some (fingerprint (Config.mldsaPub seed)) } }
    | none => s
  else
    let seed := if usable then (SeedCopy.opened s.lc.seedA).or (SeedCopy.opened s.lc.seedB) else none
    { s with lc := s.lc.withSeed seed }

/-- The NAND tables that no key can unwrap any more are erased, and every context's key references become NONE (R184). -/
def eraseKeys (d : Durable) : Durable :=
  { d with
    blobs := [], shadow := none, nodes := [], schedule := [], gdoiMember := none
    ctxs := d.ctxs.map (fun (e : Nat × Option Ctx) => (e.1, e.2.map (fun c =>
      ((((c.setWord 0x04 0xFFFFFFFF#32).setWord 0x08 0).setWord 0x0C 0).setWord 0x10 0).setWord 0x14 0))) }

/-- A context's references to keys that outlived a zeroisation become NONE (R184). -/
def Ctx.dropRefs (gone : List KeyRef) (c : Ctx) : Ctx :=
  let c := if c.nstate ≠ 0 ∧ gone.contains c.nextRef then ((c.setWord 0x08 0).setWord 0x10 0).setWord 0x14 0 else c
  if c.noKey = false ∧ gone.contains c.curRef then (c.setWord 0x04 0xFFFFFFFF#32).setWord 0x0C 0 else c

/-- After a re-arm, the boot erases what outlived the zeroisation: those blobs and nodes, the references to them, and the scheduled commits
of contexts that hold no staged key any more (R184). -/
def eraseOutlived (gone : List KeyRef) (d : Durable) : Durable :=
  if gone.isEmpty then d
  else
    let ctxs := d.ctxs.map (fun (e : Nat × Option Ctx) => (e.1, e.2.map (Ctx.dropRefs gone)))
    let staged := fun (i : Nat) => match smapGet (fun _ => none) ctxs i with | some c => c.nstate != 0 | none => false
    { d with
      blobs := d.blobs.filter (fun e => !gone.contains (.blob e.1))
      nodes := d.nodes.filter (fun e => !gone.contains (.node e.1))
      schedule := (d.schedule.map (fun (x : SchedEntry) => { x with targets := x.targets.filter staged })).filter (fun x => !x.targets.isEmpty)
      ctxs := ctxs }

/-- A pinned blob made resident (R159, R421). -/
def pinBoot (s : State) (i : Nat) (b : Blob) : State :=
  if b.pinned && !b.bad then
    match Config.kwpUnwrap (wkNow s b.slice b.attr) b.wrapped with
    | some k => loadSlot s (.blob i) b.attr b.ktype b.kid k true
    | none => s
  else s

/-- The blob table of NAND that is tagged with the SEQ of the active record: the shadow table, where that record is the new one (R176). -/
def bootTable (s : State) : SMap (Option Blob) :=
  match s.durable.shadow, activeRec s.firn with
  | some (q, t), some r => if q = r.seq then t else s.durable.blobs
  | _, _ => s.durable.blobs

/-- Firn at boot (R157, R175, R176, R185): tables from NAND, the key state, wrapping keys and pinned blobs resident, and a change of master
key that was rewrapping resumed with its record. -/
def firnBoot (s : State) : State :=
  let resumes := stagedRec s.firn && (activeRec s.firn).isSome
  let d := { s.durable with blobs := bootTable s, shadow := if resumes then s.durable.shadow else none }
  let done := (d.shadow.map (fun e => e.2)).getD []
  let s := { s with
    durable := d
    firn := { s.firn with
      blobs := d.blobs, nodes := d.nodes, sepoch := d.sepoch, schedule := d.schedule, gdoi := d.gdoi, member := d.gdoiMember
      rewrapped := done.length, rewrapNext := done.foldl (fun a e => max a (e.1 + 1)) 0 } }
  let k : KState := if zeroisedNow s then .zeroised else if (activeRec s.firn).isNone then .nommk else if resumes then .changing else .active
  let s := setKState s k
  if k = .active ∨ k = .changing then
    let s := s.slices.foldl (fun s e => if e.2.st = .free then s else deriveWk s e.1) s
    let s := s.firn.blobs.foldl (fun s e => match e.2 with | some b => pinBoot s e.1 b | none => s) s
    if k = .changing then record s 0x0505 0x6 0 [s.firn.rewrapped] else s
  else s

/-! ### Slices, contexts and groups -/

/-- A slice after a restart (R309): QUIESCED, its rings forgotten; PASID and quota are journalled. -/
def sliceBoot (x : Slice) : Slice := { Slice.free with st := .quiesced, pasid := x.pasid, maxCtx := x.maxCtx }

def slicesBoot (s : State) : State :=
  s.durable.slices.foldl (fun s e => match e.2 with | some x => setSlice s e.1 (sliceBoot x) | none => s) s

/-- A balance group after a restart (R237, R327): on its original pillow, with an empty history. -/
def groupBoot (s : State) (g : Nat) (x : Group) : State :=
  let p := x.origin.getD x.pillow
  match ramFit (ramUsed s p) 2048 with
  | some base => setGroup s g (some (groupOf p base (pickOwner s p) x.channels x.tolAbs x.tolRel x.persist x.balWait x.smpRate))
  | none => s

/-- The words of a context that survive a restart (R59, R172, R173, R174): its configuration, its key words, and for a publisher the last
durable reservation as its invocation field. -/
def wordsBoot (c : Ctx) : List Word :=
  let kept := [0x00, 0x04, 0x08, 0x0C, 0x10, 0x14, 0x18, 0x44, 0x48, 0x5C]
  let w := (List.range 24).map (fun i => if kept.contains (4 * i) then c.word (4 * i) else 0)
  let w := setAt w 8 (if c.isSv then c.word 0x20 &&& 0xFC000000#32 else 0)
  let w := setAt w 11 (c.word 0x2C &&& 0x000FFFFF#32)
  let iv := min c.reserve (2 ^ 64 - 1)
  if c.pubDir then setAt (setAt w 12 (w32 iv)) 13 (w32 (iv / 2 ^ 32)) else w

/-- A context after a restart: in its original row (R237), with nothing in progress, and with the scratch that R220 gives for the image of the
last durable assignment. -/
def ctxBoot (s : State) (i : Nat) (c : Ctx) : State :=
  let c := match c.origin with | some p => c.setHome p | none => c
  let p := c.home
  let len := match imageFor s p c.kind c.pubDir with | some m => scratchSize s m c.smpRate (c.phasor || c.harm) | none => c.scrLen
  match imageFor s p c.kind c.pubDir, ramFit (ramUsed s p) len with
  | im, some base =>
    let init := match im with | some m => m.init.isSome | none => false
    let s := setCtx s i (some { c with
      words := wordsBoot c, scrBase := base, scrLen := len, bgOwner := pickOwner s p, deferred := 0, pendingEval := false, failHarm := false, failBal := false
      lastTs := 0, ttl := 0, ivNoted := false, bitwNoted := false, initDue := init, changes := [], moving := none, removing := none,
      origin := none })
    if init then s else zeroScratch s i
  | _, none => s

/-- One entry of the classifier rebuilt (R57): a context that does not fit is left out, and named in the answer. -/
def clsBoot (r : State × List Nat) (i : Nat) (c : Ctx) : State × List Nat :=
  match c.key, c.lookup with
  | some k, true =>
    match insertKey r.1 with
    | (.full, t) => (t, r.2 ++ [i])
    | (.stash n, t) => ({ t with cls := t.cls.enter k i (some n) }, r.2)
    | (.bucket, t) => ({ t with cls := t.cls.enter k i none }, r.2)
  | _, _ => r

/-- The classifier rebuilt under new seeds from Flurry, and again while it meets TABLE_FULL: the fourth failed rebuild stands, with a TABLE_FULL
record for each context left out (R56, R57). -/
def clsRebuild (s : State) : Nat → State
  | 0 => s
  | n + 1 =>
    let s := rngRequest s 2 32
    let r := (ctxList s).foldl (fun r e => clsBoot r e.1 e.2) ({ s with cls := ⟨[], [], s.cls.seed⟩ }, [])
    if r.2.isEmpty then r.1
    else if n = 0 then r.2.foldl (fun s i => record s 0x0200 0x3 0 [i]) r.1
    else clsRebuild r.1 n

/-- The reservation that a publisher needs after a restart, since its field stands at the last one (R174). -/
def reserveBoot (s : State) (i : Nat) (c : Ctx) : State :=
  if c.pubDir ∧ c.iv < 2 ^ 64 - 1 then journalAdd s [.ctx i (some c.reserved)] else s

/-- Groups, contexts and the classifier rebuilt from NAND, and the loads of PENDING keys run again (R168, R172, R173, R421). -/
def contextsBoot (s : State) : State :=
  let d := s.durable
  let s := d.groups.foldl (fun s e => match e.2 with | some x => groupBoot s e.1 x | none => s) s
  let s := d.ctxs.foldl (fun s e => match e.2 with | some c => ctxBoot s e.1 c | none => s) s
  let s := clsStashSync (clsRebuild s 4)
  let s := (ctxList s).foldl (fun s e => reserveBoot s e.1 e.2) s
  (ctxList s).foldl (fun s e => if e.2.nstate = 1 then startLoad s e.1 else s) s

/-! ### Units and pillows -/

/-- Lanes, LTU, LIU and pillows self-tested, with each pillow's images written (R421, R235): every test passes but those that failed by their own
event before (a lane in FAULT stays there), and the lanes' start writes no record (log entry 116). -/
def unitsBoot (s : State) : State :=
  let s := { s with images := s.durable.images, ltu := { s.ltu with st := .idle }, liu := { s.liu with st := .idle } }
  let s := forAll 32 (fun s n => modLane s n (fun x => if x.st = .selftest then { x with st := .service } else x)) s
  forAll 16 (fun s p => setPilState (modPil s p (fun x => { x with assign := smapGet (fun _ => defaultAssign) s.durable.assigns p })) p .service) s

/-- What NAND keeps of officers, code-signing key, token buckets and the binding (R365, R331, R415, R342): a bound module is HELD. -/
def settingsBoot (s : State) : State :=
  let d := s.durable
  let gone := s.lc.st == .ret || s.lc.st == .scrap
  let s := { s with
    tamper := { s.tamper with officers := if gone then [] else d.officers, codeKey := d.codeKey }
    mor := { s.mor with buckets := d.buckets.map (fun (e : Nat × Bucket) => (e.1, { e.2 with tokens := e.2.burst, supp := 0 })) }
    pair := { s.pair with bound := d.bound, partner := d.partner, member := d.member, pref := d.pref } }
  if d.bound then setPairState s .held 6 else s

/-- The firmware's entry (R421): LOG_BOOT and the records of what the boot found, keys and identity, then every table. -/
def firmwareStart (s : State) : State :=
  let s := { s with boot := { s.boot with phase := .firmware } }
  let s := if s.mor.fresh then logBoot s else s
  let s := s.boot.notes.foldl (fun s e => record s 0x0013 0x0 0 [e.1, e.2]) s
  let s := { s with boot := { s.boot with notes := [] } }
  let s := identityBoot (breachBoot (batteryOutcome (copyBattery s)))
  let s := if s.tamper.zeroised then { s with durable := eraseKeys s.durable } else { s with durable := eraseOutlived s.firn.outlived s.durable }
  let s := { s with firn := { s.firn with outlived := [] } }
  let s := settingsBoot (unitsBoot s)
  let s := contextsBoot (firnBoot (slicesBoot s))
  { s with fwl := { s.fwl with epoch := 1 } }

end Sys2Proof.Machine
end

