-- ==== Sys2Proof/Machine/Boot.lean ====
section
/-! DEFINITION. Machine/Boot.lean: reset, the boot sequence, the start-up hold with its recovery, and power failure (R418 to R431, R440). -/
namespace Sys2Proof.Machine

/-! ### Reset and release (R419 to R423) -/

/-- PCIE_PERST (R420): its assertion while the module runs has the effects of R307, with the link down. -/
def pciePerst (s : State) (asserted : Bool) : State :=
  let was := s.hostIf.perst
  let s := { s with hostIf := { s.hostIf with perst := asserted } }
  if asserted && !was && !s.boot.inReset then pcieLinkReport (functionReset s) false 0 0 false else s

/-- PCIE_PERST (R420). -/
def execPciePerst (asserted : Bool) (s : State) : Host.Outcome State Fault Refusal := .next (pciePerst s asserted)

/-- RESET_N (R419): the whole module is held in internal reset; debug views close (R392). -/
def execResetN (s : State) : Host.Outcome State Fault Refusal := .next (if s.boot.inReset then s else moduleReset (debugClose s))

/-- RESET_RELEASE (R419, R421, R423). -/
def execResetRelease (env : BootEnv) (s : State) : Host.Outcome State Fault Refusal :=
  .next (if s.boot.inReset then romChecks (if env.batteryOk then romStart s env else batteryLost (romStart s env)) env else s)

/-- FIRMWARE_ENTRY (R421): the boot ROM has a valid copy in DRAM, both controllers being in SERVICE. -/
def execFirmwareEntry (s : State) : Host.Outcome State Fault Refusal :=
  .next (if s.boot.inReset = false ∧ s.boot.phase = .rom ∧ s.pool.dram0.st = .service ∧ s.pool.dram1.st = .service then firmwareStart s else s)

/-- HOST_ACCESS_OPEN (R421, R422, R440): every page opens, GLB_BOOTTIME is written, and Moraine leaves STARTUP. -/
def execHostAccessOpen (ms : Nat) (s : State) : Host.Outcome State Fault Refusal :=
  .next (if s.boot.phase = .firmware then
      morSync { s with boot := { s.boot with phase := .hostOpen, access := .full, bootTime := ms } }
    else s)

/-- Scheduled commits past ACTIVATE at the end of boot, with CTX_OVLEND from ACTIVATE + OVERLAP (R173); a target that is not READY is
skipped with its record, but for one whose load the schedule waits for (R169). -/
def bootCommit (e : SchedEntry) (s : State) (i : Nat) : State :=
  match getCtx s i with
  | some c =>
    if c.nstate = 2 then commitScheduled s i ((e.activate + e.overlap.getD c.overlap) % 2 ^ 32) (SchedEntry.due s)
    else if c.nstate = 1 && e.waits then s
    else skipTarget s i (SchedEntry.due s)
  | none => skipTarget s i (SchedEntry.due s)

def bootCommits (s : State) : State := (s.firn.schedule.filter (SchedEntry.due s)).foldl (fun s e => e.targets.foldl (bootCommit e) s) s

/-- PORT_HOLD_RELEASE (R422): ports start, CRYPTO_OK pulses under R462, and a bound module shows the STANDBY tone. -/
def execPortHoldRelease (s : State) : Host.Outcome State Fault Refusal :=
  .next (if s.boot.phase = .hostOpen then
      let s := bootCommits s
      { s with
        boot := { s.boot with phase := .service, portHold := false }
        stn := { s.stn with health := !s.boot.ccDead }
        pair := if s.pair.bound then { s.pair with psOut := .standby } else s.pair }
    else s)

/-! ### The start-up hold (R425, R426, R440) -/

/-- TEMP_HOLD (R425): a junction at or above 125 °C for 1 ms. -/
def execTempHold (tj : BitVec 16) (s : State) : Host.Outcome State Fault Refusal :=
  .next (if s.boot.inReset = false ∧ 2000 ≤ tj.toInt then enterHold { s with pwc := { s.pwc with tj := tj.toNat } } 4 else s)

/-- GLB_BOOTSTAT (R440). -/
def bootStatWord (s : State) : Word :=
  let b := s.boot
  let ph := match b.phase with | .rom => 0 | .firmware => 1 | .hostOpen => 2 | .service => 3 | .hold => 4
  pack [(ph, 28), (if b.phase = .hold then b.cause else 0, 24), (b.slot, 2), (bnat b.aInv, 1), (bnat b.bInv, 0)]

/-- GLB_RCVCTRL (R440): GO reads 1 while STATUS is BUSY. -/
def rcvCtrlWord (s : State) : Word := pack [(s.boot.rcvStatus, 28), (fld (getReg s 0x102C) 1 1, 1), (bnat (s.boot.rcvStatus == 1), 0)]

/-- The effect of a write to GLB_RCVCTRL (R426, R440): SLOT is held, and GO starts the recovery. -/
def rcvCtrlEffect (v : Word) (s : State) : State :=
  let s := setReg s 0x102C (v &&& 2#32)
  if fld v 0 0 = 1 then { s with boot := { s.boot with rcvStatus := 1 } } else s

/-- RECOVERY_GO (R426). -/
def execRecoveryGo (by_ : Party) (slot : Bool) (s : State) : Host.Outcome State Fault Refusal :=
  let v := pack [(bnat slot, 1), (1, 0)]
  .next (barWrite s by_ 4 0x102C v (rcvCtrlEffect v))

/-- The image written to its slot, which the boot-preference word names from now on (R426). -/
def recoveryWritten (s : State) (slot : Nat) (m : FwImage) : State :=
  { s with boot := { s.boot with
      rcvStatus := 4, prefSlot := slot, imageA := if slot = 0 then m else s.boot.imageA, imageB := if slot = 0 then s.boot.imageB else m } }

/-- RECOVERY_DONE (R426, R440): the image that the boot ROM read, checked under R195 as if it lay in NAND: DONE, or INVALID with the first failing
check kept for the next boot's record; NAND_FAIL where the write failed. -/
def recoveryDone (s : State) (o : RecoveryOutcome) : State :=
  let slot := fld (getReg s 0x102C) 1 1
  if s.boot.rcvStatus ≠ 1 then s
  else match o with
    | .nandFail => { s with boot := { s.boot with rcvStatus := 3 } }
    | .image m =>
      if imageFault s m = 0 then recoveryWritten s slot m
      else { s with boot := { s.boot with rcvStatus := 2, notes := s.boot.notes ++ [(slot, imageFault s m)] } }

/-- RECOVERY_DONE (R426). -/
def execRecoveryDone (o : RecoveryOutcome) (s : State) : Host.Outcome State Fault Refusal := .next (recoveryDone s o)

/-- RECOVERY_RESET (R426). -/
def execRecoveryReset (s : State) : Host.Outcome State Fault Refusal := .next (if s.boot.rcvStatus = 4 then moduleReset s else s)

/-! ### Power failure (R427 to R429) -/

/-- POWER_FAIL_WARNING (R392, R428, R429): debug views close, the actions are taken, the time is latched, and the reset follows that every warning ends in. -/
def powerFail (s : State) : State :=
  if s.boot.inReset then s
  else
    let r := moduleReset (powerFailActions (debugClose s))
    { r with boot := { r.boot with powerFail := true, latchSec := s.ptp.sec, latchNs := s.ptp.ns } }

/-- POWER_FAIL_WARNING (R428). -/
def execPowerFailWarning (s : State) : Host.Outcome State Fault Refusal := .next (powerFail s)

end Sys2Proof.Machine
end

