-- ==== Sys2Proof/Machine/Firewall.lean ====
section
/-! DEFINITION. Machine/Firewall.lean: the fabric, the firewall's decision, its reports and its rule epochs (R292, R295 to R303). -/
namespace Sys2Proof.Machine

/-! ### Targets and grants -/

/-- A target lies at a fabric address (R295). -/
def mapped (a : Nat) : Bool :=
  decide (a < 0x200000000) || decide (0x800000000 ≤ a ∧ a < 0x801000000) || decide (0x810000000 ≤ a ∧ a < 0x811000000)
    || decide (0x820000000 ≤ a ∧ a < 0x822000000) || decide (0x840000000 ≤ a ∧ a < 0x840010000) || decide (0x850000000 ≤ a ∧ a < 0x850400000)

/-- DRAM ranges without a grant (R292). -/
def noGrant (a : Nat) : Bool := decide (0x70000000 ≤ a ∧ a < 0x100000000) || decide (0x118000000 ≤ a ∧ a < 0x200000000)

def inCells (a : Nat) : Bool := decide (0x800000000 ≤ a ∧ a < 0x801000000)
def inBlobs (a : Nat) : Bool := decide (a < 0x4000000)
def inShadow (a : Nat) : Bool := decide (0x4000000 ≤ a ∧ a < 0x8000000)
def inNodes (a : Nat) : Bool := decide (0x8000000 ≤ a ∧ a < 0xC000000)
def inSlices (a : Nat) : Bool := decide (0x820000000 ≤ a ∧ a < 0x822000000)
def inMirror (a : Nat) : Bool := decide (0x114000000 ≤ a ∧ a < 0x118000000)
def inStaging (a : Nat) : Bool := decide (0x110000000 ≤ a ∧ a < 0x114000000)

/-- The capture area of a pillow (R292). -/
def inCapture (p a : Nat) : Bool := decide (0x100000000 + 0x1000000 * p ≤ a ∧ a < 0x100000000 + 0x1000000 * (p + 1))

/-- The firmware grants (R297): master m may read or write the byte at a. -/
def granted (m : Nat) (wr : Bool) (a : Nat) : Bool :=
  if m < 4 then mapped a && !noGrant a
  else if 0x10 ≤ m ∧ m < 0x20 then
    let p := m - 0x10
    inCells a || inCapture p a
      || (!wr && (decide (0x810000000 + 0x100000 * p ≤ a ∧ a < 0x810000000 + 0x100000 * (p + 1))
        || decide (0x820000000 + 0x200000 * p ≤ a ∧ a < 0x820000000 + 0x200000 * (p + 1))))
  else if 0x20 ≤ m ∧ m < 0x24 then wr && inCells a
  else if 0x24 ≤ m ∧ m < 0x28 then !wr && inCells a
  else if m = 0x28 then inCells a
  else if m = 0x30 then !wr && inCells a
  else if m = 0x31 then wr && inCells a
  else if m = 0x38 then if wr then inShadow a else inBlobs a || inShadow a || inNodes a
  else if m = 0x39 ∨ m = 0x3A then decide (0x850000000 ≤ a ∧ a < 0x850400000)
  else if m = 0x40 then inBlobs a || decide (0x8000000 ≤ a ∧ a < 0x50000000) || inStaging a
  else if m = 0x41 then wr && inStaging a
  else if m = 0x42 then inMirror a || inSlices a
  else false

/-! ### Rules (R296 to R298, R301 to R303) -/

/-- The boot firmware has committed its rules. -/
def fwlBooted (s : State) : Bool := s.fwl.epoch != 0

def getShadow (s : State) (n : Nat) : FwlRule :=
  if n < 64 then (if fwlBooted s then ⟨Config.bootRule n 0, Config.bootRule n 1, Config.bootRule n 2, Config.bootRule n 3⟩ else .zero)
  else smapGet (fun _ => FwlRule.zero) s.fwl.shadow n

def getActive (s : State) (n : Nat) : FwlRule :=
  if n < 64 then getShadow s n else smapGet (fun _ => FwlRule.zero) s.fwl.active n

/-- A rule matches a byte of an access (R296). -/
def FwlRule.matches (r : FwlRule) (m : Nat) (wr : Bool) (a : Nat) : Bool :=
  fld r.ctl 31 31 == 1 && decide (fld r.base 29 0 ≤ a / 64 ∧ a / 64 ≤ fld r.lim 29 0)
    && Nat.land m (fld r.mast 7 0) == Nat.land (fld r.mast 15 8) (fld r.mast 7 0)
    && (if wr then fld r.ctl 27 27 == 1 else fld r.ctl 28 28 == 1)

/-- The lowest manager rule that denies a byte; the manager's rules carry DENY only (R297). -/
def denyRule (s : State) (m : Nat) (wr : Bool) (a : Nat) : Option Nat :=
  (s.fwl.active.find? (fun e => decide (64 ≤ e.1) && e.2.matches m wr a)).map (·.1)

/-- The rule that refuses a byte: a DENY rule, 0x101 where no target lies, 0x100 without an ALLOW rule; none where it is permitted. -/
def byteRule (s : State) (m : Nat) (wr : Bool) (a : Nat) : Option Nat :=
  match denyRule s m wr a with
  | some n => some n
  | none => if !mapped a then some 0x101 else if fwlBooted s && granted m wr a then none else some 0x100

/-- The first forbidden byte of an access and its rule (R298). -/
def accessRule (s : State) (m : Nat) (wr : Bool) (a n : Nat) : Option (Nat × Nat) :=
  (List.range n).findSome? (fun k => (byteRule s m wr (a + k)).map (fun r => (a + k, r)))

/-- FWL_VINFO of the oldest entry of a FIFO (R303). -/
def vinfo : List FwlViol → Word
  | [] => 0
  | v :: rest => pack [(1, 31), (bnat (!rest.isEmpty), 30), (bnat v.write, 29), (v.master, 16), (v.rule, 0)]

/-- The report of a refused access (R300). -/
def fwlReport (s : State) (m : Nat) (wr : Bool) (a rule : Nat) : State :=
  let e : FwlViol := ⟨a, wr, m, rule⟩
  let s := incReg s 0xB0038
  let s := if s.fwl.fifo.length < 32 then setEvt { s with fwl := { s.fwl with fifo := s.fwl.fifo ++ [e] } } 0xB0 0
    else setEvt (incReg s 0xB003C) 0xB0 1
  record s 0x0421 0xA 0 ((vinfo [e]).toNat :: words64 a)

/-- What the error response does at the master of a refused access (R299). Where the master alone does not tell the bobbin, lane or
slice, the effect is part of that unit's own commands. -/
def fwlError (s : State) (m a : Nat) : State :=
  if m < 4 then record s 0x0422 0x0 0 (0 :: words64 a)
  else if 0x20 ≤ m ∧ m < 0x24 then
    match (getPort s (m - 0x20)).rx with
    | .pool h => endUnder s h 0xA0
    | _ => s
  else if 0x24 ≤ m ∧ m < 0x28 then
    let n := m - 0x24
    match (getPort s n).tx with
    | some h => dropQueued (modPort s n (fun p => { p with tx := none, txFrame := none })) n h
    | none => s
  else if m = 0x38 then
    match s.firn.needs with
    | n :: _ => needFail (setEvt (incReg s 0x80030) 0x80 0) 10 n.key 5
    | [] => s
  else if m = 0x39 then (if s.ltu.st = .busy then ltuGo (ltuEnd { s with ltu := { s.ltu with st := .idle, op := none, input := [], rnd := none } } 2 []) else s)
  else if m = 0x3A then (match s.liu.running with | some c => liuFault s c | none => s)
  else s

/-! ### Accesses -/

/-- A DRAM address (R292): each package is one region of 4 GiB. -/
def inDram (a : Nat) : Bool := decide (a < 0x200000000)

/-- What lies in DRAM for a byte at an address, and what a read gives for what lies there: encryption and decryption under the keys of its controller
(R19, R293). -/
def xts (s : State) (a : Nat) (v : Byte) : Byte := v ^^^ Config.xtsPad (getDram s (a / 0x100000000)).key a

/-- One byte written through the fabric: into a context's words where one lives there (R295), encrypted into DRAM once its controller holds keys
(R293), otherwise into memory. -/
def fabricByte (s : State) (a : Nat) (v : Byte) : State :=
  if inDram a then (if (getDram s (a / 0x100000000)).keyVal then writeByte s a (xts s a v) else s)
  else if inSlices a then
    let off := (a - 0x820000000) % 0x200000
    let i := (a - 0x820000000) / 0x200000 * 16384 + off / 96
    match (if off < 0x180000 then getCtx s i else none) with
    | some c =>
      let w := (c.word (off % 96 / 4 * 4)).toNat
      let sh := 8 * (off % 4)
      setCtx s i (some (c.setWord (off % 96 / 4 * 4) (w32 (w - bits w (sh + 7) sh * 2 ^ sh + v.toNat * 2 ^ sh))))
    | none => writeByte s a v
  else writeByte s a v

/-- A byte read through the fabric: from a context's words where one lives there, decrypted from DRAM under the keys that its controller holds
now, which give what was written under other keys no readable value (R19), otherwise from memory. -/
def fabricRead (s : State) (a : Nat) : Byte :=
  if inDram a then xts s a (readByte s a)
  else if inSlices a then
    let off := (a - 0x820000000) % 0x200000
    match (if off < 0x180000 then getCtx s ((a - 0x820000000) / 0x200000 * 16384 + off / 96) else none) with
    | some c => b8 (bits (c.word (off % 96 / 4 * 4)).toNat (8 * (off % 4) + 7) (8 * (off % 4)))
    | none => readByte s a
  else readByte s a

/-- Bytes written through the fabric at rising addresses. -/
def fabricWrite (s : State) (a : Nat) : List Byte → State
  | [] => s
  | v :: vs => fabricWrite (fabricByte s a v) (a + 1) vs

/-- A fabric access of 1 to 128 bytes inside one 4 KiB block, checked whole (R295, R298). -/
def fabricAccess (s : State) (m a : Nat) (wr : Bool) (len : Nat) (data : List Byte) : State :=
  if len = 0 ∨ 128 < len ∨ a / 4096 ≠ (a + len - 1) / 4096 ∨ 2 ^ 36 ≤ a then s
  else match accessRule s m wr a len with
    | some (x, r) => fwlError (fwlReport s m wr x r) m x
    | none => if wr then fabricWrite s a (data.take len) else s

/-- FABRIC_ACCESS (R298). -/
def execFabricAccess (master : BitVec 8) (addr : Nat) (write : Bool) (len : Nat) (data : List Byte) (s : State) :
    Host.Outcome State Fault Refusal :=
  .next (fabricAccess s master.toNat addr write len data)

/-! ### Commits (R301, R302) -/

/-- Steps 2 and 3 of a commit: every shadow rule becomes active but those locked, the epoch advances, the drain begins. -/
def fwlCommit (s : State) : State :=
  let fixed := s.fwl.active.filter (fun e => fld e.2.ctl 30 30 == 1)
  let active := fixed.foldl (fun m e => smapSet (fun _ => FwlRule.zero) m e.1 e.2) s.fwl.shadow
  { s with fwl := { s.fwl with active := active, epoch := s.fwl.epoch + 1, drain := true, commitDue := false } }

/-- A commit that arrives during a drain waits for its end (R302). -/
def commitEffect (s : State) : State := if s.fwl.drain then { s with fwl := { s.fwl with commitDue := true } } else fwlCommit s

/-- FWL_COMMIT (R301). -/
def execFwlCommit (by_ : Party) (v : Word) (s : State) : Host.Outcome State Fault Refusal := .next (barWrite s by_ 4 0xB1034 v commitEffect)

/-- The end of a drain: COMMITDONE, then a commit that waited, refused where it is refused now (R301, R302). -/
def drainEnd (s : State) : State :=
  if s.fwl.drain then
    let s := setEvt { s with fwl := { s.fwl with drain := false } } 0xB0 3
    if s.fwl.commitDue then (if fwlCommitBad s then { s with fwl := { s.fwl with commitDue := false } } else fwlCommit s) else s
  else s

/-- FWL_DRAIN_END (R301). -/
def execFwlDrainEnd (s : State) : Host.Outcome State Fault Refusal := .next (drainEnd s)

/-- FWL_VPOP (R303). -/
def execFwlVpop (by_ : Party) (v : Word) (s : State) : Host.Outcome State Fault Refusal :=
  .next (barWrite s by_ 4 0xB0034 v (fun s => { s with fwl := { s.fwl with fifo := s.fwl.fifo.drop 1 } }))

/-- A word of FWL page 1 written to the shadow copy of the rule that FWL_RSEL selects; a locked rule, and rules 0 to 63, keep both copies
and LOCKWR is set (R301, R302). -/
def shadowWrite (s : State) (o : Nat) (v : Word) : State :=
  let n := fld (getReg s 0xB1020) 7 0
  if n < 64 ∨ fld (getActive s n).ctl 30 30 = 1 then setEvt s 0xB0 2
  else
    let r := getShadow s n
    let r := if o = 0x24 then { r with base := v } else if o = 0x28 then { r with lim := v } else if o = 0x2C then { r with mast := v } else { r with ctl := v }
    { s with fwl := { s.fwl with shadow := smapSet (fun _ => FwlRule.zero) s.fwl.shadow n r } }

/-- FWL_STATE and FWL_RULECRC (R303). -/
def fwlStateWord (s : State) : Word :=
  pack [(bnat s.fwl.drain, 31), ((if fwlBooted s then Config.bootRuleCount % 65 else 0) + (s.fwl.active.filter (fun e => fld e.2.ctl 31 31 == 1)).length, 0)]

def fwlRuleCrc (s : State) : Word :=
  w32 (crc32c ((List.range 256).flatMap (fun n =>
    let r := getActive s n
    leBytes 4 r.base.toNat ++ leBytes 4 r.lim.toNat ++ leBytes 4 r.mast.toNat ++ leBytes 4 r.ctl.toNat)))

end Sys2Proof.Machine
end

