-- ==== Sys2Proof/Machine/LifeCycle.lean ====
section
/-! DEFINITION. Machine/LifeCycle.lean: the life-cycle commands, debug views and JTAG (R379 to R394). -/
namespace Sys2Proof.Machine

/-- LC_STATUS (R386, R393): GLB_LCSTATE, and a fresh nonce for a manufacturing token. -/
def lcStatus (s : State) : State × MbxRes :=
  let r := MbxRes.ok (lcStateWord s).toNat
  match rngTake s 32 with
  | some (n, s) =>
    let n := n % 2 ^ 256
    ({ s with lc := { s.lc with nonces := s.lc.nonces ++ [n] } }, { r with bytes := beBytes 32 n })
  | none => (s, r)

/-- LC_STATUS (R393): a status command. -/
def execLcStatus (sl : Slot) (s : State) : Host.Outcome State Fault Refusal := .next (mbxRun s sl 0x90 none lcStatus)

/-- The completion of a transition command. -/
def lcAnswer (r : State × Nat) : State × MbxRes := (r.1, if r.2 = 0 then MbxRes.ok else MbxRes.refuse r.2)

/-- LC_FIELD (R385): SEALED to FIELD, by the manager with CEREMONY energised. -/
def lcField (s : State) (otp : OtpOutcome) : State × MbxRes :=
  let miss := 2 * bnat s.tamper.officers.isEmpty + 4 * bnat (!s.lc.cert) + 16 * bnat (!s.lc.identity)
  if s.lc.st ≠ .sealed then (s, MbxRes.refuse 0x02)
  else if s.lc.running then (s, MbxRes.refuse 0x05)
  else if ceremonyInput s = false then (s, MbxRes.refuse 0x04)
  else if miss ≠ 0 then (s, MbxRes.refuse 0x03 miss)
  else lcAnswer (lcTransition s 3 otp)

/-- LC_FIELD (R385). -/
def execLcField (sl : Slot) (otp : OtpOutcome) (s : State) : Host.Outcome State Fault Refusal :=
  .next (mbxRun s sl 0x91 (some 0x02) (fun s => lcField s otp))

/-- DEBUG_LOCK (R392, R393). -/
def execDebugLock (sl : Slot) (s : State) : Host.Outcome State Fault Refusal :=
  .next (mbxRun s sl 0x94 (some 0x02) (fun s => if s.lc.st ≠ .field then (s, MbxRes.refuse 0x02) else (debugClose s, MbxRes.ok)))

/-- DEBUG_EXPIRY (R392): DURATION is up. -/
def execDebugExpiry (s : State) : Host.Outcome State Fault Refusal := .next (debugClose s)

/-- LC_COMPLETE (R389): the groups of the interrupted transition are programmed to their end. -/
def lcComplete (s : State) (otp : OtpOutcome) : State × MbxRes :=
  let k := lcFirst s.lc.lcw 5 1
  if s.lc.st ≠ .repair then (s, MbxRes.refuse 0x02)
  else if s.lc.running then (s, MbxRes.refuse 0x05)
  else if ceremonyInput s = false then (s, MbxRes.refuse 0x04)
  else if (s.lc.target = 2 ∨ s.lc.target = 5) ∧ firnZeroised s = false then (s, MbxRes.refuse 0x03 1)
  else lcAnswer (lcTransition s k otp)

/-- LC_COMPLETE (R389). -/
def execLcComplete (sl : Slot) (otp : OtpOutcome) (s : State) : Host.Outcome State Fault Refusal :=
  .next (mbxRun s sl 0x95 (some 0x02) (fun s => lcComplete s otp))

/-- LC_ZEROISE (R388): the erasure and the actions of a tamper event, with a record of its own. -/
def lcZeroise (s : State) : State × MbxRes :=
  if s.lc.st ≠ .sealed ∧ s.lc.st ≠ .field then (s, MbxRes.refuse 0x02)
  else (record (zeroise s) 0x0704 0x1 0 [], MbxRes.ok)

/-- LC_ZEROISE (R388). -/
def execLcZeroise (sl : Slot) (s : State) : Host.Outcome State Fault Refusal := .next (mbxRun s sl 0x96 (some 0x02) lcZeroise)

/-- The transition that LC_MFG makes in a state, to its target (R385); none in a state that has no such transition. -/
def mfgTransition (st : Lc) : Option (Nat × Nat) :=
  match st with | .blank => some (1, 2) | .factoryTest => some (2, 3) | .ret => some (5, 6) | _ => none

/-- A manufacturing token holds (R386). -/
def mfgTokenOk (s : State) (t : List Byte) (target : Nat) : Bool :=
  t.length == 4771 && beAt t 0 4 == 0x4B584443 && beAt t 4 2 == 1 && beAt t 6 1 == 0xFF && beAt t 7 1 == 0 && beAt t 0x2D 3 == 0
    && beAt t 8 32 == Config.sha3 Config.dieId / 2 ^ 256 && beAt t 0x2C 1 == 0x97 && s.lc.nonces.contains (beAt t 0x30 32)
    && beAt t 0x50 64 == Config.sha3 [b8 target] && Config.mldsaVerify Config.mfgKey (Config.sha3 (t.take 0x90)) (ofBe (t.drop 0x90))

/-- What a manufacturing transition lacks: Firn zeroised, the OTP words, no memory test mode opened: bits 0, 3 and 5 of RESULT (R382, R385, R393). -/
def mfgMissing (s : State) (k : Nat) : Nat :=
  match k with
  | 1 => bnat (!firnZeroised s) + 8 * bnat (!(s.lc.dieId && s.lc.mfgKeyHash))
  | 2 => 8 * bnat (!(s.lc.rootKey && (s.lc.fwKeyHash.getD 0 none).isSome && decide (1 ≤ s.lc.svnMin))) + 32 * bnat s.lc.testOpened
  | _ => 0

/-- LC_MFG (R385, R386): each nonce is used once. -/
def lcMfg (s : State) (t : List Byte) (target : Nat) (otp : OtpOutcome) : State × MbxRes :=
  match mfgTransition s.lc.st with
  | none => (s, MbxRes.refuse 0x02)
  | some (k, goal) =>
    if target ≠ goal then (s, MbxRes.refuse 0x02)
    else if s.lc.running then (s, MbxRes.refuse 0x05)
    else if mfgTokenOk s t target = false then (s, MbxRes.refuse 0x06)
    else
      let s := { s with lc := { s.lc with nonces := s.lc.nonces.filter (· != beAt t 0x30 32) } }
      if mfgMissing s k ≠ 0 then (s, MbxRes.refuse 0x03 (mfgMissing s k))
      else lcAnswer (lcTransition s k otp)

/-- LC_MFG (R386). -/
def execLcMfg (sl : Slot) (token : List Byte) (target : Nat) (otp : OtpOutcome) (s : State) : Host.Outcome State Fault Refusal :=
  .next (mbxRun s sl 0x97 (some 0x02) (fun s => lcMfg s token target otp))

/-- CERT_STORE (R387): once, in SEALED. -/
def execCertStore (sl : Slot) (chain : List Byte) (s : State) : Host.Outcome State Fault Refusal :=
  .next (mbxRun s sl 0x98 (some 0x02) (fun s =>
    if s.lc.st ≠ .sealed ∨ s.lc.cert = true then (s, MbxRes.refuse 0x02)
    else ({ s with lc := { s.lc with cert := true, certChain := chain } }, MbxRes.ok)))

/-- TRANSITION_RESET (R385): the new state applies from the boot that follows. -/
def execTransitionReset (s : State) : Host.Outcome State Fault Refusal := .next (if s.lc.resetDue then moduleReset s else s)

/-- The memory test modes are reachable (R380). -/
def testReachable (st : Lc) : Bool := st == .blank || st == .factoryTest || st == .ret

/-- Opening a memory test mode (R380): in RETURN the identity key and the secrets of the control cluster go first. -/
def openTest (s : State) : State :=
  let s := if s.lc.st = .ret then
      { s with
        lc := { s.lc with idKey := none }, firn := { s.firn with comps := [], portResult := none }
        tamper := { s.tamper with cerNonce := 0, cerBlock := [] }, pair := { s.pair with linkKey := 0, authDone := false } }
    else s
  { s with lc := { s.lc with testMode := true, testOpened := true } }

/-- A bobbin of a DRAINED pillow is halted through the open view HALT, or in a state whose views need no token (R379, R391). -/
def haltBobbin (s : State) (b : Nat) : State :=
  if (bit s.lc.views 1 || testReachable s.lc.st) && (getPil s (b / 32)).st == .drained then
    { s with lc := { s.lc with halted := s.lc.halted.filter (· != b) ++ [b] } }
  else s

/-- JTAG_ACCESS (R380, R384, R391): IDCODE, BYPASS and boundary scan, and a read through an open view, change nothing. -/
def execJtagAccess (op : JtagOp) (s : State) : Host.Outcome State Fault Refusal :=
  .next (match op with
    | .idcode => s
    | .bypass => s
    | .boundaryScan => s
    | .memoryTest => if testReachable s.lc.st then openTest s else s
    | .view _ => s
    | .halt b => haltBobbin s b)

end Sys2Proof.Machine
end

