-- ==== Sys2Proof/Machine/Moraine.lean ====
section
/-! DEFINITION. Machine/Moraine.lean: the Moraine commands, archiving and the read window (R407 to R416), and CAPTURE_READ (R470). -/
namespace Sys2Proof.Machine

/-! ### Offers, buckets and the archive -/

/-- MORAINE_OFFER (R410): a block offers a record of a code that R417 lists, with its SOURCE. -/
def offer (s : State) (code source : Nat) (payload : List Nat) : State :=
  match codeSev code with
  | none => s
  | some sev =>
    let s := if s.mor.fresh then logBoot s else s
    morHandle (morSync s) code (source % 2 ^ 16) sev payload

/-- MORAINE_OFFER (R410). -/
def execMoraineOffer (code source : Nat) (payload : List Nat) (s : State) : Host.Outcome State Fault Refusal :=
  .next (offer s code source payload)

/-- TOKEN_REFILL (R411): one token, up to the burst. -/
def execTokenRefill (code : Nat) (s : State) : Host.Outcome State Fault Refusal :=
  .next (
    let b := getBucket s code
    if b.rate = 0 then s else setBucket s code { b with tokens := min b.burst (b.tokens + 1) })

/-- The record that is archived next: the oldest closed one that is not archived (R412, R413). -/
def nextArchive (s : State) : Option MorRec := s.mor.ring.find? (fun r => !r.archived && !r.isOpen)

/-- The archive with a record added: a full NAND ring first loses its oldest segment of 4,096 records (R413). -/
def archiveAdd (m : MorSt) (r : MorRec) : MorSt :=
  let a := (if 2097152 ≤ m.archive.length then m.archive.drop 4096 else m.archive) ++ [{ r with archived := true, isOpen := false }]
  { m with
    archive := a, archTail := match a with | x :: _ => x.seq | [] => 0
    ring := m.ring.map (fun x => if x.seq = r.seq then { x with archived := true } else x) }

/-- ARCHIVE_RECORD (R413): a NAND failure stops archiving with ARCHERR and LOG_ARCHIVE_FAULT. -/
def archiveRecord (s : State) (nandOk : Bool) (nandStatus : Nat) : State :=
  if s.mor.archErr then s
  else match nextArchive s with
    | none => s
    | some r =>
      if nandOk then { s with mor := archiveAdd s.mor r }
      else record (setEvt { s with mor := { s.mor with archErr := true } } 0x100 3) 0x0003 0xF 0 [nandStatus]

/-- ARCHIVE_RECORD (R413). -/
def execArchiveRecord (nandOk : Bool) (nandStatus : Nat) (s : State) : Host.Outcome State Fault Refusal :=
  .next (archiveRecord s nandOk nandStatus)

/-! ### The read window (R414) -/

/-- The words of a byte list. -/
def wordsOf (n : Nat) (b : List Byte) : List Word := (List.range n).map (fun i => w32 (ofLe (slice b (4 * i) 4)))

/-- The record of a SEQ latched with its state (R414). -/
def latchRecord (s : State) (q : Nat) : State :=
  match s.mor.ring.find? (fun r => r.seq == q) with
  | some r =>
    { s with mor := { s.mor with rstat := pack [(1, 31), (bnat r.isOpen, 30), (bnat r.archived, 29)], rrec := wordsOf 16 r.bytes } }
  | none => { s with mor := { s.mor with rstat := 0, rrec := [] } }

/-- MOR_RSEQ (R414). -/
def execMorRseq (by_ : Party) (v : Word) (s : State) : Host.Outcome State Fault Refusal :=
  .next (barWrite s by_ 4 0x101020 v (fun s => latchRecord (storeReg s 0x101020 v) v.toNat))

/-- MOR_STATE, MOR_TAIL and MOR_ARCHHEAD (R416). -/
def morStateWord (s : State) : Word :=
  let n := s.mor.unarchived
  pack [(morMode s, 30), (bnat (!s.mor.archErr), 29), (bnat (decide (4096 ≤ n)), 28), (n, 0)]
def morTail (s : State) : Word := match s.mor.ring with | r :: _ => w32 r.seq | [] => 0

/-! ### Commands (R415) -/

/-- Records of the archive and the ring, in ascending order, each once. -/
def allRecords (s : State) : List MorRec :=
  s.mor.archive ++ s.mor.ring.filter (fun r => !s.mor.archive.any (fun a => a.seq == r.seq && a.boot == r.boot))

/-- SEQ q lies in a range of n values from its first (R415). -/
def inRange (first n q : Nat) : Bool := decide ((q + 2 ^ 32 - first % 2 ^ 32) % 2 ^ 32 < n)

/-- The closed records of a range. -/
def rangeRecords (s : State) (first n : Nat) : List MorRec := (allRecords s).filter (fun r => inRange first n r.seq && !r.isOpen)

/-- The range touches records that only the archive holds. -/
def needsNand (s : State) (first n : Nat) : Bool :=
  s.mor.archive.any (fun a => inRange first n a.seq && !s.mor.ring.any (fun r => r.seq == a.seq))

/-- The values in a range from first to last (R415). -/
def rangeLen (first last : Nat) : Nat := (last + 2 ^ 32 - first % 2 ^ 32) % 2 ^ 32 + 1

/-- LOG_READ (R415). -/
def logRead (s : State) (sl : Slot) (first count : Nat) (nandOk : Bool) : State × MbxRes :=
  if count = 0 ∨ 65536 < count ∨ 2 ^ 32 ≤ first then (s, MbxRes.refuse 0x01)
  else if needsNand s first count && !nandOk then (s, MbxRes.refuse 0x04)
  else
    let l := (rangeRecords s first count).take (sl.rlen / 64)
    (s, MbxRes.ok l.length (l.flatMap MorRec.bytes))

/-- LOG_READ (R415). -/
def execLogRead (sl : Slot) (first count : Nat) (nandOk : Bool) (s : State) : Host.Outcome State Fault Refusal :=
  .next (mbxRun s sl 0xA0 none (fun s => logRead s sl first count nandOk))

/-- The first record of a list whose CHAIN does not follow from its predecessor, record SEQ − 1 of its boot (R408, R415). -/
def firstBroken (s : State) (all : List MorRec) : List MorRec → Option MorRec
  | [] => none
  | r :: rest =>
    match all.find? (fun p => (p.seq + 1) % 2 ^ 32 == r.seq && p.boot == r.boot) with
    | some p => if chainOf s (some p) = r.chain then firstBroken s all rest else some r
    | none => firstBroken s all rest

/-- LOG_CHECK (R415). -/
def logCheck (s : State) (first last : Nat) (nandOk : Bool) : State × MbxRes :=
  let n := rangeLen first last
  if 2101248 < n ∨ 2 ^ 32 ≤ first ∨ 2 ^ 32 ≤ last then (s, MbxRes.refuse 0x01)
  else if needsNand s first n && !nandOk then (s, MbxRes.refuse 0x04)
  else
    let all := allRecords s
    (s, MbxRes.ok (match firstBroken s all (all.filter (fun r => inRange first n r.seq)) with | some r => r.seq | none => 0xFFFFFFFF))

/-- LOG_CHECK (R415). -/
def execLogCheck (sl : Slot) (first last : Nat) (nandOk : Bool) (s : State) : Host.Outcome State Fault Refusal :=
  .next (mbxRun s sl 0xA1 none (fun s => logCheck s first last nandOk))

/-- The bytes of the statement of LOG_SEAL before its signature. -/
def sealBody (s : State) (first last : Nat) (l : List MorRec) : List Byte :=
  beBytes 4 0x4B584D53 ++ beBytes 2 1 ++ beBytes 2 0 ++ beBytes 32 (deviceFpr s) ++ beBytes 4 first ++ beBytes 4 last ++ beBytes 4 l.length
    ++ beBytes 64 (Config.sha3 (l.flatMap MorRec.bytes))

/-- The identity key can sign: it is held, and the LTU is neither ABORTED nor in FAULT. DESIGN CHOICE (log entry 155): the statuses of R415 have
no other one for an LTU that cannot sign. -/
def canSeal (s : State) : Bool := s.lc.identity && ltuBar s == 0

/-- LOG_SEAL with the rnd of its signature (R187, R189, R415). -/
def sealSign (s : State) (first last : Nat) (nandOk : Bool) (rnd : Nat) : State × MbxRes :=
  let n := rangeLen first last
  if canSeal s = false then (s, MbxRes.refuse 0x03)
  else if needsNand s first n && !nandOk then (s, MbxRes.refuse 0x04)
  else
    let body := sealBody s first last (rangeRecords s first n)
    match ltuSign s rnd with
    | (s, some r) => (s, MbxRes.ok 0 (body ++ identitySign s (Config.sha3 body) r))
    | (s, none) => (s, MbxRes.refuse 0x02)

/-- LOG_SEAL (R415). -/
def logSeal (s : State) (sl : Slot) (first last : Nat) (nandOk : Bool) : State × MbxRes :=
  let n := rangeLen first last
  if 2101248 < n ∨ 2 ^ 32 ≤ first ∨ 2 ^ 32 ≤ last then (s, MbxRes.refuse 0x01)
  else if canSeal s = false then (s, MbxRes.refuse 0x03)
  else if needsNand s first n && !nandOk then (s, MbxRes.refuse 0x04)
  else match rngAsk s 32 (.logSeal sl first last nandOk) with
    | .now rnd s => sealSign s first last nandOk rnd
    | .later s => (s, MbxRes.later)
    | .refused => (s, MbxRes.refuse 0x02)

/-- LOG_SEAL (R415). -/
def execLogSeal (sl : Slot) (first last : Nat) (nandOk : Bool) (s : State) : Host.Outcome State Fault Refusal :=
  .next (mbxRun s sl 0xA2 none (fun s => logSeal s sl first last nandOk))

/-- LOG_LIMIT (R415): the bucket changes at completion, once durable. -/
def logLimit (s : State) (code rate burst : Nat) : State × MbxRes :=
  match codeSev code with
  | none => (s, MbxRes.refuse 0x01)
  | some sev =>
    if 6 ≤ sev ∨ 1000 < rate ∨ burst = 0 ∨ 1024 < burst then (s, MbxRes.refuse 0x01)
    else (s, MbxRes.durable [.logLimit code ⟨burst, rate, burst, 0⟩])

/-- LOG_LIMIT (R415). -/
def execLogLimit (sl : Slot) (code rate burst : Nat) (s : State) : Host.Outcome State Fault Refusal :=
  .next (mbxRun s sl 0xA3 none (fun s => logLimit s code rate burst))

/-! ### CAPTURE_READ (R470) -/

/-- The captures that fit in n bytes, from the first. -/
def fitting : List Capture → Nat → List Capture
  | [], _ => []
  | c :: cs, n => if c.bytes.length ≤ n then c :: fitting cs (n - c.bytes.length) else []

/-- CAPTURE_READ (R470): the complete captures of the range, in ascending CSEQ order. -/
def captureRead (s : State) (sl : Slot) (p first count : Nat) : State × MbxRes :=
  let x := getCapt s p
  let l := x.slots.filter (fun c => c.complete s && decide (first ≤ c.cseq) && decide (c.cseq < first + count))
  if 16 ≤ p ∨ count = 0 ∨ 64 < count then (s, MbxRes.refuse 0x01)
  else if l.isEmpty then (s, MbxRes.refuse 0x02)
  else
    let w := fitting l sl.rlen
    if w.isEmpty then (s, MbxRes.refuse 0x01)
    else (s, MbxRes.ok (w.length + 2 ^ 16 * min x.lost 0xFFFF) (w.flatMap (fun c => c.bytes)))

/-- CAPTURE_READ (R470). -/
def execCaptureRead (sl : Slot) (pillow first count : Nat) (s : State) : Host.Outcome State Fault Refusal :=
  .next (mbxRun s sl 0xB0 none (fun s => captureRead s sl pillow first count))

end Sys2Proof.Machine
end

