-- ==== Sys2Proof/Machine/Pool.lean ====
section
/-! DEFINITION. Machine/Pool.lean: errors of the drift pool and of DRAM, and the queue snapshot (R284 to R291, R294). -/
namespace Sys2Proof.Machine

/-- An uncorrectable error in cell data ends the frame with ENGINE_FAULT (R288). -/
def cellEcc (s : State) (h : Nat) : State :=
  match getFrame s h with
  | some _ => endUnder (setEvt (incReg s 0xA003C) 0xA0 3) h 0xA0
  | none => s

/-- CELL_DATA_ECC (R288). -/
def execCellDataEcc (handle : Nat) (s : State) : Host.Outcome State Fault Refusal := .next (cellEcc s handle)

/-- A frame whose delivery has begun and whose head word is not written. -/
def FrameRec.begun (f : FrameRec) : Bool := match f.delivery with | some d => !d.head | none => false

/-- A frame whose delivery has begun gets its head word with ENGINE_FAULT when the pool restarts (R288). -/
def restartDeliver (s : State) (h : Nat) : State :=
  match getFrame s h with
  | some f =>
    let s := if f.stage == .verdict then setFrame s h (some { f with verdict := 0xA0, pflags := 0, egress := 0, consumers := 1 })
      else endUnder s h 0xA0
    finishDelivery s h
  | none => s

/-- Any other frame is discarded when the pool restarts, counted in its context's CTX_FAIL (R288); its descriptor completes with
ENGINE_FAULT. -/
def restartDrop (s : State) (h : Nat) : State :=
  match getFrame s h with
  | some f =>
    let s := match f.ctx with | some i => modCtx s i Ctx.failFrame | none => s
    let s := if f.txDone then s else txComplete s f.src 0 0 (f.ctx.getD 3) 0xA0 1
    withdrawFrame s h
  | none => s

/-- The pool restarts on an error in both copies of a link word (R288, R351). -/
def poolRestart (s : State) : State :=
  let s := doubleFault s 4 0xFFFF
  let s := { s with ports := s.ports.map (fun (e : Nat × PortSt) => (e.1, { e.2 with q1 := [], q2 := [], q3 := [], tx := none, txFrame := none })) }
  let fs := (frameList s).filter (fun e => e.2.stage != .done)
  let begun := (fs.filter (fun e => e.2.begun)).map (·.1)
  let others := (fs.filter (fun e => !e.2.begun)).map (·.1)
  let s := begun.foldl restartDeliver s
  let s := others.foldl restartDrop s
  let s := { s with pool := { s.pool with restarting := true, under := [] } }
  record s 0x0420 0x9 0 [begun.length, others.length]

/-- LINK_WORD_ECC (R288): one copy is repaired from the other, both restart the pool. -/
def execLinkWordEcc (both : Bool) (s : State) : Host.Outcome State Fault Refusal :=
  .next (if both then poolRestart s else setEvt (incReg s 0xA0040) 0xA0 5)

/-- POOL_RESTART_DONE (R288). -/
def execPoolRestartDone (s : State) : Host.Outcome State Fault Refusal :=
  .next (if s.pool.restarting then
      morSync { setEvt (incReg s 0xA0044) 0xA0 6 with pool := { (setEvt (incReg s 0xA0044) 0xA0 6).pool with restarting := false } }
    else s)

/-- A controller in FAULT: the module enters the start-up hold (R294, R425). -/
def dramFault (s : State) (n : Nat) : State := enterHold (setDramState s n .fault) 2

/-- DRAM_ECC_ERROR (R294): repeated errors in one burst put the controller into FAULT. -/
def execDramEccError (ctrl : Fin 2) (repeated : Bool) (s : State) : Host.Outcome State Fault Refusal :=
  .next (
    let s := setEvt (incReg s 0xA1034) 0xA0 7
    if repeated && (getDram s ctrl).st != .off then dramFault s ctrl else s)

/-- DRAM_TRAINING_DONE (R294). -/
def execDramTrainingDone (ctrl : Fin 2) (ok : Bool) (s : State) : Host.Outcome State Fault Refusal :=
  .next (if (getDram s ctrl).st = .training then (if ok then setDramState s ctrl .service else dramFault s ctrl) else s)

/-! ### Queue snapshot (R284, R290) -/

/-- Frames whose delivery to a slice waits. -/
def deliveryQueue (s : State) (i : Nat) : List (Nat × FrameRec) :=
  (frameList s).filter (fun e => e.2.deliveryDue && (match e.2.ctx.bind (getCtx s) with | some c => c.slice == i | none => false))

/-- The descriptors of a manager ring whose frames are being read. -/
def managerQueue (s : State) (ring : Nat) : List TxDesc := (s.hostIf.mfetched.filter (fun e => e.1 == ring)).map (·.2)

/-- The frames and cells on a queue (R284). DESIGN CHOICE (log entry 153): of the queues 0x3C to 0x3F, in the order of the table's words,
0x3D is management transmit and 0x3F raw transmit; frames from the management port, frames for the exception rings and the control
cluster's frames leave their queue with the command that brings them, so those queues hold none. -/
def queueOf (s : State) (q : Nat) : Nat × Nat :=
  let sum := fun (l : List (Nat × FrameRec)) => (l.length, l.foldl (fun a e => a + e.2.cells) 0)
  if q < 0x20 then sum (inputQueue s (q / 2) false (q % 2 == 1))
  else if q < 0x30 then sum (inputQueue s (q - 0x20) true false)
  else if q < 0x3C then
    let p := getPort s ((q - 0x30) / 3)
    let hs := match (q - 0x30) % 3 with | 0 => p.q1 | 1 => p.q2 | _ => p.q3
    sum (hs.filterMap (fun h => (getFrame s h).map (fun f => (h, f))))
  else if q = 0x3D ∨ q = 0x3F then
    let d := managerQueue s (if q = 0x3D then 2 else 3)
    (d.length, d.foldl (fun a x => a + cellsFor (x.len + 4)) 0)
  else if 0x400 ≤ q ∧ q < 0x800 then sum (deliveryQueue s (q - 0x400))
  else if 0x800 ≤ q ∧ q < 0xC00 then
    let d := (getSlice s (q - 0x800)).fetched
    (d.length, d.foldl (fun a x => a + cellsFor (x.len + 4)) 0)
  else (0, 0)

/-- A write to DRF_QSEL latches the queue's state (R290). -/
def qselEffect (v : Word) (s : State) : State :=
  let q := fld v 12 0
  let (n, cells) := queueOf s q
  { storeReg s 0xA1020 v with pool := { s.pool with qstat := pack [(bnat (n == 0), 31), (bnat (s.pool.under.contains q), 30), (n, 0)], qcells := w32 cells } }

/-- DRF_QSEL (R290). -/
def execDrfQsel (by_ : Party) (v : Word) (s : State) : Host.Outcome State Fault Refusal := .next (barWrite s by_ 4 0xA1020 v (qselEffect v))

end Sys2Proof.Machine
end

