-- ==== Sys2Proof/Machine/CcOps.lean ====
section
/-! DEFINITION. Machine/CcOps.lean: the firmware services that waited for bytes of Flurry go on, or end with status RNG (R190, R398, R399). -/
namespace Sys2Proof.Machine

/-- A service goes on with the bytes it asked for; none of them ends it with the status RNG of its family. -/
def ccGo (s : State) : CcNeed → Option Nat → State
  | .ltuSign, v => ltuGiven s v
  | .attest sl nonce, v =>
    let r := match v with | some rnd => attestSign s nonce rnd | none => (s, MbxRes.refuse 0x02)
    mbxFinish r.1 sl 0x51 r.2
  | .kemGenerate sl seed, v =>
    let r := match v with | some n => kemGiven s sl seed n | none => (s, MbxRes.refuse 0x13)
    mbxFinish r.1 sl 0x46 r.2
  | .logSeal sl first last nandOk, v =>
    let r := match v with | some rnd => sealSign s first last nandOk rnd | none => (s, MbxRes.refuse 0x02)
    mbxFinish r.1 sl 0xA2 r.2
  | .ceremonyOpen sl inner id block, v =>
    let r := match v with | some n => ceremonyGiven s inner id block n | none => (s, MbxRes.refuse 0x0D)
    mbxFinish r.1 sl 0x80 r.2
  | .gdoi sl m, v =>
    let r := match v with | some n => gdoiGo s m n | none => (s, MbxRes.refuse 0x13)
    mbxFinish r.1 sl 0x4A r.2

/-- Every service whose request has ended goes on. -/
def ccSettle (s : State) : State := s.rng.given.foldl (fun s e => ccGo s e.1 e.2) { s with rng := { s.rng with given := [] } }

/-- The state t after a register write to s: every service whose request the write has ended goes on. -/
def ccAfter (s t : State) : State := if t.rng = s.rng then t else ccSettle t

end Sys2Proof.Machine
end

