-- ==== Sys2Proof/Machine/Rng.lean ====
section
/-! DEFINITION. Machine/Rng.lean: the commands and events of Flurry (R395 to R406). -/
namespace Sys2Proof.Machine

/-! ### Health tests (R395) -/

/-- The repetition-count test over a block that follows a run: the last bit, the run that it ends, and whether a run reached 41. -/
def repetition (last : Bool) (run : Nat) : List Bool → Bool × Nat × Bool
  | [] => (last, run, false)
  | b :: bs =>
    let run' := if b = last then run + 1 else 1
    let r := repetition b run' bs
    (r.1, r.2.1, r.2.2 || decide (41 ≤ run'))

/-- The adaptive-proportion test: the first bit occurs 795 times or more in the window (log entry 25). -/
def adaptiveFails (block : List Bool) : Bool :=
  match block with
  | b :: _ => decide (795 ≤ (block.filter (fun x => x == b)).length)
  | [] => false

def getSource (s : State) (i : Nat) : RngSource := s.rng.sources.getD i ⟨false, false, 0, 0, false, 0⟩

def setSource (s : State) (i : Nat) (x : RngSource) : State := { s with rng := { s.rng with sources := setAt s.rng.sources i x } }

/-- A failing block (R400 to R402): counted, its source restarts, READY becomes RESTARTING with the conditioner cleared, and four in a
row of one source or sixteen within an hour make Flurry FATAL. In TEST no transition follows. -/
def blockFails (s : State) (i : Nat) (x : RngSource) (test : Nat) : State :=
  let n := x.consec + 1
  let s := setSource s i { x with restarting := true, consec := if n < 4 then n else 3, passes := 0, run := 0 }
  let s := { s with rng := { s.rng with lastFail := some (i, test), failTimes := (s.boot.now :: s.rng.failTimes).take 16 } }
  let s := setEvt (incReg s 0xF0028) 0xF0 0
  let hour := decide (16 ≤ rngHourFail s)
  match s.rng.st with
  | .test | .fatal => s
  | .starting | .ready | .restarting =>
    if n = 4 || hour then rngFatal s
    else
      let s := { s with rng := { s.rng with outputs := if s.rng.st = .starting then s.rng.outputs else 0 } }
      if s.rng.st = .ready then setRng s .restarting else s

/-- RNG_BLOCK (R395, R396): a block of 1,024 bits of a running source. -/
def rngBlock (s : State) (i : Nat) (block : List Bool) : State :=
  let x := getSource s i
  if x.restarting ∨ x.withdrawn ∨ s.rng.st = .fatal ∨ block.length ≠ 1024 ∨ s.boot.inReset then s
  else
    let r := repetition x.lastBit x.run block
    let rep := r.2.2
    let ada := adaptiveFails block
    if rep || ada then blockFails s i { x with lastBit := r.1 } (bnat rep + 2 * bnat ada)
    else
      let s := setSource s i { x with lastBit := r.1, run := r.2.1, consec := 0, passes := min 4 (x.passes + 1) }
      rngReturn { s with rng := { s.rng with outputs := s.rng.outputs + 1 } }

/-- RNG_BLOCK (R395). -/
def execRngBlock (src : Fin 8) (block : List Bool) (s : State) : Host.Outcome State Fault Refusal :=
  .next (ccSettle (rngBlock s src block))

/-- RNG_SOURCE_RESTARTED (R402): a failed source samples again. -/
def execRngSourceRestarted (src : Fin 8) (s : State) : Host.Outcome State Fault Refusal :=
  .next (if s.rng.st = .fatal then s else rngReturn (setSource s src { getSource s src with restarting := false, run := 0 }))

/-- RNG_GENERATE (R397): the DRBG is instantiated from three outputs, or reseeded from two before a call of 512 bytes; nothing in
RESTARTING, FATAL and TEST. -/
def rngGenerate (s : State) : State :=
  let r := s.rng
  if r.st = .starting ∨ r.st = .ready then
    if !r.inst then
      if r.katOk && decide (3 ≤ r.outputs) then { s with rng := { r with inst := true, outputs := r.outputs - 3 } } else s
    else if r.qfill ≤ 3584 ∧ 2 ≤ r.outputs then
      rngServeAll (incReg { s with rng := { r with outputs := r.outputs - 2, qfill := r.qfill + 512 } } 0xF0034)
    else s
  else s

/-- RNG_GENERATE (R397). -/
def execRngGenerate (s : State) : Host.Outcome State Fault Refusal := .next (ccSettle (rngGenerate s))

/-- RNG_READY (R400, R401): the start-up conditions are met and 3.0 ms have passed. -/
def execRngReady (s : State) : Host.Outcome State Fault Refusal :=
  let r := s.rng
  .next (if r.st = .starting ∧ r.katOk = true ∧ r.inst = true ∧ r.qfill = 4096 ∧ r.sources.all (fun x => decide (4 ≤ x.passes)) = true then
      setRng s .ready
    else s)

/-- RNG_REQUEST (R398): 4 to 64 bytes in steps of 4. -/
def execRngRequest (port : Fin 5) (bytes : Nat) (s : State) : Host.Outcome State Fault Refusal :=
  .next (if 4 ≤ bytes ∧ bytes ≤ 64 ∧ bytes % 4 = 0 then rngRequest s port bytes else s)

/-- RNG_REQUEST_TIMEOUT (R399): 1 ms has passed for the oldest waiting request of a port. -/
def rngTimeout (s : State) (port : Nat) : State :=
  match takeFirst (fun r => r.port == port) s.rng.waiting with
  | some (r, rest) =>
    let ended := r.need.toList.map (fun d => (d, (none : Option Nat)))
    rngServeAll (setEvt (incReg { s with rng := { s.rng with waiting := rest, given := s.rng.given ++ ended } } 0xF0038) 0xF0 2)
  | none => s

/-- RNG_REQUEST_TIMEOUT (R399). -/
def execRngRequestTimeout (port : Fin 5) (s : State) : Host.Outcome State Fault Refusal :=
  .next (ccSettle (rngTimeout s port))

/-- DRAM_KEY_RETRY (R399): a DRAM controller told NOT_READY repeats its request. -/
def execDramKeyRetry (ctrl : Fin 2) (s : State) : Host.Outcome State Fault Refusal :=
  .next (if bit s.rng.dramRetry ctrl then
      rngRequest { s with rng := { s.rng with dramRetry := maskSet s.rng.dramRetry ctrl false } } ctrl 64
    else s)

/-! ### Test-pattern substitution (R405) -/

/-- Entry to TEST: the DRBG and the queue are zeroed, and waiting requests end NOT_READY. -/
def rngEnterTest (s : State) (mode src : Nat) : State :=
  let waitingDram := s.rng.waiting.foldl (fun a r => if r.port < 2 then Nat.lor a (2 ^ r.port) else a) s.rng.dramRetry
  let s := { s with rng := { s.rng with
    qfill := 0, inst := false, outputs := 0, waiting := [], dramRetry := waitingDram, rawPos := 0, rawWord := 0
    given := s.rng.given ++ s.rng.waiting.filterMap (fun r => r.need.map (fun d => (d, none)))
    sources := (s.rng.sources.zip (List.range 8)).map (fun e => { e.1 with withdrawn := mode == 1 && e.2 == src }) } }
  setRng s .test

/-- TEST left: start-up begins again (R400). -/
def rngLeaveTest (s : State) : State :=
  let s := { s with rng := { s.rng with
    startAt := s.boot.now, inst := false, outputs := 0, qfill := 0, rawPos := 0, rawWord := 0
    sources := s.rng.sources.map (fun x => { x with withdrawn := false, passes := 0 }) } }
  setRng s .starting

/-- What RNG_TEST.MODE does as it takes effect (R400). -/
def rngMode (s : State) (mode src : Nat) : State :=
  if s.rng.st = .fatal then s
  else if mode ≠ 0 then rngEnterTest s mode src
  else if s.rng.st = .test then rngLeaveTest s
  else s

/-- The effect of a write to RNG_TEST; in the RNG safe state MODE is treated as off (R406). -/
def rngTestEffect (v : Word) (s : State) : State :=
  rngMode (storeReg s 0xF003C v) (if pageSafe s 0xF0 then 0 else fld v 5 4) (fld v 2 0)

/-- RNG_TEST_RAW (R405): RNG_TEST written with MODE RAW. -/
def execRngTestRaw (by_ : Party) (src : Fin 8) (s : State) : Host.Outcome State Fault Refusal :=
  .next (ccSettle (barWrite s by_ 4 0xF003C (pack [(1, 4), (src, 0)]) (rngTestEffect (pack [(1, 4), (src, 0)]))))

/-- RNG_TEST_PATTERN (R405): RNG_TEST written with MODE PATTERN. -/
def execRngTestPattern (by_ : Party) (s : State) : Host.Outcome State Fault Refusal :=
  .next (ccSettle (barWrite s by_ 4 0xF003C (pack [(2, 4)]) (rngTestEffect (pack [(2, 4)]))))

/-- RNG_TEST_OFF (R400): RNG_TEST written with MODE off. -/
def execRngTestOff (by_ : Party) (s : State) : Host.Outcome State Fault Refusal :=
  .next (ccSettle (barWrite s by_ 4 0xF003C 0 (rngTestEffect 0)))

/-- RNG_RAW_READ (R405): the next 32 raw bits of the source, the next word of the pattern's output, or 0 outside TEST. -/
def execRngRawRead (by_ : Party) (raw : Word) (s : State) : Host.Outcome State Fault Refusal :=
  .next (barRead s by_ 0xF0040 (fun s =>
    let mode := fld (getReg s 0xF003C) 5 4
    let w := if s.rng.st = .test then (if mode = 1 then raw else Config.patternWord s.rng.rawPos) else 0
    { s with rng := { s.rng with rawWord := w, rawPos := if s.rng.st = .test then s.rng.rawPos + 1 else s.rng.rawPos } }))

end Sys2Proof.Machine
end

