-- ==== Sys2Proof/Machine/Station.lean ====
section
/-! DEFINITION. Machine/Station.lean: the commands and events of the station-side interface (R20, R457 to R464). -/
namespace Sys2Proof.Machine

/-- The PTP seconds cross in parts over the frames of each millisecond (R20): the value of its first frame has crossed whole when the next
millisecond begins. -/
def StationSt.seconds (x : StationSt) (now sec : Nat) : StationSt :=
  if now / 1000000 = x.secMs then x else { x with secWhole := x.secNow, secNow := sec, secMs := now / 1000000 }

/-- The oldest event that waits on the station side crosses, one in a frame (R20). -/
def stnCross (s : State) : State :=
  match s.stn.waiting with
  | e :: rest => stnPush { s with stn := { s.stn with waiting := rest } } e.2
  | [] => s

/-- STATION_LINK_FRAME (R20, R459, R462): one frame in each direction. The inputs are current and at most one event crosses; the time, the
output commands and the health word reach the station side. -/
def stationFrame (s : State) (f : StnFrame) : State :=
  if s.pwc.stn = false ∨ s.boot.inReset = true then s
  else
    let s := { s with stn := { s.stn.seconds (ptpNow s) s.ptp.sec with
      linkOk := true, raw := f.raw.toNat, si := s.stn.stSi, sentUs := ptpNow s / 1000 % 2 ^ 32
      health := !s.boot.ccDead && s.boot.phase == Phase.service } }
    let s := { s with stn := { s.stn with
      sentOut := bnat (cryptoOk s) + 2 * bnat (blockClosed s) + 4 * bnat (so2Closed s) + 8 * bnat (so3Closed s) } }
    ceremonySync (stnCross s)

/-- STATION_LINK_FRAME (R20). -/
def execStationLinkFrame (f : StnFrame) (s : State) : Host.Outcome State Fault Refusal := .next (stationFrame s f)

/-- An event that the station side has confirmed, put among those that wait: in ascending input order within one microsecond (R458). -/
def stnWait (us : Nat) (e : StnEvent) : List (Nat × StnEvent) → List (Nat × StnEvent)
  | [] => [(us, e)]
  | q :: qs => if us = q.1 ∧ e.input < q.2.input then (us, e) :: q :: qs else q :: stnWait us e qs

/-- SI_CHANGE (R457, R458): the new level is the debounced state of the station side, and its event, with the time of its first sample in
whole microseconds, waits for a frame (R20). An event during a loss of the link is discarded, and with the domain off nothing is sampled
(R459). -/
def siChange (s : State) (input : Nat) (level : Bool) (time : Nat) : State :=
  if s.pwc.stn = false ∨ bit s.stn.stSi input = level then s
  else
    let e : StnEvent := ⟨level, input, time / 1000 * 1000 % 2 ^ 64⟩
    let wait := if s.stn.linkOk then stnWait (s.boot.now / 1000) e s.stn.waiting else s.stn.waiting
    { s with stn := { s.stn with stSi := maskSet s.stn.stSi input level, waiting := wait } }

/-- SI_CHANGE (R458). -/
def execSiChange (input : Fin 8) (level : Bool) (time : Nat) (s : State) : Host.Outcome State Fault Refusal := .next (siChange s input level time)

/-- STATION_LINK_LOSS (R459). -/
def execStationLinkLoss (s : State) : Host.Outcome State Fault Refusal := .next (stnLinkLost s)

/-- SO_OVERLOAD (R460): the output latches open. -/
def execSoOverload (out : Fin 4) (s : State) : Host.Outcome State Fault Refusal :=
  .next (if s.pwc.stn && !s.boot.inReset then setEvt { s with stn := { s.stn with ovld := maskSet s.stn.ovld out true } } 0x110 2 else s)

/-- The effect of a write to STN_OUT (R460): a 0 opens the output and clears its latch. -/
def stnOutEffect (v : Word) (s : State) : State :=
  let o := if fld v 2 2 = 0 then maskSet s.stn.ovld 2 false else s.stn.ovld
  let o := if fld v 3 3 = 0 then maskSet o 3 false else o
  { s with stn := { s.stn with so2 := fld v 2 2 == 1, so3 := fld v 3 3 == 1, ovld := o } }

/-- STN_OUT_WRITE (R460). -/
def execStnOutWrite (by_ : Party) (v : Word) (s : State) : Host.Outcome State Fault Refusal :=
  .next (barWrite s by_ 4 0x11002C v (stnOutEffect v))

/-- The effect of a write to STN_EVPOP (R464). -/
def stnEvpopEffect (s : State) : State := { s with stn := { s.stn with events := s.stn.events.drop 1 } }

/-- STN_EVPOP (R464). -/
def execStnEvpop (by_ : Party) (v : Word) (s : State) : Host.Outcome State Fault Refusal :=
  .next (barWrite s by_ 4 0x11003C v stnEvpopEffect)

/-- CRYPTO_OK_HEALTH_TIMEOUT (R462). -/
def execCryptoOkHealthTimeout (s : State) : Host.Outcome State Fault Refusal :=
  .next { s with stn := { s.stn with health := false } }

end Sys2Proof.Machine
end

