-- ==== Sys2Proof/Machine/RegRead.lean ====
section
/-! DEFINITION. Machine/RegRead.lean: what a read of a BAR0 word returns (R14, R33 to R40, R46, and the register tables of each chapter).
A read changes nothing; the reads that do have rows of their own. -/
namespace Sys2Proof.Machine

/-- FRN page 0 (R185). -/
def frnView (s : State) (o : Nat) : Option Word :=
  let f := s.firn
  match o with
  | 0x20 => some (pack [(f.kstate.code, 29), (bnat (kemSeedOf f).isSome, 28),
      (bnat (stagedRec f), 27), (((activeRec f).map (fun r => r.seq % 65536)).getD 0, 0)])
  | 0x24 => some (pack [((f.slots.filter (fun e => match e.2 with | some x => x.pinned | none => false)).length, 16),
      ((f.slots.filter (fun e => e.2.isSome)).length, 0)])
  | 0x3C => some (w32 (f.blobs.filter (fun e => e.2.isSome)).length)
  | _ => none

/-- PIL_STATE, and the other words of a PIL page that are not stored (R96, R241). -/
def pilView (s : State) (n o : Nat) : Option Word :=
  match o with
  | 0x20 =>
    let spare := spareOf s n
    some (pack [((getPil s n).st.code, 29), ((schedBobs s n).length, 24), ((spare.getD 0) % 32, 19), (bnat spare.isSome, 18),
      ((homedOn s n).length, 0)])
  | 0x24 => some (pilQmap s n)
  | 0x50 => some (pilLoadWord s n)
  | 0x10C => some (w32 ((inputQueue s n false false ++ inputQueue s n false true).foldl (fun a e => a + e.2.cells) 0))
  | _ => none

/-- A CPL page (R155). -/
def cplView (s : State) (n o : Nat) : Option Word :=
  let x := getLane s n
  match o with
  | 0x20 => some (pack [(bnat x.stCtrl, 1), (fld (getReg s (cplReg n 0x20)) 0 0, 0)])
  | 0x24 => some (pack [(x.st.code, 29), (x.depth, 16), (x.susp.length, 8)])
  | 0x28 => some x.faultWord
  | 0x44 => some (w32 (x.busy / 1024))
  | _ => none

/-- The RNG page (R406). -/
def rngView (s : State) (o : Nat) : Option Word :=
  let src := s.rng.sources.zip (List.range 8)
  match o with
  | 0x20 => some (pack [(s.rng.st.code, 29), (src.foldl (fun a e => a + bnat e.1.restarting * 2 ^ e.2) 0, 21), (s.rng.qfill, 0)])
  | 0x24 => some (w32 (src.foldl (fun a e =>
      a + (e.1.consec + 4 * (if e.1.withdrawn then 2 else bnat e.1.restarting)) * 2 ^ (4 * e.2)) 0))
  | 0x2C => some (w32 (min 16 (rngHourFail s)))
  | 0x30 => some (rngLastFail s)
  | 0x40 => some s.rng.rawWord
  | _ => none

/-- TMP page 0 (R378). -/
def tmpView (s : State) (o : Nat) : Option Word :=
  let t := s.tamper
  match o with
  | 0x20 => some (pack [(if zeroisedNow s then 2 else bnat (tamperArmed s), 29), (bnat s.lc.idKill, 28), (t.batCopied, 0)])
  | 0x24 => some (w32 (sourcesEnabled s))
  | 0x28 => some (w32 t.active)
  | 0x2C => some (w32 t.last)
  | 0x30 => some (w32 (min t.evCnt allBits))
  | 0x34 => some (w32 (t.temp % 65536))
  | 0x38 => some (w32 (t.vbat % 4096))
  | 0x3C => some (pack [(t.cer.code, 29), (bnat (ceremonyInput s), 28), (t.cerCmd % 256, 8), (t.cerId % 256, 0)])
  | _ => none

/-- GLB page 0 and page 1 (R394, R440). -/
def glbView (s : State) (i o : Nat) : Option Word :=
  if i = 0 then
    match o with
    | 0x28 => some (lcStateWord s)
    | 0x2C => some (pack [((s.lc.viewEnd - s.boot.now) / 1000000000 % 65536, 16), (s.lc.views, 0)])
    | 0x30 => some (w32 s.lc.lcw)
    | 0x34 => some (w32 (s.lc.lcw / 2 ^ 32))
    | 0x38 => some (bootStatWord s)
    | 0x3C => some (w32 s.boot.bootTime)
    | _ => none
  else if o = 0x2C then some (rcvCtrlWord s) else none

/-- PTP page 0 and page 1 (R132, R472). -/
def ptpView (s : State) (i o : Nat) : Option Word :=
  if i = 0 then
    match o with
    | 0x24 => some (ptpStateWord s)
    | 0x28 => some (w32 s.ptp.ns)
    | 0x2C => some (w32 s.ptp.tsSec)
    | 0x30 => some (w32 (s.ptp.tsSec / 2 ^ 32 % 65536))
    | _ => none
  else if o < 0x40 then
    match s.ptp.pdelay.getD ((o - 0x20) / 4) none with
    | some d => some (pack [(1, 31), (min d 0xFFFFFF, 0)])
    | none => some 0
  else
    -- a read of PTP_STEPSEC_0 latches the log that it returns
    match (if o = 0x40 then s.ptp.steps else s.ptp.snap)[(o - 0x40) / 16]? with
    | some e => some (match o % 16 with
      | 0 => w32 e.sec
      | 4 => w32 e.ns
      | 8 => BitVec.ofInt 32 e.size
      | _ => BitVec.ofInt 32 (e.size / 2 ^ 32))
    | none => some 0

/-- A DRAM controller's word (R290). -/
def DramSt.word (d : DramSt) : Word := pack [(d.st.code, 29), (bnat d.keyVal, 28), (min d.corr 0xFFFF, 0)]

/-- DRF page 0 and page 1 (R289, R290). -/
def drfView (s : State) (i o : Nat) : Option Word :=
  if i = 0 then (if o = 0x24 then some (w32 s.pool.free) else if o = 0x28 then some (w32 s.pool.txFree) else none)
  else
    match o with
    | 0x24 => some s.pool.qstat
    | 0x28 => some s.pool.qcells
    | 0x2C => some s.pool.dram0.word
    | 0x30 => some s.pool.dram1.word
    | _ => none

/-- FWL page 0 and page 1 (R303). -/
def fwlView (s : State) (i o : Nat) : Option Word :=
  if i = 0 then
    match o with
    | 0x20 => some s.fwl.epoch
    | 0x24 => some (fwlStateWord s)
    | 0x28 => some (match s.fwl.fifo with
      | v :: rest => pack [(1, 31), (bnat (!rest.isEmpty), 30), (bnat v.write, 29), (v.master, 16), (v.rule, 0)]
      | [] => 0)
    | 0x2C => some (match s.fwl.fifo with | v :: _ => w32 v.addr | [] => 0)
    | 0x30 => some (match s.fwl.fifo with | v :: _ => w32 (v.addr / 2 ^ 32 % 16) | [] => 0)
    | 0x34 => some 0
    | 0x40 => some (fwlRuleCrc s)
    | _ => none
  else
    let r := getShadow s (fld (getReg s 0xB1020) 7 0)
    match o with
    | 0x24 => some r.base
    | 0x28 => some r.lim
    | 0x2C => some r.mast
    | 0x30 => some r.ctl
    | 0x34 => some 0
    | _ => none

/-- The pages of a block whose interrupt is raised, as a mask (SLM_IRQPIL, SLM_IRQCPL). -/
def irqMask (s : State) (first n : Nat) : Word := w32 ((List.range n).foldl (fun a i => a + bnat (getPage s (first + i)).irq * 2 ^ i) 0)

/-- The SLM pages (R328, R329); the words of slices stand on pages 8 to 15 (R35). -/
def slmView (s : State) (i o : Nat) : Option Word :=
  if i = 0 then
    match o with
    | 0x20 => some (slmLink s)
    | 0x24 => some (w32 (s.slices.filter (fun e => e.2.st != .free)).length)
    | 0x28 => some (irqMask s 0x40 16)
    | 0x2C => some (irqMask s 0x60 32)
    | _ => none
  else if 8 ≤ i ∧ 0x800 ≤ o then
    let x := getSlice s ((i - 8) * 128 + (o - 0x800) / 16)
    some (match o % 16 with | 0 => x.word | 4 => x.rxDrop | 8 => x.txDrop | _ => x.errInfo)
  else none

/-- The BRD page (R355). -/
def brdView (s : State) (o : Nat) : Option Word :=
  match o with
  | 0x24 => some (brdStateWord s)
  | 0x28 => some (pack [(min s.pair.lagMax 0xFFFF, 16), (min s.pair.lagNow 0xFFFF, 0)])
  | 0x40 => some (brdKeysplit s)
  | 0x44 => some 0
  | _ => none

/-- MOR page 0 and page 1 (R416). -/
def morView (s : State) (i o : Nat) : Option Word :=
  if i = 0 then
    match o with
    | 0x20 => some (morStateWord s)
    | 0x24 => some (w32 s.mor.seq)
    | 0x28 => some (morTail s)
    | 0x2C => some (w32 s.mor.archHead)
    | 0x30 => some (w32 s.mor.archTail)
    | _ => none
  else if o = 0x24 then some s.mor.rstat
  else if 0x40 ≤ o then some (s.mor.rrec.getD ((o - 0x40) / 4) 0)
  else none

/-- PWC page 0 (R439). -/
def pwcView (s : State) (o : Nat) : Option Word :=
  match o with
  | 0x28 => some (pwcResult s)
  | 0x2C => some (w32 s.pwc.pil)
  | 0x30 => some (w32 s.pwc.lane)
  | 0x34 => some (pwcMiscon s)
  | 0x3C => some (pwcBobon s)
  | 0x40 => some (pwcClkstat s)
  | 0x44 => some (w32 (s.pwc.tj % 65536))
  | 0x48 => some (w32 (s.pwc.power % 65536))
  | _ => none

/-- The station-side page (R464). -/
def stnView (s : State) (o : Nat) : Option Word :=
  match o with
  | 0x28 => some (stnSiWord s)
  | 0x2C => some (stnOutWord s)
  | 0x30 => some (stnEvInfo s)
  | 0x34 => some (stnEvLo s)
  | 0x38 => some (stnEvHi s)
  | 0x3C => some 0
  | _ => none

/-- The words that show state of a block rather than a stored register; none where the stored word is read. -/
def blockView (s : State) (p o : Nat) : Option Word :=
  match pageBlock p with
  | some (0x1, _, i) => glbView s i o
  | some (0x2, _, n) => if o = 0x28 then some (pbpLink s n) else none
  | some (0x3, _, 0) => if o = 0x28 then some (w32 s.cls.table.length) else if o = 0x2C then some (w32 s.cls.stash.length) else none
  | some (0x4, n, _) => pilView s n o
  | some (0x5, n, _) => cplView s n o
  | some (0x6, _, 0) => frnView s o
  | some (0x7, _, _) => if o = 0x20 then some (ltuStateWord s) else if o = 0x28 then some (ltuSignWord s) else none
  | some (0x8, _, 0) => if o = 0x20 then some (liuStateWord s) else none
  | some (0x9, _, i) => drfView s i o
  | some (0xA, _, i) => fwlView s i o
  | some (0xB, _, i) => slmView s i o
  | some (0xC, _, _) => brdView s o
  | some (0xD, _, 0) => tmpView s o
  | some (0xE, _, _) => rngView s o
  | some (0xF, _, i) => morView s i o
  | some (0x10, _, _) => stnView s o
  | some (0x11, _, i) => ptpView s i o
  | some (0x12, _, 0) => pwcView s o
  | some (0x13, _, 0) => if o = 0x38 then some (w32 s.hostIf.crHead) else none
  | _ => none

/-- The eight common words (R40 to R52); BLK_UNLK shows the reader's own arming (R46). -/
def commonView (s : State) (by_ : Party) (p o : Nat) : Word :=
  let g := getPage s p
  match o with
  | 0x00 => blkId p
  | 0x04 => 0x00010000#32
  | 0x08 => pack [(g.seq % 256, 24), (g.stat, 0)]
  | 0x10 => w32 (bnat (g.armed by_))
  | 0x14 => g.cfgCrc
  | 0x18 => g.cfgRef
  | 0x1C => g.ctrl
  | _ => 0

/-- A word of a page whose domain is on. -/
def wordAt (s : State) (by_ : Party) (p o : Nat) : Word :=
  if o < 0x20 then commonView s by_ p o
  else match regDesc p o with
    | none => 0
    | some _ => (blockView s p o).getD (getReg s (regAddr p o))

/-- What a BAR0 read returns: 0 where it is refused, but for BLK_ID of a page in a switched-off domain (R35, R39). -/
def barValue (s : State) (by_ : Party) (size addr : Nat) : Word :=
  let p := addr / 0x1000
  let o := addr % 0x1000
  match accessCause s by_ size addr with
  | 0 => wordAt s by_ p o
  | 7 => if o = 0 ∧ pageOpen s by_ p then blkId p else 0
  | _ => 0

end Sys2Proof.Machine
end

