-- ==== Sys2Proof/Machine/RegEffects.lean ====
section
/-! DEFINITION. Machine/RegEffects.lean: the effect that a BAR0 write has when it is carried out, register by register, and what a
block does as it enters and leaves its safe state (R16, R50, R51 and the register tables of each chapter). -/
namespace Sys2Proof.Machine

/-- PBP_CFG (R98, R131): a change of SPEED ends the link that ran under the old coding, with
what its PHY reported (R99). -/
def pbpCfgEffect (n : Nat) (v : Word) (s : State) : State :=
  let s' := if fld v 2 0 = portSpeed s n then s
    else modPort (portDown (rxDiscard s n) n) n (fun p => { p with spdErr := false, phySpeed := false })
  storeReg s' (pbpReg n 0x20) v

/-- PTP_CFG (R132): a source that is no longer enabled, or whose port no longer takes part, is no longer followed. -/
def ptpCfgEffect (v : Word) (s : State) : State :=
  let s := storeReg s 0x120020 v
  let p := s.ptp
  let ranks := (p.ranks.zip (List.range 4)).map (fun e => if bit (fld v 19 16) e.2 then e.1 else none)
  let ptp := p.ptpOk && ptpEn s && bit (fld v 19 16) p.port
  sourceGone { s with ptp := { p with
      ranks := ranks, ptpOk := ptp, irigOk := p.irigOk && irigEn s, ppsOk := p.ppsOk && ppsInEn s,
      rejected := p.rejected && irigEn s && ppsInEn s } }

/-- The cells of the transmit reserve after the reserve in force has changed (R289, R291). -/
def txResync (before : Nat) (s : State) : State :=
  { s with pool := { s.pool with txFree := s.pool.txFree + txReserve s - before } }

/-- DRF_TXRES (R289). -/
def txresEffect (v : Word) (s : State) : State := txResync (txReserve s) (storeReg s 0xA0020 v)

/-- SLM_MRSIZE of a manager ring (R320, R328): setting EN restarts a ring that an error stopped. -/
def mrsizeEffect (n : Nat) (v : Word) (s : State) : State :=
  let old := mrSize s n
  let s := storeReg s (regAddr 0xC0 (0x48 + 0x10 * n)) v
  if fld old 31 31 = 0 ∧ fld v 31 31 = 1 then { s with hostIf := { s.hostIf with mgrStop := maskSet s.hostIf.mgrStop n false } } else s

/-- PWC_REQ (R435, R438). -/
def pwcReqEffect (v : Word) (s : State) : State :=
  let group := fld v 27 24
  let index := fld v 9 0
  match fld v 31 28 with
  | 1 => pwcRun s v (offRefusal s group index) (fun s => switchOff s group index)
  | 2 => pwcRun s v (onRefusal s group index) (fun s => switchOn s group index)
  | 3 => pwcRun s v (lpEnterRefusal s) lpEnter
  | _ => pwcRun s v (if s.pwc.lpHold then 0 else 4) lpLeave

/-- MBX_CCHEAD (R324). -/
def ccheadEffect (v : Word) (s : State) : State :=
  let s := storeReg s 0x14003C v
  if fld v 31 31 = 1 then { s with hostIf := { s.hostIf with mbxArmed := true } } else s

/-- SLM_MRIDX of a manager ring (R328). -/
def mridxEffect (n : Nat) (v : Word) (s : State) : State :=
  let s := storeReg s (regAddr 0xC0 (0x4C + 0x10 * n)) v
  if n = 4 ∧ fld v 31 31 = 1 then { s with hostIf := { s.hostIf with mgrArmed := true } } else s

/-- GLB_WERR holds no capture once WERRCAP, which held before, is cleared (R53). -/
def werrClear (held : Bool) (s : State) : State :=
  if held && !bit (getPage s 0).stat 0 then setReg s 0x20 0 else s

/-- The common words that are written (R43, R46, R52): BLK_STCLR, BLK_UNLK, BLK_CFGREF, BLK_CTRL. -/
def commonEffect (by_ : Party) (p o : Nat) (v : Word) (s : State) : State :=
  werrClear (bit (getPage s 0).stat 0) (modPage s p (fun g =>
    match o with
    | 0x0C => g.clear v
    | 0x10 => g.setArmed by_ (v == 0x9E3721D4#32)
    | 0x18 => { g with cfgRef := v }
    | _ => { g with hold := bit v.toNat 0, safeEn := bit v.toNat 1, irqEn := bit v.toNat 2 }))

/-- The effect of a write that is carried out. -/
def regEffect (by_ : Party) (p o : Nat) (v : Word) (s : State) : State :=
  if o < 0x20 then commonEffect by_ p o v s
  else match pageBlock p with
  | some (0x1, _, 1) => if o = 0x2C then rcvCtrlEffect v s else storeReg s (regAddr p o) v
  | some (0x2, _, n) =>
    if o = 0x20 then pbpCfgEffect n v s else if o = 0x24 then pairCfgEffect (n / 2) v s else storeReg s (regAddr p o) v
  | some (0x5, n, _) => cplCtrlEffect n v s
  | some (0x9, _, 0) => txresEffect v s
  | some (0x9, _, _) => qselEffect v s
  | some (0xA, _, 0) => { s with fwl := { s.fwl with fifo := s.fwl.fifo.drop 1 } }
  | some (0xA, _, _) => if o = 0x20 then storeReg s (regAddr p o) v else if o = 0x34 then commitEffect s else shadowWrite s o v
  | some (0xB, _, 0) =>
    if 0x40 ≤ o ∧ o % 0x10 = 8 then mrsizeEffect ((o - 0x40) / 0x10) v s
    else if 0x40 ≤ o ∧ o % 0x10 = 0xC then mridxEffect ((o - 0x40) / 0x10) v s
    else storeReg s (regAddr p o) v
  | some (0xC, _, _) => if o = 0x44 then blkclrEffect v s else storeReg s (regAddr p o) v
  | some (0xE, _, _) => rngTestEffect v s
  | some (0xF, _, 1) => latchRecord (storeReg s (regAddr p o) v) v.toNat
  | some (0x10, _, _) => if o = 0x2C then stnOutEffect v s else if o = 0x3C then stnEvpopEffect s else storeReg s (regAddr p o) v
  | some (0x11, _, 0) => if o = 0x20 then ptpCfgEffect v s else storeReg s (regAddr p o) v
  | some (0x12, _, 0) => if o = 0x24 then pwcReqEffect v s else storeReg s (regAddr p o) v
  | some (0x13, _, 0) => if o = 0x3C then ccheadEffect v s else storeReg s (regAddr p o) v
  | _ => storeReg s (regAddr p o) v

/-- What a block does as SAFE sets (on) or clears on its page: a lane drains or returns (R155), the time unit holds HOLDOVER (R132),
the test mode of Flurry ends or resumes (R406), the transmit reserve is resized (R291). The other safe states are read where they apply. -/
def safeChange (before : Nat) (p : Nat) (on : Bool) (s : State) : State :=
  match pageBlock p with
  | some (0x5, n, _) => applyInsvc s n
  | some (0x9, _, 0) => txResync before s
  | some (0xE, _, _) => rngMode s (if on then 0 else fld (getReg s 0xF003C) 5 4) (fld (getReg s 0xF003C) 2 0)
  | some (0x11, _, 0) => if on then enterHoldover s else s
  | _ => s

/-- SAFE of a page set or cleared: no set event (R42). -/
def setSafe (s : State) (p : Nat) (on : Bool) : State :=
  if pageSafe s p = on then s
  else
    let before := txReserve s
    safeChange before p on (modPage s p (fun g => { g with stat := maskSet g.stat 21 on, leaving := false }))

/-- A comparison that finds a mismatch (R50). -/
def cfgMismatch (s : State) (p : Nat) : State :=
  let g := getPage s p
  let s := setEvt s p 23
  let s := if bit g.stat 23 then s
    else match pageBlock p with
      | some (c, n, i) => record s 0x0011 c (if c = 4 ∨ c = 5 then n else i) [(blkId p).toNat, g.cfgCrc.toNat, g.cfgRef.toNat]
      | none => s
  let s := modPage s p (fun g => { g with leaving := false })
  if g.safeEn then setSafe s p true else s

/-- A pass over a page completes: BLK_CFGCRC, then the comparison unless CFGHOLD is 1 (R49 to R52). A page without configuration words
never mismatches. -/
def crcPass (s : State) (p : Nat) : State :=
  if (pageBlock p).isNone ∨ pageOn s p = false ∨ (cfWords p).isEmpty then s
  else
    let s := modPage s p (fun g => { g with cfgCrc := cfgCrcOf p (fun o => wordAt s .cc p o) })
    let g := getPage s p
    if g.hold then s
    else if g.cfgCrc ≠ g.cfgRef then cfgMismatch s p
    else if g.leaving then setSafe s p false else s

/-- CFGHOLD held for 10 ms (R52). -/
def holdTimeout (s : State) (p : Nat) : State :=
  if (pageBlock p).isSome ∧ pageOn s p = true ∧ (getPage s p).hold = true then
    setEvt (modPage s p (fun g => { g with hold := false })) p 20
  else s

/-- A 32-bit read refused and recorded; a read of BLK_ID in a switched-off domain is carried out (R39, R53). -/
def readRefusal (s : State) (by_ : Party) (addr : Nat) : State :=
  let c := accessCause s by_ 4 addr
  if c = 0 ∨ (c = 7 ∧ addr % 0x1000 = 0 ∧ pageOpen s by_ (addr / 0x1000) = true) then s else refuseAccess s by_ true addr c

/-- A read (R34, R53): an aligned 64-bit read is two 32-bit reads in ascending order. -/
def readAccess (s : State) (by_ : Party) (size addr : Nat) : State :=
  if size = 8 ∧ addr % 8 = 0 then readRefusal (readRefusal s by_ addr) by_ (addr + 4)
  else if size = 4 ∧ addr % 4 = 0 then readRefusal s by_ addr
  else refuseAccess s by_ true addr 6

/-- The 32-bit words that a read returns, in ascending order (R34): two of an aligned 64-bit read, the second one read after
what the first one did; the single word 0 of an access of another size or alignment. -/
def barReads (s : State) (by_ : Party) (size addr : Nat) : List Word :=
  if size = 8 ∧ addr % 8 = 0 then [barValue s by_ 4 addr, barValue (readRefusal s by_ addr) by_ 4 (addr + 4)]
  else [barValue s by_ size addr]

end Sys2Proof.Machine
end

