-- ==== Sys2Proof/Machine/Registers.lean ====
section
/-! DEFINITION. Machine/Registers.lean: the commands of the register pages (R14 to R16, R33 to R53). -/
namespace Sys2Proof.Machine

/-- REGISTER_WRITE (R16): a BAR0 write under the access codes, the arming rule and the checks of its value. -/
def execRegWrite (by_ : Party) (size addr : Nat) (v : Word) (s : State) : Host.Outcome State Fault Refusal :=
  .next (ccAfter s (barWrite s by_ size addr v (regEffect by_ (addr / 0x1000) (addr % 0x1000) v)))

/-- REFUSED_READ (R53). A read that is carried out changes nothing. -/
def execRefusedRead (by_ : Party) (size addr : Nat) (s : State) : Host.Outcome State Fault Refusal :=
  .next (readAccess s by_ size addr)

/-- BLK_STCLR (R43). -/
def execBlkStclr (by_ : Party) (page : Nat) (v : Word) (s : State) : Host.Outcome State Fault Refusal :=
  .next (barWrite s by_ 4 (regAddr page 0x0C) v (commonEffect by_ page 0x0C v))

/-- BLK_UNLK (R46). -/
def execBlkUnlk (by_ : Party) (page : Nat) (v : Word) (s : State) : Host.Outcome State Fault Refusal :=
  .next (barWrite s by_ 4 (regAddr page 0x10) v (commonEffect by_ page 0x10 v))

/-- UNLOCK_LAPSE (R47): 100 µs after the arming write. -/
def execUnlockLapse (by_ : Party) (page : Nat) (s : State) : Host.Outcome State Fault Refusal :=
  .next (modPage s page (fun g => g.setArmed by_ false))

/-- CFG_CRC_PASS (R49 to R51). -/
def execCfgCrcPass (page : Nat) (s : State) : Host.Outcome State Fault Refusal := .next (crcPass s page)

/-- CFGHOLD_TIMEOUT (R52). -/
def execCfgholdTimeout (page : Nat) (s : State) : Host.Outcome State Fault Refusal := .next (holdTimeout s page)

end Sys2Proof.Machine
end

