-- ==== Sys2Proof/Machine/Dispatch.lean ====
section
/-! DEFINITION. Machine/Dispatch.lean: the meaning of every command, one direct call each. -/
namespace Sys2Proof.Machine

/-- The effect of a command on everything but the queue. -/
def exec (i : Instr) (s : State) : Host.Outcome State Fault Refusal :=
  match i with
  | .regWrite by_ size addr v => Sys2Proof.Machine.execRegWrite by_ size addr v s
  | .refusedRead by_ size addr => Sys2Proof.Machine.execRefusedRead by_ size addr s
  | .blkStclr by_ page v => Sys2Proof.Machine.execBlkStclr by_ page v s
  | .blkUnlk by_ page v => Sys2Proof.Machine.execBlkUnlk by_ page v s
  | .unlockLapse by_ page => Sys2Proof.Machine.execUnlockLapse by_ page s
  | .cfgCrcPass page => Sys2Proof.Machine.execCfgCrcPass page s
  | .cfgholdTimeout page => Sys2Proof.Machine.execCfgholdTimeout page s
  | .frameArrival port f => Sys2Proof.Machine.execFrameArrival port f s
  | .frameLastByte port len fcsOk => Sys2Proof.Machine.execFrameLastByte port len fcsOk s
  | .dupEntryExpiry pair mac seq => Sys2Proof.Machine.execDupEntryExpiry pair mac seq s
  | .hsrPassThrough port => Sys2Proof.Machine.execHsrPassThrough port s
  | .mgmtFrameReceive bytes => Sys2Proof.Machine.execMgmtFrameReceive bytes s
  | .linkChange port r => Sys2Proof.Machine.execLinkChange port r s
  | .phySpeedReport port speed => Sys2Proof.Machine.execPhySpeedReport port speed s
  | .pairModeChange by_ pair v => Sys2Proof.Machine.execPairModeChange by_ pair v s
  | .frameDispatch pillow => Sys2Proof.Machine.execFrameDispatch pillow s
  | .streamLost ctx => Sys2Proof.Machine.execStreamLost ctx s
  | .epochEnd ctx => Sys2Proof.Machine.execEpochEnd ctx s
  | .headWordWrite handle => Sys2Proof.Machine.execHeadWordWrite handle s
  | .egressStart port => Sys2Proof.Machine.execEgressStart port s
  | .egressEnd port => Sys2Proof.Machine.execEgressEnd port s
  | .ptpMessage port m => Sys2Proof.Machine.execPtpMessage port m s
  | .irigbFrame f => Sys2Proof.Machine.execIrigbFrame f s
  | .ppsInEdge offset => Sys2Proof.Machine.execPpsInEdge offset s
  | .ppsOut => Sys2Proof.Machine.execPpsOut s
  | .sourceLoss src => Sys2Proof.Machine.execSourceLoss src s
  | .holdoverExpiry => Sys2Proof.Machine.execHoldoverExpiry s
  | .timeSourceCompare => Sys2Proof.Machine.execTimeSourceCompare s
  | .ptpTnsRead by_ => Sys2Proof.Machine.execPtpTnsRead by_ s
  | .ptpStepsecRead by_ => Sys2Proof.Machine.execPtpStepsecRead by_ s
  | .laneAdmission pillow => Sys2Proof.Machine.execLaneAdmission pillow s
  | .verify lane => Sys2Proof.Machine.execVerify lane s
  | .generate lane => Sys2Proof.Machine.execGenerate lane s
  | .decrypt lane => Sys2Proof.Machine.execDecrypt lane s
  | .encrypt lane => Sys2Proof.Machine.execEncrypt lane s
  | .unwrap lane => Sys2Proof.Machine.execUnwrap lane s
  | .wrap lane slot key => Sys2Proof.Machine.execWrap lane slot key s
  | .derive lane => Sys2Proof.Machine.execDerive lane s
  | .kcv lane => Sys2Proof.Machine.execKcv lane s
  | .kmac lane slot x => Sys2Proof.Machine.execKmac lane slot x s
  | .hash3 lane x => Sys2Proof.Machine.execHash3 lane x s
  | .laneSelftest lane => Sys2Proof.Machine.execLaneSelftest lane s
  | .serviceSelftestInsert lane => Sys2Proof.Machine.execServiceSelftestInsert lane s
  | .laneSuspend lane => Sys2Proof.Machine.execLaneSuspend lane s
  | .laneResume lane => Sys2Proof.Machine.execLaneResume lane s
  | .servicePromotion lane id => Sys2Proof.Machine.execServicePromotion lane id s
  | .laneResult lane => Sys2Proof.Machine.execLaneResult lane s
  | .laneFault lane engine cause => Sys2Proof.Machine.execLaneFault lane engine cause s
  | .laneFaultPoweroff lane => Sys2Proof.Machine.execLaneFaultPoweroff lane s
  | .laneSelftestDone lane pass engine => Sys2Proof.Machine.execLaneSelftestDone lane pass engine s
  | .cplSelftest by_ lane insvc => Sys2Proof.Machine.execCplSelftest by_ lane insvc s
  | .cplInsvc by_ lane insvc => Sys2Proof.Machine.execCplInsvc by_ lane insvc s
  | .firnNeed src => Sys2Proof.Machine.execFirnNeed src s
  | .blobReadDone blob dramOk nandOk => Sys2Proof.Machine.execBlobReadDone blob dramOk nandOk s
  | .journalDurable => Sys2Proof.Machine.execJournalDurable s
  | .scheduledCommit => Sys2Proof.Machine.execScheduledCommit s
  | .mmkRewrapDone => Sys2Proof.Machine.execMmkRewrapDone s
  | .bundleLoad sl b => Sys2Proof.Machine.execBundleLoad sl b s
  | .keyStage sl ctx ksrc kidx kcv overlap => Sys2Proof.Machine.execKeyStage sl ctx ksrc kidx kcv overlap s
  | .keyCommit sl ctxs activate overlap => Sys2Proof.Machine.execKeyCommit sl ctxs activate overlap s
  | .keyAbort sl ctx => Sys2Proof.Machine.execKeyAbort sl ctx s
  | .blobPin sl slice blob pin => Sys2Proof.Machine.execBlobPin sl slice blob pin s
  | .nodeDefine sl d => Sys2Proof.Machine.execNodeDefine sl d s
  | .kemGenerate sl => Sys2Proof.Machine.execKemGenerate sl s
  | .keyStatus sl ctx => Sys2Proof.Machine.execKeyStatus sl ctx s
  | .gdoiMap sl group kid ctxs overlap => Sys2Proof.Machine.execGdoiMap sl group kid ctxs overlap s
  | .gdoiMsg sl m => Sys2Proof.Machine.execGdoiMsg sl m s
  | .idRead sl => Sys2Proof.Machine.execIdRead sl s
  | .attest sl nonce => Sys2Proof.Machine.execAttest sl nonce s
  | .svnAdvance sl target => Sys2Proof.Machine.execSvnAdvance sl target s
  | .certCheck sl c => Sys2Proof.Machine.execCertCheck sl c s
  | .ltuOperation op input => Sys2Proof.Machine.execLtuOperation op input s
  | .ltuOperationDone iters fault => Sys2Proof.Machine.execLtuOperationDone iters fault s
  | .setmod w => Sys2Proof.Machine.execSetmod w s
  | .montmul w => Sys2Proof.Machine.execMontmul w s
  | .modadd w => Sys2Proof.Machine.execModadd w s
  | .modsub w => Sys2Proof.Machine.execModsub w s
  | .tomont w => Sys2Proof.Machine.execTomont w s
  | .frommont w => Sys2Proof.Machine.execFrommont w s
  | .mul w => Sys2Proof.Machine.execMul w s
  | .copy w => Sys2Proof.Machine.execCopy w s
  | .zero w => Sys2Proof.Machine.execZero w s
  | .liuCmp w => Sys2Proof.Machine.execLiuCmp w s
  | .exppub w => Sys2Proof.Machine.execExppub w s
  | .expsec w => Sys2Proof.Machine.execExpsec w s
  | .keyin w blob => Sys2Proof.Machine.execKeyin w blob s
  | .liuAbort => Sys2Proof.Machine.execLiuAbort s
  | .liuSelftest => Sys2Proof.Machine.execLiuSelftest s
  | .liuCommandDone residueOk => Sys2Proof.Machine.execLiuCommandDone residueOk s
  | .unitIdleGate u => Sys2Proof.Machine.execUnitIdleGate u s
  | .cpIdleGate cp => Sys2Proof.Machine.execCpIdleGate cp s
  | .init ctx => Sys2Proof.Machine.execInit ctx s
  | .bgItem b => Sys2Proof.Machine.execBgItem b s
  | .balwaitExpiry group smpCnt => Sys2Proof.Machine.execBalwaitExpiry group smpCnt s
  | .fgLimit b => Sys2Proof.Machine.execFgLimit b s
  | .bgItemLimit b => Sys2Proof.Machine.execBgItemLimit b s
  | .spareRotation pillow => Sys2Proof.Machine.execSpareRotation pillow s
  | .bobbinSelftestDone b pass => Sys2Proof.Machine.execBobbinSelftestDone b pass s
  | .shadowCompare b shadow => Sys2Proof.Machine.execShadowCompare b shadow s
  | .bobbinQuarantine b cause => Sys2Proof.Machine.execBobbinQuarantine b cause s
  | .sharedRamEcc pillow offset => Sys2Proof.Machine.execSharedRamEcc pillow offset s
  | .ctxEcc ctx => Sys2Proof.Machine.execCtxEcc ctx s
  | .contextMove ctx dest => Sys2Proof.Machine.execContextMove ctx dest s
  | .storeDrain b => Sys2Proof.Machine.execStoreDrain b s
  | .alu b w => Sys2Proof.Machine.execAlu b w s
  | .addi b w => Sys2Proof.Machine.execAddi b w s
  | .andi b w => Sys2Proof.Machine.execAndi b w s
  | .ori b w => Sys2Proof.Machine.execOri b w s
  | .xori b w => Sys2Proof.Machine.execXori b w s
  | .movhi b w => Sys2Proof.Machine.execMovhi b w s
  | .movlo b w => Sys2Proof.Machine.execMovlo b w s
  | .muldiv b w => Sys2Proof.Machine.execMuldiv b w s
  | .mac b w => Sys2Proof.Machine.execMac b w s
  | .accrd b w => Sys2Proof.Machine.execAccrd b w s
  | .accwr b w => Sys2Proof.Machine.execAccwr b w s
  | .shift b w => Sys2Proof.Machine.execShift b w s
  | .shifti b w => Sys2Proof.Machine.execShifti b w s
  | .bfx b w => Sys2Proof.Machine.execBfx b w s
  | .bfi b w => Sys2Proof.Machine.execBfi b w s
  | .clz b w => Sys2Proof.Machine.execClz b w s
  | .perm b w => Sys2Proof.Machine.execPerm b w s
  | .ld b w => Sys2Proof.Machine.execLd b w s
  | .st b w => Sys2Proof.Machine.execSt b w s
  | .agset b w => Sys2Proof.Machine.execAgset b w s
  | .agget b w => Sys2Proof.Machine.execAgget b w s
  | .cmp b w => Sys2Proof.Machine.execCmp b w s
  | .cmpi b w => Sys2Proof.Machine.execCmpi b w s
  | .br b w => Sys2Proof.Machine.execBr b w s
  | .call b w => Sys2Proof.Machine.execCall b w s
  | .jr b w => Sys2Proof.Machine.execJr b w s
  | .ret b w => Sys2Proof.Machine.execRet b w s
  | .eret b w => Sys2Proof.Machine.execEret b w s
  | .exit b w => Sys2Proof.Machine.execExit b w s
  | .trap b w => Sys2Proof.Machine.execTrap b w s
  | .bgpost b => Sys2Proof.Machine.execBgpost b s
  | .flagpost b => Sys2Proof.Machine.execFlagpost b s
  | .time b => Sys2Proof.Machine.execTime b s
  | .fence b w => Sys2Proof.Machine.execFence b w s
  | .mfs b w => Sys2Proof.Machine.execMfs b w s
  | .mts b w => Sys2Proof.Machine.execMts b w s
  | .frameGet b w => Sys2Proof.Machine.execFrameGet b w s
  | .laneReq b w => Sys2Proof.Machine.execLaneReq b w s
  | .verdictPut b w => Sys2Proof.Machine.execVerdictPut b w s
  | .ctxLd b w => Sys2Proof.Machine.execCtxLd b w s
  | .ctxSt b w => Sys2Proof.Machine.execCtxSt b w s
  | .mac40 b w => Sys2Proof.Machine.execMac40 b w s
  | .ldx b w => Sys2Proof.Machine.execLdx b w s
  | .stx b w => Sys2Proof.Machine.execStx b w s
  | .crc16 b w => Sys2Proof.Machine.execCrc16 b w s
  | .swaph b w => Sys2Proof.Machine.execSwaph b w s
  | .divstep b w => Sys2Proof.Machine.execDivstep b w s
  | .pgmLoad sl img => Sys2Proof.Machine.execPgmLoad sl img s
  | .pgmAssign sl pillow entries fails => Sys2Proof.Machine.execPgmAssign sl pillow entries fails s
  | .pillowDrain sl pillow mask => Sys2Proof.Machine.execPillowDrain sl pillow mask s
  | .pillowReturn sl pillow => Sys2Proof.Machine.execPillowReturn sl pillow s
  | .bobbinRetest sl b pass => Sys2Proof.Machine.execBobbinRetest sl b pass s
  | .pgmRemove sl pgmId pgmVer => Sys2Proof.Machine.execPgmRemove sl pgmId pgmVer s
  | .pillowStatus sl pillow => Sys2Proof.Machine.execPillowStatus sl pillow s
  | .cellDataEcc handle => Sys2Proof.Machine.execCellDataEcc handle s
  | .linkWordEcc both => Sys2Proof.Machine.execLinkWordEcc both s
  | .poolRestartDone => Sys2Proof.Machine.execPoolRestartDone s
  | .dramEccError ctrl repeated => Sys2Proof.Machine.execDramEccError ctrl repeated s
  | .dramTrainingDone ctrl ok => Sys2Proof.Machine.execDramTrainingDone ctrl ok s
  | .fabricAccess master addr write len data => Sys2Proof.Machine.execFabricAccess master addr write len data s
  | .fwlCommit by_ v => Sys2Proof.Machine.execFwlCommit by_ v s
  | .fwlDrainEnd => Sys2Proof.Machine.execFwlDrainEnd s
  | .fwlVpop by_ v => Sys2Proof.Machine.execFwlVpop by_ v s
  | .drfQsel by_ v => Sys2Proof.Machine.execDrfQsel by_ v s
  | .dbTxtail slice v => Sys2Proof.Machine.execDbTxtail slice v s
  | .dbRxtail slice v => Sys2Proof.Machine.execDbRxtail slice v s
  | .dbCqhead slice v => Sys2Proof.Machine.execDbCqhead slice v s
  | .sliceIrqDelay slice => Sys2Proof.Machine.execSliceIrqDelay slice s
  | .descriptorFetch src d => Sys2Proof.Machine.execDescriptorFetch src d s
  | .txFrameReceived src slice f => Sys2Proof.Machine.execTxFrameReceived src slice f s
  | .hostReadError owner ring err => Sys2Proof.Machine.execHostReadError owner ring err s
  | .completionTimeout owner ring => Sys2Proof.Machine.execCompletionTimeout owner ring s
  | .pcieFunctionReset kind => Sys2Proof.Machine.execPcieFunctionReset kind s
  | .pciePerst asserted => Sys2Proof.Machine.execPciePerst asserted s
  | .mbxCrtail by_ v other => Sys2Proof.Machine.execMbxCrtail by_ v other s
  | .mbxCchead by_ v => Sys2Proof.Machine.execMbxCchead by_ v s
  | .managerRingIndex by_ ring v => Sys2Proof.Machine.execManagerRingIndex by_ ring v s
  | .sliceCreate sl block => Sys2Proof.Machine.execSliceCreate sl block s
  | .sliceQuiesce sl slice => Sys2Proof.Machine.execSliceQuiesce sl slice s
  | .sliceDrainComplete slice => Sys2Proof.Machine.execSliceDrainComplete slice s
  | .quiesceAbandon slice => Sys2Proof.Machine.execQuiesceAbandon slice s
  | .sliceResume sl slice => Sys2Proof.Machine.execSliceResume sl slice s
  | .sliceReset sl block => Sys2Proof.Machine.execSliceReset sl block s
  | .sliceRemove sl slice => Sys2Proof.Machine.execSliceRemove sl slice s
  | .sliceDirtylog sl slice enable wbase pages bmaddr => Sys2Proof.Machine.execSliceDirtylog sl slice enable wbase pages bmaddr s
  | .dirtyHarvest sl slice => Sys2Proof.Machine.execDirtyHarvest sl slice s
  | .sliceStatus sl slice => Sys2Proof.Machine.execSliceStatus sl slice s
  | .ctxCreate sl block => Sys2Proof.Machine.execCtxCreate sl block s
  | .ctxModify sl ctx ctrl rate supv plaus plim declRate => Sys2Proof.Machine.execCtxModify sl ctx ctrl rate supv plaus plim declRate s
  | .ctxRemove sl ctx => Sys2Proof.Machine.execCtxRemove sl ctx s
  | .ctxRead sl ctx => Sys2Proof.Machine.execCtxRead sl ctx s
  | .balDefine sl group pillow channels tolAbs tolRel persist balWait smpRate => Sys2Proof.Machine.execBalDefine sl group pillow channels tolAbs tolRel persist balWait smpRate s
  | .balRemove sl group => Sys2Proof.Machine.execBalRemove sl group s
  | .heartbeatSend => Sys2Proof.Machine.execHeartbeatSend s
  | .heartbeatReceive lane peer mirrorSeq => Sys2Proof.Machine.execHeartbeatReceive lane peer mirrorSeq s
  | .heartbeatLoss => Sys2Proof.Machine.execHeartbeatLoss s
  | .pairSenseChange sense => Sys2Proof.Machine.execPairSenseChange sense s
  | .pairSenseFault => Sys2Proof.Machine.execPairSenseFault s
  | .mirrorRecord lag item => Sys2Proof.Machine.execMirrorRecord lag item s
  | .publishRecord r => Sys2Proof.Machine.execPublishRecord r s
  | .holdbackExpiry handle => Sys2Proof.Machine.execHoldbackExpiry handle s
  | .brideAuthDone fingerprint ok => Sys2Proof.Machine.execBrideAuthDone fingerprint ok s
  | .fullCopyApplied => Sys2Proof.Machine.execFullCopyApplied s
  | .brideRekey => Sys2Proof.Machine.execBrideRekey s
  | .brideBatch valid => Sys2Proof.Machine.execBrideBatch valid s
  | .brideLaneChange lane up => Sys2Proof.Machine.execBrideLaneChange lane up s
  | .keysplit ctx => Sys2Proof.Machine.execKeysplit ctx s
  | .recoveryWindowEnd => Sys2Proof.Machine.execRecoveryWindowEnd s
  | .pairBind sl fingerprint member pref => Sys2Proof.Machine.execPairBind sl fingerprint member pref s
  | .pairSwitch sl => Sys2Proof.Machine.execPairSwitch sl s
  | .pairLeave sl => Sys2Proof.Machine.execPairLeave sl s
  | .pairForce sl => Sys2Proof.Machine.execPairForce sl s
  | .pairStatus sl => Sys2Proof.Machine.execPairStatus sl s
  | .blkclr by_ v => Sys2Proof.Machine.execBlkclr by_ v s
  | .tamperDetect sources => Sys2Proof.Machine.execTamperDetect sources s
  | .meshMeasurement source ok => Sys2Proof.Machine.execMeshMeasurement source ok s
  | .meshSeedRefresh => Sys2Proof.Machine.execMeshSeedRefresh s
  | .ceremonyOpen sl inner id block => Sys2Proof.Machine.execCeremonyOpen sl inner id block s
  | .ceremonyAuth sl token => Sys2Proof.Machine.execCeremonyAuth sl token s
  | .ceremonyExec sl id otp => Sys2Proof.Machine.execCeremonyExec sl id otp s
  | .ceremonyCancel sl id => Sys2Proof.Machine.execCeremonyCancel sl id s
  | .ceremonyExpiry => Sys2Proof.Machine.execCeremonyExpiry s
  | .officerInit sl block => Sys2Proof.Machine.execOfficerInit sl block s
  | .lcStatus sl => Sys2Proof.Machine.execLcStatus sl s
  | .lcField sl otp => Sys2Proof.Machine.execLcField sl otp s
  | .debugLock sl => Sys2Proof.Machine.execDebugLock sl s
  | .debugExpiry => Sys2Proof.Machine.execDebugExpiry s
  | .lcComplete sl otp => Sys2Proof.Machine.execLcComplete sl otp s
  | .lcZeroise sl => Sys2Proof.Machine.execLcZeroise sl s
  | .lcMfg sl token target otp => Sys2Proof.Machine.execLcMfg sl token target otp s
  | .certStore sl chain => Sys2Proof.Machine.execCertStore sl chain s
  | .transitionReset => Sys2Proof.Machine.execTransitionReset s
  | .rngBlock src block => Sys2Proof.Machine.execRngBlock src block s
  | .rngSourceRestarted src => Sys2Proof.Machine.execRngSourceRestarted src s
  | .rngGenerate => Sys2Proof.Machine.execRngGenerate s
  | .rngReady => Sys2Proof.Machine.execRngReady s
  | .rngRequest port bytes => Sys2Proof.Machine.execRngRequest port bytes s
  | .rngRequestTimeout port => Sys2Proof.Machine.execRngRequestTimeout port s
  | .dramKeyRetry ctrl => Sys2Proof.Machine.execDramKeyRetry ctrl s
  | .rngTestRaw by_ src => Sys2Proof.Machine.execRngTestRaw by_ src s
  | .rngTestPattern by_ => Sys2Proof.Machine.execRngTestPattern by_ s
  | .rngTestOff by_ => Sys2Proof.Machine.execRngTestOff by_ s
  | .rngRawRead by_ raw => Sys2Proof.Machine.execRngRawRead by_ raw s
  | .moraineOffer code source payload => Sys2Proof.Machine.execMoraineOffer code source payload s
  | .tokenRefill code => Sys2Proof.Machine.execTokenRefill code s
  | .archiveRecord nandOk nandStatus => Sys2Proof.Machine.execArchiveRecord nandOk nandStatus s
  | .morRseq by_ v => Sys2Proof.Machine.execMorRseq by_ v s
  | .logRead sl first count nandOk => Sys2Proof.Machine.execLogRead sl first count nandOk s
  | .logCheck sl first last nandOk => Sys2Proof.Machine.execLogCheck sl first last nandOk s
  | .logSeal sl first last nandOk => Sys2Proof.Machine.execLogSeal sl first last nandOk s
  | .logLimit sl code rate burst => Sys2Proof.Machine.execLogLimit sl code rate burst s
  | .resetN => Sys2Proof.Machine.execResetN s
  | .resetRelease env => Sys2Proof.Machine.execResetRelease env s
  | .firmwareEntry => Sys2Proof.Machine.execFirmwareEntry s
  | .hostAccessOpen ms => Sys2Proof.Machine.execHostAccessOpen ms s
  | .portHoldRelease => Sys2Proof.Machine.execPortHoldRelease s
  | .tempHold tj => Sys2Proof.Machine.execTempHold tj s
  | .powerFailWarning => Sys2Proof.Machine.execPowerFailWarning s
  | .clockFault clk period => Sys2Proof.Machine.execClockFault clk period s
  | .clockFaultEnd clk => Sys2Proof.Machine.execClockFaultEnd clk s
  | .recoveryGo by_ slot => Sys2Proof.Machine.execRecoveryGo by_ slot s
  | .recoveryDone o => Sys2Proof.Machine.execRecoveryDone o s
  | .recoveryReset => Sys2Proof.Machine.execRecoveryReset s
  | .off by_ group index => Sys2Proof.Machine.execOff by_ group index s
  | .on by_ group index => Sys2Proof.Machine.execOn by_ group index s
  | .lpholdEnter by_ => Sys2Proof.Machine.execLpholdEnter by_ s
  | .lpholdExit by_ => Sys2Proof.Machine.execLpholdExit by_ s
  | .pwcRequestDone came => Sys2Proof.Machine.execPwcRequestDone came s
  | .stationLinkFrame f => Sys2Proof.Machine.execStationLinkFrame f s
  | .siChange input level time => Sys2Proof.Machine.execSiChange input level time s
  | .stationLinkLoss => Sys2Proof.Machine.execStationLinkLoss s
  | .soOverload out => Sys2Proof.Machine.execSoOverload out s
  | .stnOutWrite by_ v => Sys2Proof.Machine.execStnOutWrite by_ v s
  | .stnEvpop by_ v => Sys2Proof.Machine.execStnEvpop by_ v s
  | .cryptoOkHealthTimeout => Sys2Proof.Machine.execCryptoOkHealthTimeout s
  | .captureRead sl pillow first count => Sys2Proof.Machine.execCaptureRead sl pillow first count s
  | .watchdogExpiry => Sys2Proof.Machine.execWatchdogExpiry s
  | .jtagAccess op => Sys2Proof.Machine.execJtagAccess op s
  | .peerDelayRequest => Sys2Proof.Machine.execPeerDelayRequest s
  | .pcieLinkChange up gen width recovery => Sys2Proof.Machine.execPcieLinkChange up gen width recovery s
  | .thermalWarning tj => Sys2Proof.Machine.execThermalWarning tj s
  | .tamperSourceEvent src tripped => Sys2Proof.Machine.execTamperSourceEvent src tripped s
  | .tamperTempMeasurement temp => Sys2Proof.Machine.execTamperTempMeasurement temp s
  | .vbatLowWarning mv => Sys2Proof.Machine.execVbatLowWarning mv s

end Sys2Proof.Machine
end

