-- ==== Sys2Proof/Safety.lean ====
section
/-! DEFINITION. Safety.lean: what counts as a safe run: every step answers a next state. -/
namespace Sys2Proof

/-- Every one of the next n steps from s answers a next state. -/
def safeFor (n : Nat) (s : Machine.State) : Prop := ∃ t, core.run n s = .next t

end Sys2Proof
end

