-- ==== Sys2Proof/WellFormed.lean ====
section
/-! DEFINITION. WellFormed.lean: the operands that a command can carry: each number fits the field, word or length that brings it.
exec gives a meaning to ill-formed terms too; no sender can send them. -/
namespace Sys2Proof

/-- A number of at most n bits. -/
def fits (n x : Nat) : Bool := decide (x < 2 ^ n)

/-- Numbers of at most n bits, at most 65,536 of them. -/
def allFit (n : Nat) (xs : List Nat) : Bool := decide (xs.length ≤ 65536) && xs.all (fits n)

def pairsFit (n : Nat) (xs : List (Nat × Nat)) : Bool := decide (xs.length ≤ 65536) && xs.all (fun e => fits n e.1 && fits n e.2)

/-- The bytes that one parameter block can carry: PLEN is at most 65,536 (R324), and a program image has up to 2^20 bytes. -/
def short (b : List Byte) : Bool := decide (b.length ≤ 2 ^ 20)

/-- A command slot: TAG [15:0], RADDR, RLEN (R324). -/
def Slot.wf (x : Slot) : Bool := fits 16 x.tag && fits 64 x.raddr && fits 32 x.rlen

/-- A security extension: KEYID and the invocation field (R103, R104). -/
def SecExt.wf (x : SecExt) : Bool := fits 3 x.alg && fits 32 x.keyId && fits 64 x.iv

/-- A frame on the wire (R54, R101): MAC addresses of 48 bits, a VLAN ID of 12, at most 1,522 bytes. -/
def Frame.wf (f : Frame) : Bool :=
  fits 48 f.dstMac && fits 48 f.srcMac && fits 12 f.vlanId && fits 16 f.appId && fits 128 f.dstAddr && fits 128 f.srcAddr && fits 16 f.udpPort
    && allFit 16 f.smpCnts && fits 8 f.smpSynch && fits 32 f.stNum && fits 32 f.sqNum && fits 32 f.tSec && fits 24 f.tFrac
    && allFit 32 f.quality && f.ext.all SecExt.wf && f.redSeq.all (fits 16) && decide (f.bytes.length ≤ 1522)

def PtpMsg.wf (m : PtpMsg) : Bool := fits 8 m.domain && fits 80 m.rxTs && decide (m.bytes.length ≤ 1522)

def IrigFrame.wf (f : IrigFrame) : Bool :=
  decide (f.second < 366 * 86400 + 1) && f.year.all (fun y => decide (1970 ≤ y ∧ y < 2 ^ 16)) && f.taiUtc.all (fits 16)

/-- A tree-node definition as its parameter block carries it (R165). -/
def NodeDef.wf (d : NodeDef) : Bool :=
  fits 32 d.index && d.parent.all (fits 32) && fits 32 d.rootBlob && fits 32 d.slice && fits 8 d.attr && fits 8 d.ktype && fits 32 d.kid && short d.label

/-- A library call: RSA values as long as a block of 65,536 bytes can carry, curve values of 384 bits (R207, R324). -/
def LibCall.wf : LibCall → Bool
  | .rsaVerify n x _ | .rsaPublic n x _ | .rsaSign n x _ => fits 524288 n && fits 524288 x
  | .ecdsaVerify _ r s x y _ => fits 384 r && fits 384 s && fits 384 x && fits 384 y
  | .ecdh _ x y _ _ => fits 384 x && fits 384 y
  | .ecdsaSign _ zeros _ => decide (zeros ≤ 5)

def GdoiIn.wf (m : GdoiIn) : Bool :=
  fits 32 m.group && fits 32 m.seq && m.kid.all (fits 32) && fits 8 m.ktype && fits 64 m.activate && short m.key && m.kek.all short
    && m.lib.all LibCall.wf

/-- A certificate: RSA values as long as a block of 65,536 bytes can carry, curve values of 384 bits (R207, R324). -/
def CertIn.wf (c : CertIn) : Bool :=
  fits 524288 c.n && fits 524288 c.e && fits 384 c.x && fits 384 c.y && fits 524288 c.sigR && fits 384 c.sigS && short c.tbs

/-- A transmit descriptor (R314). -/
def TxDescIn.wf (d : TxDescIn) : Bool := fits 64 d.addr && fits 16 d.len && fits 32 d.ctx && fits 32 d.tck && fits 32 d.tnk && fits 32 d.tag

def MirrorItem.wf : MirrorItem → Bool
  | .ctx index block => fits 18 index && short block
  | .ctxModify index _ _ _ _ _ rate => fits 18 index && fits 32 rate
  | .ctxRemove index => fits 18 index
  | .keyWords index nstate kidCur kidNext ovlEnd => fits 18 index && fits 2 nstate && fits 32 kidCur && fits 32 kidNext && fits 32 ovlEnd
  | .commitAt index tc ovlEnd => fits 18 index && fits 96 tc && fits 32 ovlEnd
  | .balDefine group pillow channels tolAbs tolRel persist balWait smpRate => allFit 32 [group, pillow, channels, tolAbs, tolRel, persist, balWait, smpRate]
  | .balRemove group => fits 32 group
  | .assign pillow entries => fits 4 pillow && pairsFit 32 entries
  | .drain pillow mask => fits 4 pillow && fits 16 mask
  | .giveBack pillow => fits 4 pillow
  | .durable q => fits 64 q
  | .final ivs seqs => pairsFit 64 ivs && pairsFit 16 seqs

def PubRecIn.wf (r : PubRecIn) : Bool :=
  fits 18 r.ctx && fits 32 r.first && fits 32 r.last && fits 64 r.iv && fits 16 r.seqNo && fits 256 r.digest

def BootEnv.wf (e : BootEnv) : Bool := fits 48 e.elapsedSec && decide (e.elapsedNs < 1000000000)

/-- Every header field fits its bytes (R194). -/
def FwImage.wf (m : FwImage) : Bool :=
  fits 32 m.magic && fits 16 m.version && fits 8 m.kind && fits 32 m.fwVer && fits 32 m.svn && fits 32 m.length && fits 8 m.keyIdx
    && fits 512 m.bodyDigest && fits 20736 m.pubKey && fits 37016 m.sig && m.rsvd.length == 44 && m.tail.length == 845

def RecoveryOutcome.wf : RecoveryOutcome → Bool
  | .image m => m.wf
  | .nandFail => true

def LiuWord.wf (w : LiuWord) : Bool := w.pub.all (fun e => fits 8192 e.2)

/-- The command can be sent: every operand fits what carries it. -/
def Instr.wf : Instr → Bool
  | .regWrite _ size addr _ => fits 32 size && fits 24 addr
  | .refusedRead _ size addr => fits 32 size && fits 24 addr
  | .blkStclr _ page _ => fits 12 page
  | .blkUnlk _ page _ => fits 12 page
  | .unlockLapse _ page => fits 12 page
  | .cfgCrcPass page => fits 12 page
  | .cfgholdTimeout page => fits 12 page
  | .frameArrival _ f => Frame.wf f
  | .frameLastByte _ len _ => fits 16 len
  | .dupEntryExpiry _ source number => fits 48 source && fits 16 number
  | .hsrPassThrough _ => true
  | .mgmtFrameReceive bytes => short bytes
  | .linkChange _ _ => true
  | .phySpeedReport _ _ => true
  | .pairModeChange _ _ _ => true
  | .frameDispatch _ => true
  | .streamLost ctx => fits 18 ctx
  | .epochEnd ctx => fits 18 ctx
  | .headWordWrite handle => fits 64 handle
  | .egressStart _ => true
  | .egressEnd _ => true
  | .ptpMessage _ m => PtpMsg.wf m
  | .irigbFrame f => IrigFrame.wf f
  | .ppsInEdge _ => true
  | .ppsOut => true
  | .sourceLoss _ => true
  | .holdoverExpiry => true
  | .timeSourceCompare => true
  | .ptpTnsRead _ => true
  | .ptpStepsecRead _ => true
  | .laneAdmission _ => true
  | .verify _ => true
  | .generate _ => true
  | .decrypt _ => true
  | .encrypt _ => true
  | .unwrap _ => true
  | .wrap _ slot key => fits 15 slot && fits 256 key
  | .derive _ => true
  | .kcv _ => true
  | .kmac _ slot x => fits 15 slot && short x
  | .hash3 _ x => short x
  | .laneSelftest _ => true
  | .serviceSelftestInsert _ => true
  | .laneSuspend _ => true
  | .laneResume _ => true
  | .servicePromotion _ id => fits 32 id
  | .laneResult _ => true
  | .laneFault _ _ _ => true
  | .laneFaultPoweroff _ => true
  | .laneSelftestDone _ _ _ => true
  | .cplSelftest _ _ _ => true
  | .cplInsvc _ _ _ => true
  | .firnNeed _ => true
  | .blobReadDone blob _ _ => fits 20 blob
  | .journalDurable => true
  | .scheduledCommit => true
  | .mmkRewrapDone => true
  | .bundleLoad sl b => Slot.wf sl && short b
  | .keyStage sl ctx ksrc kidx check overlap => Slot.wf sl && fits 32 ctx && fits 8 ksrc && fits 32 kidx && fits 64 check && fits 32 overlap
  | .keyCommit sl ctxs activate overlap => Slot.wf sl && allFit 32 ctxs && fits 64 activate && fits 32 overlap
  | .keyAbort sl ctx => Slot.wf sl && fits 32 ctx
  | .blobPin sl slice blob _ => Slot.wf sl && fits 32 slice && fits 32 blob
  | .nodeDefine sl d => Slot.wf sl && NodeDef.wf d
  | .kemGenerate sl => Slot.wf sl
  | .keyStatus sl ctx => Slot.wf sl && fits 32 ctx
  | .gdoiMap sl group kid ctxs overlap => Slot.wf sl && fits 32 group && fits 32 kid && allFit 32 ctxs && fits 32 overlap
  | .gdoiMsg sl m => Slot.wf sl && GdoiIn.wf m
  | .idRead sl => Slot.wf sl
  | .attest sl nonce => Slot.wf sl && short nonce
  | .svnAdvance sl target => Slot.wf sl && fits 32 target
  | .certCheck sl c => Slot.wf sl && CertIn.wf c
  | .ltuOperation _ input => short input
  | .ltuOperationDone iters _ => fits 32 iters
  | .setmod w => LiuWord.wf w
  | .montmul w => LiuWord.wf w
  | .modadd w => LiuWord.wf w
  | .modsub w => LiuWord.wf w
  | .tomont w => LiuWord.wf w
  | .frommont w => LiuWord.wf w
  | .mul w => LiuWord.wf w
  | .copy w => LiuWord.wf w
  | .zero w => LiuWord.wf w
  | .liuCmp w => LiuWord.wf w
  | .exppub w => LiuWord.wf w
  | .expsec w => LiuWord.wf w
  | .keyin w blob => LiuWord.wf w && fits 20 blob
  | .liuAbort => true
  | .liuSelftest => true
  | .liuCommandDone _ => true
  | .unitIdleGate _ => true
  | .cpIdleGate _ => true
  | .init ctx => fits 18 ctx
  | .bgItem _ => true
  | .balwaitExpiry group smpCnt => fits 32 group && fits 16 smpCnt
  | .fgLimit _ => true
  | .bgItemLimit _ => true
  | .spareRotation _ => true
  | .bobbinSelftestDone _ _ => true
  | .shadowCompare _ _ => true
  | .bobbinQuarantine _ _ => true
  | .sharedRamEcc _ offset => fits 20 offset
  | .ctxEcc ctx => fits 18 ctx
  | .contextMove ctx _ => fits 18 ctx
  | .storeDrain _ => true
  | .alu _ _ => true
  | .addi _ _ => true
  | .andi _ _ => true
  | .ori _ _ => true
  | .xori _ _ => true
  | .movhi _ _ => true
  | .movlo _ _ => true
  | .muldiv _ _ => true
  | .mac _ _ => true
  | .accrd _ _ => true
  | .accwr _ _ => true
  | .shift _ _ => true
  | .shifti _ _ => true
  | .bfx _ _ => true
  | .bfi _ _ => true
  | .clz _ _ => true
  | .perm _ _ => true
  | .ld _ _ => true
  | .st _ _ => true
  | .agset _ _ => true
  | .agget _ _ => true
  | .cmp _ _ => true
  | .cmpi _ _ => true
  | .br _ _ => true
  | .call _ _ => true
  | .jr _ _ => true
  | .ret _ _ => true
  | .eret _ _ => true
  | .exit _ _ => true
  | .trap _ _ => true
  | .bgpost _ => true
  | .flagpost _ => true
  | .time _ => true
  | .fence _ _ => true
  | .mfs _ _ => true
  | .mts _ _ => true
  | .frameGet _ _ => true
  | .laneReq _ _ => true
  | .verdictPut _ _ => true
  | .ctxLd _ _ => true
  | .ctxSt _ _ => true
  | .mac40 _ _ => true
  | .ldx _ _ => true
  | .stx _ _ => true
  | .crc16 _ _ => true
  | .swaph _ _ => true
  | .divstep _ _ => true
  | .pgmLoad sl img => Slot.wf sl && short img
  | .pgmAssign sl pillow entries fails => Slot.wf sl && fits 32 pillow && pairsFit 32 entries && allFit 32 fails
  | .pillowDrain sl pillow mask => Slot.wf sl && fits 32 pillow && fits 32 mask
  | .pillowReturn sl pillow => Slot.wf sl && fits 32 pillow
  | .bobbinRetest sl _ _ => Slot.wf sl
  | .pgmRemove sl pgmId pgmVer => Slot.wf sl && fits 32 pgmId && fits 32 pgmVer
  | .pillowStatus sl pillow => Slot.wf sl && fits 32 pillow
  | .cellDataEcc handle => fits 64 handle
  | .linkWordEcc _ => true
  | .poolRestartDone => true
  | .dramEccError _ _ => true
  | .dramTrainingDone _ _ => true
  | .fabricAccess _ addr _ len data => fits 36 addr && fits 11 len && short data
  | .fwlCommit _ _ => true
  | .fwlDrainEnd => true
  | .fwlVpop _ _ => true
  | .drfQsel _ _ => true
  | .dbTxtail _ _ => true
  | .dbRxtail _ _ => true
  | .dbCqhead _ _ => true
  | .sliceIrqDelay _ => true
  | .descriptorFetch _ d => TxDescIn.wf d
  | .txFrameReceived _ _ f => Frame.wf f
  | .hostReadError _ _ _ => true
  | .completionTimeout _ _ => true
  | .pcieFunctionReset _ => true
  | .pciePerst _ => true
  | .mbxCrtail _ _ other => (match other with | some (code, sl) => fits 8 code && Slot.wf sl | none => true)
  | .mbxCchead _ _ => true
  | .managerRingIndex _ _ _ => true
  | .sliceCreate sl block => Slot.wf sl && short block
  | .sliceQuiesce sl slice => Slot.wf sl && fits 32 slice
  | .sliceDrainComplete slice => fits 32 slice
  | .quiesceAbandon slice => fits 32 slice
  | .sliceResume sl slice => Slot.wf sl && fits 32 slice
  | .sliceReset sl block => Slot.wf sl && short block
  | .sliceRemove sl slice => Slot.wf sl && fits 32 slice
  | .sliceDirtylog sl slice _ wbase pages bmaddr => Slot.wf sl && fits 32 slice && fits 64 wbase && fits 32 pages && fits 64 bmaddr
  | .dirtyHarvest sl slice => Slot.wf sl && fits 32 slice
  | .sliceStatus sl slice => Slot.wf sl && fits 32 slice
  | .ctxCreate sl block => Slot.wf sl && short block
  | .ctxModify sl ctx _ _ _ _ _ declRate => Slot.wf sl && fits 32 ctx && fits 32 declRate
  | .ctxRemove sl ctx => Slot.wf sl && fits 32 ctx
  | .ctxRead sl ctx => Slot.wf sl && fits 32 ctx
  | .balDefine sl group pillow channels tolAbs tolRel persist balWait smpRate => Slot.wf sl && fits 32 group && fits 32 pillow && fits 32 channels && fits 32 tolAbs && fits 32 tolRel && fits 32 persist && fits 32 balWait && fits 32 smpRate
  | .balRemove sl group => Slot.wf sl && fits 32 group
  | .heartbeatSend => true
  | .heartbeatReceive _ _ mirrorSeq => fits 64 mirrorSeq
  | .heartbeatLoss => true
  | .pairSenseChange _ => true
  | .pairSenseFault => true
  | .mirrorRecord lag item => fits 64 lag && MirrorItem.wf item
  | .publishRecord r => PubRecIn.wf r
  | .holdbackExpiry handle => fits 64 handle
  | .brideAuthDone fingerprint _ => fits 256 fingerprint
  | .fullCopyApplied => true
  | .brideRekey => true
  | .brideBatch _ => true
  | .brideLaneChange _ _ => true
  | .keysplit ctx => fits 18 ctx
  | .recoveryWindowEnd => true
  | .pairBind sl fingerprint member pref => Slot.wf sl && fits 256 fingerprint && fits 32 member && fits 32 pref
  | .pairSwitch sl => Slot.wf sl
  | .pairLeave sl => Slot.wf sl
  | .pairForce sl => Slot.wf sl
  | .pairStatus sl => Slot.wf sl
  | .blkclr _ _ => true
  | .tamperDetect _ => true
  | .meshMeasurement _ _ => true
  | .meshSeedRefresh => true
  | .ceremonyOpen sl inner id block => Slot.wf sl && fits 32 inner && fits 32 id && short block
  | .ceremonyAuth sl token => Slot.wf sl && short token
  | .ceremonyExec sl id _ => Slot.wf sl && fits 32 id
  | .ceremonyCancel sl id => Slot.wf sl && fits 32 id
  | .ceremonyExpiry => true
  | .officerInit sl block => Slot.wf sl && short block
  | .lcStatus sl => Slot.wf sl
  | .lcField sl _ => Slot.wf sl
  | .debugLock sl => Slot.wf sl
  | .debugExpiry => true
  | .lcComplete sl _ => Slot.wf sl
  | .lcZeroise sl => Slot.wf sl
  | .lcMfg sl token target _ => Slot.wf sl && short token && fits 32 target
  | .certStore sl chain => Slot.wf sl && short chain
  | .transitionReset => true
  | .rngBlock _ block => block.length == 1024
  | .rngSourceRestarted _ => true
  | .rngGenerate => true
  | .rngReady => true
  | .rngRequest _ bytes => fits 32 bytes
  | .rngRequestTimeout _ => true
  | .dramKeyRetry _ => true
  | .rngTestRaw _ _ => true
  | .rngTestPattern _ => true
  | .rngTestOff _ => true
  | .rngRawRead _ _ => true
  | .moraineOffer code source payload => fits 32 code && fits 16 source && allFit 32 payload
  | .tokenRefill code => fits 32 code
  | .archiveRecord _ nandStatus => fits 32 nandStatus
  | .morRseq _ _ => true
  | .logRead sl first count _ => Slot.wf sl && fits 32 first && fits 32 count
  | .logCheck sl first last _ => Slot.wf sl && fits 32 first && fits 32 last
  | .logSeal sl first last _ => Slot.wf sl && fits 32 first && fits 32 last
  | .logLimit sl code rate burst => Slot.wf sl && fits 32 code && fits 32 rate && fits 32 burst
  | .resetN => true
  | .resetRelease env => BootEnv.wf env
  | .firmwareEntry => true
  | .hostAccessOpen ms => fits 64 ms
  | .portHoldRelease => true
  | .tempHold _ => true
  | .powerFailWarning => true
  | .clockFault _ _ => true
  | .clockFaultEnd _ => true
  | .recoveryGo _ _ => true
  | .recoveryDone o => RecoveryOutcome.wf o
  | .recoveryReset => true
  | .off _ _ _ => true
  | .on _ _ _ => true
  | .lpholdEnter _ => true
  | .lpholdExit _ => true
  | .pwcRequestDone _ => true
  | .stationLinkFrame _ => true
  | .siChange _ _ at_ => fits 64 at_
  | .stationLinkLoss => true
  | .soOverload _ => true
  | .stnOutWrite _ _ => true
  | .stnEvpop _ _ => true
  | .cryptoOkHealthTimeout => true
  | .captureRead sl pillow first count => Slot.wf sl && fits 32 pillow && fits 32 first && fits 32 count
  | .watchdogExpiry => true
  | .jtagAccess _ => true
  | .peerDelayRequest => true
  | .pcieLinkChange _ gen width _ => fits 3 gen && fits 5 width
  | .thermalWarning _ => true
  | .tamperSourceEvent _ _ => true
  | .tamperTempMeasurement _ => true
  | .vbatLowWarning mv => fits 12 mv

end Sys2Proof
end

