-- ==== Sys2Proof/Certificates/Slice0/Obligations.lean ====
section
/-! DEFINITION. Certificates/Slice0/Obligations.lean: the statements for the provers, from the numbered rules of the spec: each statement of
a command says where it completes and with what next state. -/
open Sys2Proof Sys2Proof.Machine

/-! ### Words that the statements share -/

/-- The writable words that only hold what is written: their effect on the module is read where it applies. -/
def Sys2Proof.Machine.plainWords : List Nat :=
  [0x1020, 0x1024, 0x1028, 0x1002C, 0x1102C, 0x1202C, 0x1302C, 0x20020, 0x20024, 0x40028, 0x4002C, 0x40100, 0x40104, 0x40108, 0x4F028, 0x4F108,
   0xB1020, 0xC0030, 0xC0040, 0xC0044, 0xD0020, 0x10003C, 0x110020, 0x110024, 0x120034, 0x120038, 0x12003C, 0x120044, 0x130020, 0x130038,
   0x140020, 0x140024, 0x140028, 0x14002C, 0x140030, 0x140034]

/-- The words outside the log's page read as before but for GLB_WERR and GLB_WERRCNT, and nothing but words, pages, messages and the log has
changed. -/
def Sys2Proof.Machine.OnlyRefused (s t : State) : Prop :=
  (∀ a, a ≠ 0x20 → a ≠ 0x24 → a / 0x1000 ≠ 0x100 → getReg t a = getReg s a)
    ∧ t = { s with regs := t.regs, pages := t.pages, msix := t.msix, mor := t.mor }

/-- The next request r of lane n is one of operation op and can start: its slot k holds x with the attribute that the operation requires. -/
def Sys2Proof.Machine.StartsWith (s : State) (n op : Nat) (r : LaneReq) (rest : List LaneReq) (k : Nat) (x : SlotSt) : Prop :=
  laneFree (getLane s n) = true ∧ nextReq (getLane s n).queue = some (r, rest) ∧ r.op = op ∧ r.slot = some k ∧ getSlot s k = some x
    ∧ attrOk op x = true

/-- Lane n runs request q, started now, its queue is rest, and nothing else of the module has changed but the lane's own state and, at most, its
count of key-schedule misses. -/
def Sys2Proof.Machine.Started (s t : State) (n : Nat) (q : LaneReq) (rest : List LaneReq) : Prop :=
  (getLane t n).running = some q ∧ q.started = true ∧ q.startAt = s.boot.now ∧ (getLane t n).queue = rest
    ∧ (∀ k, k ≠ n → getLane t k = getLane s k) ∧ t = { s with lanes := t.lanes, regs := t.regs }
    ∧ (t.regs = s.regs ∨ t.regs = (incReg s (cplReg n 0x38)).regs)

/-- Request r waits at the arbiter of pillow p behind what waited there, at position 32 and under the number due, and nothing else has changed. -/
def Sys2Proof.Machine.Issued (s t : State) (p : Nat) (r : LaneReq) : Prop :=
  (getPil t p).arb = { (getPil s p).arb with waiting := (getPil s p).arb.waiting ++ [(32, { r with id := s.pool.next })] }
    ∧ (∀ k, k ≠ p → getPil t k = getPil s k) ∧ t = { s with pool := { s.pool with next := s.pool.next + 1 }, pillows := t.pillows }

/-- No request of this operation, argument and slot heads the queue of lane n. -/
def Sys2Proof.Machine.HeadsNot (s : State) (n op : Nat) (arg : List Byte) (slot : Option Nat) : Prop :=
  ∀ q rest, nextReq (getLane s n).queue = some (q, rest) → ¬ (q.op = op ∧ q.arg = arg ∧ q.slot = slot)

/-- The mailbox command of a slot with this code runs: a slot waits, host access and the PCIe function are up, the module is not in the
low-power hold, and the life-cycle state allows the family (R324, R379, R422, R438). -/
def Sys2Proof.Machine.MbxRuns (s : State) (code : Nat) : Prop := mbxReady s = true ∧ s.pwc.lpHold = false ∧ lcBar s code = none

/-- The LTU with operation op running on these inputs; what its coefficient memory and its Keccak state hold is open. -/
def Sys2Proof.Machine.LtuRuns (x y : LtuSt) (op : LtuOp) (input : List Byte) (rnd : Option Nat) : Prop :=
  ∃ c k, y = { x with st := .busy, op := some op, input := input, rnd := rnd, coef := c, keccak := k }

/-- Command c of the LIU runs with these results to write and this comparison to show; nothing else changes. -/
def Sys2Proof.Machine.LiuRuns (s : State) (c : LiuCmd) (res : List (Nat × Nat)) (cmp : Option Nat) : Host.Outcome State Fault Refusal :=
  .next { s with liu := { s.liu with st := .busy, running := some c, res := res, resCmp := cmp } }

/-- The LIU takes a command at once: it is switched on and idle. -/
def Sys2Proof.Machine.LiuTakes (s : State) : Prop := s.pwc.liu = true ∧ s.liu.st = .idle

/-- The running level l of bobbin b reaches the decoding of its next word: no verdict is awaited, no fault is pending, and the fetch is permitted. -/
def Sys2Proof.Machine.Fetches (s : State) (b : Nat) (fg : Bool) (l : Level) : Prop :=
  activeFg (getBob s b) = some fg ∧ (getBob s b).level fg = l ∧ (getBob s b).stop = false ∧ (getBob s b).await = none ∧ l.pend = none
    ∧ accessFault s b (getBob s b) fg l.super .ex l.pc.toNat 4 = none

/-- The running level l of bobbin b can issue word w, which uses these registers: it fetches a word of an assigned MAJOR, the guard holds, and no
register used waits for a lane result. -/
def Sys2Proof.Machine.Issues (s : State) (b : Nat) (fg : Bool) (l : Level) (w : OpWord) (regs : List Nat) : Prop :=
  Fetches s b fg l ∧ majorCause (iramWord s b l.pc) = 0 ∧ l.guard w.guard.toNat w.n = true ∧ (∀ r, l.lres = some r → r ∉ regs)

/-- The instructions of word w on bobbin b whose every operand value is defined. -/
def Sys2Proof.Machine.plainRows (b : Fin 512) (w : OpWord) : List Instr :=
  [.addi b w, .andi b w, .ori b w, .xori b w, .br b w, .call b w]

/-- The other instructions of Pypian-2 of word w on bobbin b. -/
def Sys2Proof.Machine.checkedRows (b : Fin 512) (w : OpWord) : List Instr :=
  [.alu b w, .movhi b w, .movlo b w, .muldiv b w, .mac b w, .accrd b w, .accwr b w, .shift b w, .shifti b w, .bfx b w, .bfi b w, .clz b w, .perm b w,
    .ld b w, .st b w, .agset b w, .agget b w, .cmp b w, .cmpi b w, .jr b w, .ret b w, .eret b w, .exit b w, .trap b w, .fence b w, .mfs b w, .mts b w,
    .frameGet b w, .laneReq b w, .verdictPut b w, .ctxLd b w, .ctxSt b w]

/-- The scheduled run of bobbin b holds frame f of context c under handle h, and has not put its verdict (R272). -/
def Sys2Proof.Machine.Holds (s : State) (b h i : Nat) (f : FrameRec) (c : Ctx) : Prop :=
  (getBob s b).put = false ∧ (getBob s b).shadow = none ∧ (getBob s b).copy = none ∧ (getBob s b).frame = some h ∧ getFrame s h = some f
    ∧ f.ctx = some i ∧ getCtx s i = some c

/-- Bobbin b after VERDICT.PUT has issued at its foreground level. -/
def Sys2Proof.Machine.afterPut (s : State) (b : Nat) : State := modBob s b (fun x => { x with fg := x.fg.adv, put := true })

/-- The deliveries that a slice has begun and whose head word is not written. -/
def Sys2Proof.Machine.openDeliveries (s : State) (i : Nat) : Nat :=
  ((frameList s).filter (fun e => e.2.delivery.any (fun d => d.slice == i && !d.head))).length

/-- The fingerprints of member 0 and member 1, in this order (R331). -/
def Sys2Proof.Machine.fpsOf (s : State) : List Byte :=
  if s.pair.member = 0 then beBytes 32 (deviceFpr s) ++ beBytes 32 s.pair.partner else beBytes 32 s.pair.partner ++ beBytes 32 (deviceFpr s)

/-- Flurry has the bytes of every attempt at one signature: 32, and 32 more for each attempt that starts again, as often as the next open number
for it says (R189, R331). -/
def Sys2Proof.Machine.SignRandom (s : State) : Prop :=
  s.rng.st = .ready ∧ s.rng.waiting = [] ∧ 32 + 32 * Config.freeValue (s.freeCtr + 2) ≤ s.rng.qfill

/-- The image that the boot-preference word names, and the other one (R195). -/
def Sys2Proof.Machine.prefImage (s : State) : FwImage := if s.boot.prefSlot = 0 then s.boot.imageA else s.boot.imageB
def Sys2Proof.Machine.otherImage (s : State) : FwImage := if s.boot.prefSlot = 0 then s.boot.imageB else s.boot.imageA

/-- The copy of an image in DRAM has the digest of its body (R421). -/
def Sys2Proof.Machine.copyGood (env : BootEnv) (slot : Nat) : Bool := if slot = 0 then env.copyA else env.copyB

/-! ### The queue, the state at reset, stored words -/

/-- A step runs the command at the front of the queue on the state with the queue's rest. Clauses of it rest on choices of the model: log entry 11. -/
def Obligations.StepRunsFront : Prop :=
  ∀ (s : State) (c : Instr) (rest : List Instr), step { s with pending := c :: rest } = exec c { s with pending := rest }

/-- On an empty queue one nanosecond passes (the model's choice, log entry 2): in FREERUN the model's clock and the time unit's clock advance by 1 ns
and a 1PPS pulse lasts while its WIDTH does (R125); while nothing goes to a partner and no change of master key is under way, nothing else changes.
Clauses of it rest on choices of the model: log entry 2. -/
def Obligations.IdleStepIsOneNanosecond : Prop :=
  ∀ s : State, s.pending = [] → s.ptp.st = .freerun → s.ptp.ns < 999999999 → s.ptp.sec < 2 ^ 48 → brideSends s = false →
      s.firn.kstate ≠ .changing →
    step s = .next { s with
      boot := { s.boot with now := s.boot.now + 1 }
      ptp := { s.ptp with
        ns := s.ptp.ns + 1, ppsOut := s.ptp.ppsOut && decide (s.ptp.ns + 1 < fld (getReg s 0x12003C) 15 0 * 10000) } }

/-- No command adds, drops or reorders waiting commands: a step removes the command it ran and leaves the queue's rest as it stood, so a queue of
commands that can be sent stays one. Clauses of it rest on choices of the model: log entry 11. -/
def Obligations.StepKeepsQueueOrder : Prop :=
  ∀ s t : State, step s = .next t → t.pending = s.pending.tail ∧ (s.pending.all Instr.wf = true → t.pending.all Instr.wf = true)

/-- Every step keeps the memory in its one canonical form: addresses strictly rising, no entry equal to what an unlisted byte reads as. Clauses of it
rest on choices of the model: log entries 5 and 140. -/
def Obligations.StepKeepsMemoryCanonical : Prop :=
  ∀ s t : State, memWf s = true → step s = .next t → memWf t = true

/-- The state at reset meets the invariants of the two statements above. What reset leaves: every stored BAR0 word reads the value of its Reset column
(R15), every common word that of R40, no page has an event, an interrupt or an arming, the slices are FREE (R308), the PTP clock is FREERUN at time 0
(R132), the pool is empty (R289), and the module is held in reset (R419). Clauses of it rest on choices of the model: log entries 4 and 138. -/
def Obligations.ResetState : Prop :=
  (memWf State.reset = true ∧ State.reset.pending = [] ∧ State.reset.pending.all Instr.wf = true)
  ∧ ((∀ addr, getReg State.reset addr = regRst addr)
    ∧ (∀ p, (getPage State.reset p).seq = 0 ∧ (getPage State.reset p).stat = 0 ∧ (getPage State.reset p).irq = false
        ∧ (getPage State.reset p).ctrl = 4#32 ∧ (getPage State.reset p).armed .manager = false ∧ (getPage State.reset p).armed .cc = false
        ∧ (getPage State.reset p).cfgRef = cfgCrcOf p (fun o => regRst (regAddr p o)))
    ∧ (∀ i, (getSlice State.reset i).st = .free) ∧ State.reset.ptp.st = .freerun ∧ State.reset.ptp.sec = 0 ∧ State.reset.ptp.ns = 0
    ∧ State.reset.pool.free = 0x20000 ∧ State.reset.pool.txFree = 0x1000 ∧ State.reset.boot.inReset = true)

/-- A register word, a byte and a run of bytes read what was written there last, and every other word and byte as before. Clauses of it rest on
choices of the model: log entries 5 and 140. -/
def Obligations.ReadAfterWrite : Prop :=
  (∀ (s : State) (a b : Nat) (v : Word), getReg (setReg s a v) b = if b = a then v else getReg s b)
    ∧ (∀ (s : State) (a b : Nat) (v : Byte), readByte (writeByte s a v) b = if b = a then v else readByte s b)
    ∧ (∀ (s : State) (a : Nat) (bs : List Byte) (i : Nat) (h : i < bs.length), readByte (writeBytes s a bs) (a + i) = bs[i])
    ∧ (∀ (s : State) (a : Nat) (bs : List Byte) (b : Nat), b < a ∨ a + bs.length ≤ b → readByte (writeBytes s a bs) b = readByte s b)

/-! ### Register pages -/

/-- A write that no cause of R53 refuses stores its value under the writable bits of the word (R14), consumes the writer's arming of the page (R46),
and changes nothing else. A word that is read-only as a whole: a write that reaches it is discarded and is no refused access (R14, R53); the arming of
the page is consumed (R46), and nothing else changes. A write of PIL_ADMLIM, whose field is LK, with a new value that R16 allows is refused with cause
NOT_ARMED while its page is not armed, and changes no word but the refusal's and the log's (R46, R47, R53). Clauses of it rest on choices of the
model: log entries 12, 13, 136 and 137. -/
def Obligations.RegisterWrites : Prop :=
  (∀ (s : State) (by_ : Party) (addr : Nat) (v : Word) (d : RegDesc), addr ∈ plainWords → writeCause s by_ 4 addr v = 0 →
    regDesc (addr / 0x1000) (addr % 0x1000) = some d →
    exec (.regWrite by_ 4 addr v) s
      = .next (setReg (modPage s (addr / 0x1000) (fun g => g.setArmed by_ false)) addr (v &&& BitVec.ofNat 32 d.rw)))
  ∧ (∀ (s : State) (by_ : Party) (addr : Nat) (v : Word) (d : RegDesc), regDesc (addr / 0x1000) (addr % 0x1000) = some d → d.rw = 0 →
    addr < 0x1000000 → accessCause s by_ 4 addr = 0 →
    exec (.regWrite by_ 4 addr v) s = .next (modPage s (addr / 0x1000) (fun g => g.setArmed by_ false)))
  ∧ (∀ (s : State) (by_ : Party) (n : Nat) (v : Word), n < 16 → accessCause s by_ 4 (regAddr (0x40 + n) 0x100) = 0 → v.toNat < 2 ^ 18 →
    rsvdValue s (0x40 + n) 0x100 v = false → (getPage s (0x40 + n)).armed by_ = false →
    (getReg s (regAddr (0x40 + n) 0x100)).toNat < 2 ^ 18 → v ≠ getReg s (regAddr (0x40 + n) 0x100) →
    writeCause s by_ 4 (regAddr (0x40 + n) 0x100) v = 3
      ∧ ∃ t, exec (.regWrite by_ 4 (regAddr (0x40 + n) 0x100) v) s = .next t
          ∧ getReg t (regAddr (0x40 + n) 0x100) = getReg s (regAddr (0x40 + n) 0x100) ∧ OnlyRefused s t)

/-- A refused write or read (R53): WREFUSED of the page it falls in, GLB_WERRCNT, and the capture in GLB_WERR with WERRCAP where none is held, with
the first cause that applies; no other word but the log's changes, and nothing else of the module. A read of another size or alignment is refused with
cause 6, an aligned 64-bit read is two 32-bit reads in ascending order (R34), and a read that is carried out changes nothing. Clauses of it rest on
choices of the model: log entries 12, 13, 33 and 137. -/
def Obligations.RefusedAccessIsRecorded : Prop :=
  (∀ (s : State) (by_ : Party) (size addr : Nat) (v : Word), writeCause s by_ size addr v ≠ 0 →
    ∃ t, exec (.regWrite by_ size addr v) s = .next t
      ∧ ((pageBlock (addr / 0x1000)).isSome = true → bit (getPage t (addr / 0x1000)).stat 22 = true)
      ∧ getReg t 0x24 = satInc (getReg s 0x24)
      ∧ (bit (getPage s 0).stat 0 = false → getReg t 0x20 = werrWord by_ false addr (writeCause s by_ size addr v))
      ∧ bit (getPage t 0).stat 0 = true
      ∧ (bit (getPage s 0).stat 0 = true → getReg t 0x20 = getReg s 0x20) ∧ OnlyRefused s t)
  ∧ (∀ (s : State) (by_ : Party) (addr : Nat), accessCause s by_ 4 addr ≠ 0 → addr % 0x1000 ≠ 0 → addr % 4 = 0 →
    ∃ t, exec (.refusedRead by_ 4 addr) s = .next t ∧ barValue s by_ 4 addr = 0
      ∧ ((pageBlock (addr / 0x1000)).isSome = true → bit (getPage t (addr / 0x1000)).stat 22 = true)
      ∧ getReg t 0x24 = satInc (getReg s 0x24)
      ∧ (bit (getPage s 0).stat 0 = false → getReg t 0x20 = werrWord by_ true addr (accessCause s by_ 4 addr)) ∧ OnlyRefused s t)
  ∧ (∀ (s : State) (by_ : Party) (size addr : Nat), (size ≠ 4 ∨ addr % 4 ≠ 0) → (size ≠ 8 ∨ addr % 8 ≠ 0) →
    ∃ t, exec (.refusedRead by_ size addr) s = .next t ∧ getReg t 0x24 = satInc (getReg s 0x24)
      ∧ (bit (getPage s 0).stat 0 = false → getReg t 0x20 = werrWord by_ true addr 6) ∧ OnlyRefused s t)
  ∧ (∀ (s : State) (by_ : Party) (addr : Nat), addr % 8 = 0 →
    ∃ t, exec (.refusedRead by_ 4 addr) s = .next t ∧ exec (.refusedRead by_ 8 addr) s = exec (.refusedRead by_ 4 (addr + 4)) t)
  ∧ (∀ (s : State) (by_ : Party) (addr : Nat), accessCause s by_ 4 addr = 0 → exec (.refusedRead by_ 4 addr) s = .next s)

/-- R43: a write to BLK_STCLR with the SEQ of BLK_STAT clears every SQ bit set in its mask (23, 22, 20 and 15 to 0), except a state bit whose
condition lasts, and lowers the page's interrupt; any other clears nothing. It changes no SEQ, sets no status bit and writes no record; GLB_WERR holds
no capture once WERRCAP is cleared (R53), and every other word stays. -/
def Obligations.StatusClearNeedsMatchingSeq : Prop :=
  ∀ (s : State) (by_ : Party) (page : Nat) (v : Word), page < 0x1000 → accessCause s by_ 4 (regAddr page 0x0C) = 0 →
    ∃ t, exec (.blkStclr by_ page v) s = .next t
      ∧ (∀ b, b = 23 ∨ b = 22 ∨ b = 20 ∨ b ≤ 15 →
          bit (getPage t page).stat b
            = (bit (getPage s page).stat b
                && !(decide (fld v 31 24 = (getPage s page).seq) && bit v.toNat b && !bit (getPage s page).cond b)))
      ∧ bit (getPage t page).stat 21 = bit (getPage s page).stat 21
      ∧ (getPage t page).irq = ((getPage s page).irq && !decide (fld v 31 24 = (getPage s page).seq))
      ∧ (getPage t page).seq = (getPage s page).seq ∧ (getPage t page).cond = (getPage s page).cond
      ∧ (∀ q, q ≠ page → getPage t q = getPage s q) ∧ t = { s with pages := t.pages, regs := t.regs }
      ∧ getReg t 0x20 = (if bit (getPage s 0).stat 0 = true ∧ bit (getPage t 0).stat 0 = false then 0 else getReg s 0x20)
      ∧ (∀ a, a ≠ 0x20 → getReg t a = getReg s a)

/-- Arming (R46, R47): the key written to BLK_UNLK arms the page for the writer and any other value disarms it; an arming lapses; neither touches the
other party's arming, another page, or anything else. The end of a configuration pass (R49 to R52) on an existing page with configuration words whose
domain is on: BLK_CFGCRC is the CRC-32C of the words; with CFGHOLD nothing is compared; a mismatch sets CFGERR, and SAFE where SAFEEN is 1; a match
changes no status bit while the page does not wait to leave its safe state. The hold's time limit clears CFGHOLD and sets HOLDTO. Clauses of it rest
on choices of the model: log entry 34. -/
def Obligations.ArmingAndConfigurationChecks : Prop :=
  ((∀ (s : State) (by_ other : Party) (page : Nat) (v : Word), page < 0x1000 → accessCause s by_ 4 (regAddr page 0x10) = 0 → other ≠ by_ →
    ∃ t, exec (.blkUnlk by_ page v) s = .next t ∧ (getPage t page).armed by_ = (v == 0x9E3721D4#32)
      ∧ (getPage t page).armed other = (getPage s page).armed other ∧ (getPage t page).stat = (getPage s page).stat
      ∧ (∀ q, q ≠ page → getPage t q = getPage s q) ∧ t = { s with pages := t.pages })
  ∧ (∀ (s : State) (by_ other : Party) (page : Nat), other ≠ by_ →
    ∃ t, exec (.unlockLapse by_ page) s = .next t ∧ (getPage t page).armed by_ = false
      ∧ (getPage t page).armed other = (getPage s page).armed other ∧ (getPage t page).stat = (getPage s page).stat
      ∧ (∀ q, q ≠ page → getPage t q = getPage s q) ∧ t = { s with pages := t.pages }))
  ∧ ((∀ (s : State) (p : Nat), (pageBlock p).isSome = true → pageOn s p = true → (cfWords p).isEmpty = false →
    ∃ t, exec (.cfgCrcPass p) s = .next t
      ∧ (getPage t p).cfgCrc = cfgCrcOf p (fun o => wordAt s .cc p o) ∧ (getPage t p).cfgRef = (getPage s p).cfgRef
      ∧ ((getPage s p).hold = true → (getPage t p).stat = (getPage s p).stat ∧ (getPage t p).seq = (getPage s p).seq)
      ∧ ((getPage s p).hold = false → cfgCrcOf p (fun o => wordAt s .cc p o) ≠ (getPage s p).cfgRef →
          bit (getPage t p).stat 23 = true ∧ ((getPage s p).safeEn = true → bit (getPage t p).stat 21 = true))
      ∧ ((getPage s p).hold = false → cfgCrcOf p (fun o => wordAt s .cc p o) = (getPage s p).cfgRef → (getPage s p).leaving = false →
          (getPage t p).stat = (getPage s p).stat ∧ t = { s with pages := t.pages }))
  ∧ (∀ (s : State) (p : Nat), (pageBlock p).isSome = true → pageOn s p = true → (getPage s p).hold = true →
    ∃ t, exec (.cfgholdTimeout p) s = .next t ∧ (getPage t p).hold = false ∧ bit (getPage t p).stat 20 = true
      ∧ (getPage t p).seq = ((getPage s p).seq + 1) % 256 ∧ (∀ q, q ≠ p → getPage t q = getPage s q)
      ∧ t = { s with pages := t.pages, msix := t.msix }))

/-! ### Time, ports and frames -/

/-- The reads that latch (R132, R472): PTP_TNS latches the seconds of the instant, PTP_STEPSEC_0 the whole step log, and nothing else changes. The
changes of clock state that R119 gives: the last PTP port lost in LOCKED leads to HOLDOVER where no other source is valid, with the error then
estimated; IRIG-B lost in ACQUIRING before a first LOCKED leads to FREERUN; a loss of 1PPS with IRIG-B still valid keeps LOCKED on IRIG-B alone;
HOLDOVER ends in FREERUN with an unknown error. Each change of state sets STATECHG, and no byte of memory changes. Clauses of it rest on choices of
the model: log entries 74 and 76. -/
def Obligations.TimeUnit : Prop :=
  ((∀ (s : State) (by_ : Party), accessCause s by_ 4 0x120028 = 0 →
    exec (.ptpTnsRead by_) s = .next { s with ptp := { s.ptp with tsSec := s.ptp.sec } })
  ∧ (∀ (s : State) (by_ : Party), accessCause s by_ 4 0x121040 = 0 →
    exec (.ptpStepsecRead by_) s = .next { s with ptp := { s.ptp with snap := s.ptp.steps } }))
  ∧ ((∀ (s : State) (n : Fin 4), s.ptp.st = .locked → s.ptp.src = 1 → s.ptp.irigOk = false →
      bestPort (setAt s.ptp.ranks n none) (fld (ptpCfg s) 19 16) = none →
    ∃ t, exec (.sourceLoss (.ptp n)) s = .next t ∧ t.ptp.st = .holdover ∧ t.ptp.src = 0 ∧ t.ptp.ptpOk = false ∧ t.ptp.holdErr = s.ptp.estErr
      ∧ t.ptp.holdAt = s.boot.now ∧ t.ptp.sec = s.ptp.sec ∧ t.ptp.ns = s.ptp.ns ∧ bit (getPage t 0x120).stat 0 = true ∧ t.mem = s.mem)
  ∧ (∀ s : State, s.ptp.st = .acquiring → s.ptp.src = 3 → s.ptp.ptpOk = false → s.ptp.everLocked = false →
    ∃ t, exec (.sourceLoss .irig) s = .next t ∧ t.ptp.st = .freerun ∧ t.ptp.src = 0 ∧ t.ptp.irigOk = false ∧ t.ptp.estErr = 0xFFFFFF
      ∧ bit (getPage t 0x120).stat 0 = true ∧ t.mem = s.mem)
  ∧ (∀ s : State, s.ptp.st = .locked → s.ptp.src = 2 → ptpEn s = false → irigEn s = true → s.ptp.irigOk = true →
    ∃ t, exec (.sourceLoss .pps) s = .next t ∧ t.ptp.st = .locked ∧ t.ptp.src = 3 ∧ t.ptp.ppsOk = false ∧ t.mem = s.mem)
  ∧ (∀ s : State, s.ptp.st = .holdover → pageSafe s 0x120 = false →
    ∃ t, exec .holdoverExpiry s = .next t ∧ t.ptp.st = .freerun ∧ t.ptp.src = 0 ∧ t.ptp.estErr = 0xFFFFFF
      ∧ bit (getPage t 0x120).stat 0 = true ∧ t.mem = s.mem))

/-- 1PPS and IRIG-B (R121, R125, R126): 1PPS out rises only while enabled and LOCKED or in HOLDOVER; an edge of an enabled 1PPS input is held as valid
with its offset while no IRIG-B is valid; the first well-formed IRIG-B frame that names its year is held as valid with its offset while the unit is
LOCKED on PTP and 1PPS in is not enabled; a malformed one sets IRIGERR and starts the sequence anew; and PTP and IRIG-B that differ by more than 2 µs
set SRCFAIL while PTP is kept. PTP messages (R119, R122): an announce of the module's domain on a port that takes part sets the rank of the port and
the port in use; an update of the best port takes FREERUN to ACQUIRING; a completed peer-delay exchange is held; a message that needs an unsupported
option is discarded and counted, one of another domain changes nothing; and a peer-delay request is put on queue 1 of every port that takes part and
sends. Clauses of it rest on choices of the model: log entries 7, 74, 75, 142, 143, 144 and 160. -/
def Obligations.TimeInputs : Prop :=
  ((∀ s : State, exec .ppsOut s = .next { s with ptp := { s.ptp with
      ppsOut := fld (getReg s 0x120020) 8 8 == 1 && (s.ptp.st == .locked || s.ptp.st == .holdover) } })
  ∧ (∀ (s : State) (o : Int), fld (getReg s 0x120020) 10 10 = 1 → pageSafe s 0x120 = false → s.ptp.irigOk = false →
      ¬ (s.ptp.st = .locked ∧ s.ptp.src = 2 ∧ 1000000 < o.natAbs) →
    exec (.ppsInEdge o) s = .next { s with ptp := { s.ptp with ppsOk := true, ppsOffset := o, rejected := false } })
  ∧ (∀ (s : State) (f : IrigFrame), fld (getReg s 0x120020) 11 11 = 1 → pageSafe s 0x120 = false → s.ptp.substitute = false →
      f.wellFormed = true → s.ptp.irigPrev = none → f.year.isSome = true → fld (getReg s 0x120020) 10 10 = 0 → s.ptp.st = .locked → s.ptp.src = 1 →
    exec (.irigbFrame f) s = .next { s with ptp := { s.ptp with
      irigPrev := some (irigSecond s f), irigOk := true, irigOffset := irigTotal s f, rejected := false } })
  ∧ (∀ (s : State) (f : IrigFrame), fld (getReg s 0x120020) 11 11 = 1 → pageSafe s 0x120 = false → f.wellFormed = false →
    ∃ t, exec (.irigbFrame f) s = .next t ∧ bit (getPage t 0x120).stat 3 = true ∧ t.ptp = { s.ptp with irigPrev := none })
  ∧ (∀ s : State, s.ptp.st = .locked → s.ptp.src = 1 → fld (getReg s 0x120020) 11 11 = 1 → s.ptp.irigOk = true →
      s.ptp.rejected = false → 2000 < (s.ptp.irigOffset - s.ptp.ptpOffset).natAbs →
    ∃ t, exec .timeSourceCompare s = .next t ∧ bit (getPage t 0x120).stat 2 = true ∧ t.ptp = s.ptp))
  ∧ ((∀ (s : State) (n : Fin 4) (m : PtpMsg), (getPort s n).up = true → m.optionOk = true → pairMode s n = 0 → ptpEn s = true →
      bit (fld (ptpCfg s) 19 16) n = true → m.domain = fld (ptpCfg s) 31 24 → pageSafe s 0x120 = false → m.kind = .announce →
    exec (.ptpMessage n m) s = .next { s with ptp := { s.ptp with
      ranks := setAt s.ptp.ranks n (some m.rank)
      port := (bestPort (setAt s.ptp.ranks n (some m.rank)) (fld (ptpCfg s) 19 16)).getD s.ptp.port } })
  ∧ (∀ (s : State) (n : Fin 4) (m : PtpMsg) (o : Int), (getPort s n).up = true → m.optionOk = true → pairMode s n = 0 → ptpEn s = true →
      bit (fld (ptpCfg s) 19 16) n = true → m.domain = fld (ptpCfg s) 31 24 → pageSafe s 0x120 = false → s.ptp.substitute = false →
      m.kind = .followUp → m.offset = some o → bestPort s.ptp.ranks (fld (ptpCfg s) 19 16) = some n.val → s.ptp.st = .freerun →
    ∃ t, exec (.ptpMessage n m) s = .next t ∧ t.ptp.st = .acquiring ∧ t.ptp.src = 1 ∧ t.ptp.port = n ∧ t.ptp.ptpOk = true
      ∧ t.ptp.lastOffset = o ∧ t.mem = s.mem)
  ∧ (∀ (s : State) (n : Fin 4) (m : PtpMsg) (d : Nat), (getPort s n).up = true → m.optionOk = true → pairMode s n = 0 → ptpEn s = true →
      bit (fld (ptpCfg s) 19 16) n = true → m.domain = fld (ptpCfg s) 31 24 → pageSafe s 0x120 = false →
      (m.kind = .pdelayRespFollowUp ∨ m.kind = .pdelayResp) → m.delay = some d →
    exec (.ptpMessage n m) s = .next { s with ptp := { s.ptp with pdelay := setAt s.ptp.pdelay n (some (min d 0xFFFFFF)) } })
  ∧ (∀ (s : State) (n : Fin 4) (m : PtpMsg), m.optionOk = true → m.domain ≠ fld (ptpCfg s) 31 24 → exec (.ptpMessage n m) s = .next s)
  ∧ (∀ (s : State) (n : Fin 4) (m : PtpMsg), (getPort s n).up = true → m.optionOk = false →
    ∃ t, exec (.ptpMessage n m) s = .next t ∧ getReg t (pbpReg n 0x3C) = satInc (getReg s (pbpReg n 0x3C))
      ∧ bit (getPage t (0x10 + n)).stat 2 = true ∧ t.ptp = s.ptp ∧ t.ports = s.ports ∧ t.mem = s.mem)
  ∧ (∀ (s : State) (n : Nat), ptpEn s = true → n < 4 → bit (fld (ptpCfg s) 19 16) n = true → portSends s n = true →
    ∃ t h, exec .peerDelayRequest s = .next t ∧ (getPort t n).q1 = (getPort s n).q1 ++ [h] ∧ t.ptp = s.ptp ∧ t.mem = s.mem))

/-- A frame starts on a port that is up and idle (R54): the port holds it, in the form that the parser accepts it as (R101), with its ingress
timestamp, which on SGMII is less the receive latency of PBP_PHYLAT (R124), whatever becomes of it, and its queues stay. One outside 64 to 1,522 bytes
with its FCS is not classified (R100). A sampled-values frame whose lookup reaches a subscriber that admission takes is in the pool, waiting, with 12
cells; a miss is counted with MISS; a refusal of admission is counted in CTX_REFUSED and on the page of the pillow that the context is on, or moves to
(R58, R95, R233). The last byte (R95, R100) of a frame that is not in the pool: outside 64 to 1,522 bytes or with a bad FCS it is counted and leaves
reception. A good frame of an ENDPOINT pair is counted in PBP_RXGOOD, and an admitted one that waits for dispatch keeps only the cells it uses.
Clauses of it rest on choices of the model: log entries 7, 69, 120, 121 and 131. -/
def Obligations.FrameReception : Prop :=
  ((∀ (s : State) (n : Fin 4) (f : Frame), (getPort s n).up = true → (getPort s n).rxFrame = none →
    ∃ t, exec (.frameArrival n f) s = .next t ∧ (getPort t n).rxFrame = some (Frame.parsed f)
      ∧ (getPort t n).rxTs = ptpNow s - (if fld (getReg s (pbpReg n 0x20)) 2 0 = 4 then fld (getReg s (pbpReg n 0x2C)) 15 0 else 0)
      ∧ (getPort t n).q1 = (getPort s n).q1 ∧ (getPort t n).q2 = (getPort s n).q2 ∧ (getPort t n).q3 = (getPort s n).q3
      ∧ (∀ k, k ≠ n.val → getPort t k = getPort s k) ∧ t.mem = s.mem ∧ t.ptp = s.ptp)
  ∧ (∀ (s : State) (n : Fin 4) (f : Frame) (i : Nat) (c : Ctx), (getPort s n).up = true → (getPort s n).rxFrame = none → f.form = .sv →
      1 ≤ f.smpCnts.length → f.smpCnts.length ≤ 8 →
      60 ≤ f.bytes.length → f.bytes.length ≤ 1518 → f.hsrTagged = false → f.fragment = false → f.vlanTags ≤ 1 → pairMode s n = 0 →
      (keyOf (segmentOf s n) f).bind (lookup s) = some i → getCtx s i = some c → c.pubDir = false → admitRefusal s i c = none →
    ∃ t r, exec (.frameArrival n f) s = .next t ∧ (getPort t n).rx = .pool s.pool.next ∧ getFrame t s.pool.next = some r
      ∧ r.frame = f ∧ r.stage = .ready ∧ r.ctx = some i ∧ r.cells = 12 ∧ r.gate = 0
      ∧ r.ts = ptpNow s - (if fld (getReg s (pbpReg n 0x20)) 2 0 = 4 then fld (getReg s (pbpReg n 0x2C)) 15 0 else 0)
      ∧ t.pool.free = s.pool.free - 12 ∧ (getPil t (c.moving.getD c.home)).qcells = (getPil s (c.moving.getD c.home)).qcells + 12)
  ∧ (∀ (s : State) (n : Fin 4) (f : Frame), (getPort s n).up = true → (getPort s n).rxFrame = none → f.form = .sv →
      1 ≤ f.smpCnts.length → f.smpCnts.length ≤ 8 →
      60 ≤ f.bytes.length → f.bytes.length ≤ 1518 → f.hsrTagged = false → f.fragment = false → f.vlanTags ≤ 1 → pairMode s n = 0 → (keyOf (segmentOf s n) f).bind (lookup s) = none →
    ∃ t, exec (.frameArrival n f) s = .next t ∧ getReg t (regAddr 0x20 (0x30 + 4 * n)) = satInc (getReg s (regAddr 0x20 (0x30 + 4 * n)))
      ∧ bit (getPage t 0x20).stat 0 = true ∧ t.pool = s.pool)
  ∧ (∀ (s : State) (n : Fin 4) (f : Frame) (i k : Nat) (c : Ctx), (getPort s n).up = true → (getPort s n).rxFrame = none → f.form = .sv →
      1 ≤ f.smpCnts.length → f.smpCnts.length ≤ 8 →
      60 ≤ f.bytes.length → f.bytes.length ≤ 1518 → f.hsrTagged = false → f.fragment = false → f.vlanTags ≤ 1 → pairMode s n = 0 →
      (keyOf (segmentOf s n) f).bind (lookup s) = some i → getCtx s i = some c → admitRefusal s i c = some k →
    ∃ t, exec (.frameArrival n f) s = .next t ∧ getCtx t i = some (c.setWord 0x40 (satInc (c.word 0x40)))
      ∧ getReg t (regAddr (0x40 + c.moving.getD c.home) (0x110 + 4 * k))
          = satInc (getReg s (regAddr (0x40 + c.moving.getD c.home) (0x110 + 4 * k)))
      ∧ bit (getPage t (0x40 + c.moving.getD c.home)).stat k = true ∧ t.pool = s.pool)
  ∧ (∀ (s : State) (n : Fin 4) (f : Frame), (getPort s n).up = true → (getPort s n).rxFrame = none →
      (f.bytes.length + 4 < 64 ∨ 1522 < f.bytes.length + 4) →
    ∃ t, exec (.frameArrival n f) s = .next t ∧ (getPort t n).rx = .nowhere ∧ (getPort t n).rxFrame = some (Frame.parsed f)
      ∧ t.pool = s.pool ∧ t.regs = s.regs ∧ t.pages = s.pages ∧ t.ctxs = s.ctxs))
  ∧ ((∀ (s : State) (n : Fin 4) (len : Nat) (ok : Bool) (f : Frame), (getPort s n).rxFrame = some f → (getPort s n).rx = .nowhere →
      (len < 64 ∨ 1522 < len) →
    exec (.frameLastByte n len ok) s
      = .next (incReg (setPort s n { getPort s n with rx := .nowhere, rxFrame := none, rxPassed := false, rxCopy := none }) (pbpReg n 0x38)))
  ∧ (∀ (s : State) (n : Fin 4) (len : Nat) (f : Frame), (getPort s n).rxFrame = some f → (getPort s n).rx = .nowhere →
      (getPort s n).rxCopy = none → 64 ≤ len → len ≤ 1522 →
    ∃ t, exec (.frameLastByte n len false) s = .next t ∧ getReg t (pbpReg n 0x34) = satInc (getReg s (pbpReg n 0x34))
      ∧ bit (getPage t (0x10 + n)).stat 1 = true ∧ (getPort t n).rxFrame = none ∧ t.pool = s.pool ∧ t.mem = s.mem)
  ∧ (∀ (s : State) (n : Fin 4) (len h : Nat) (f : Frame) (r : FrameRec), (getPort s n).rxFrame = some f → (getPort s n).rx = .pool h →
      64 ≤ len → len ≤ 1522 → pairMode s n = 0 → getFrame s h = some r → r.stage = .ready →
    ∃ t, exec (.frameLastByte n len true) s = .next t ∧ getReg t (pbpReg n 0x30) = satInc (getReg s (pbpReg n 0x30))
      ∧ getFrame t h = some { r with cells := min r.cells (cellsFor len), rxDone := true } ∧ (getPort t n).rxFrame = none
      ∧ t.pool.free = s.pool.free + (r.cells - min r.cells (cellsFor len)) ∧ t.mem = s.mem))

/-- Redundancy (R108, R110): an expired duplicate entry leaves the pair's filter and nothing else changes; in HSR mode a frame of another source that
is no duplicate, and no PTP message of the transparent clock, is sent on from the other ring port on queue 1; one that has been sent on, that the
module itself sent, or that is a duplicate, is not; and the ring copy of a frame with a bad FCS is marked to end with an inverted one. Links (R99,
R122, R128, R130, R131): a receive report of an enabled port raises the link with the coding of PBP_CFG, and LINKCHG; a port that is held, disabled or
without its reference clock cannot come up, and what was announced on it counts no more; a fall of an idle port counts, with LINKCHG; on SGMII the
module follows the PHY's speed, and 10 Mb/s leaves the port down with SPDERR. A write of PBP_PAIRCFG that no cause refuses is held; one that keeps
MODE changes no other word, no port and no frame; one that changes MODE takes an idle port down, and counts it (R107, R130). Clauses of it rest on
choices of the model: log entries 35, 65, 67 and 130. -/
def Obligations.LinksAndPairsOfPorts : Prop :=
  ((∀ (s : State) (k : Fin 2) (mac q : Nat),
    ∃ t, exec (.dupEntryExpiry k mac q) s = .next t
      ∧ (getPairNet t k).filter = (getPairNet s k).filter.filter (fun e => !(e.mac == mac && e.seq == q))
      ∧ (getPairNet t k).seqNo = (getPairNet s k).seqNo ∧ (∀ j, j ≠ k.val → getPairNet t j = getPairNet s j)
      ∧ t = { s with pairNet := t.pairNet })
  ∧ (∀ (s : State) (n : Fin 4) (f : Frame), (getPort s n).rxFrame = some f → pairMode s n = 2 → (getPort s n).rxPassed = false →
      ownSource s f = false → dupSeen s n f = false → (f.form = .ptp → fld (pairCfg s n) 7 7 = 0) → portSends s (otherPort n) = true →
    ∃ t r, exec (.hsrPassThrough n) s = .next t ∧ (getPort t n).rxPassed = true ∧ (getPort t n).rxCopy = some s.pool.next
      ∧ (getPort t (otherPort n)).q1 = (getPort s (otherPort n)).q1 ++ [s.pool.next] ∧ t.pool.next = s.pool.next + 1
      ∧ getFrame t s.pool.next = some r ∧ r.frame = f ∧ r.egress = 2 ^ otherPort n ∧ t.mem = s.mem)
  ∧ (∀ (s : State) (n : Fin 4) (f : Frame), (getPort s n).rxFrame = some f →
      ((getPort s n).rxPassed = true ∨ ownSource s f = true ∨ dupSeen s n f = true) →
    exec (.hsrPassThrough n) s = .next s)
  ∧ (∀ (s : State) (n : Fin 4) (len h : Nat) (f : Frame) (r : FrameRec), (getPort s n).rxFrame = some f → (getPort s n).rx = .nowhere →
      (getPort s n).rxCopy = some h → getFrame s h = some r → 64 ≤ len → len ≤ 1522 →
    ∃ t, exec (.frameLastByte n len false) s = .next t ∧ getFrame t h = some { r with badFcs := true }
      ∧ getReg t (pbpReg n 0x34) = satInc (getReg s (pbpReg n 0x34)) ∧ t.mem = s.mem))
  ∧ ((∀ (s : State) (n : Fin 4) (r : LinkReport), r.up = true → portEnabled s n = true → (getPort s n).spdErr = false → (getPort s n).up = false →
    ∃ t, exec (.linkChange n r) s = .next t ∧ (getPort t n).up = true ∧ (getPort t n).speedAct = portSpeed s n ∧ (getPort t n).los = r.los
      ∧ bit (getPage t (0x10 + n)).stat 0 = true ∧ (∀ k, k ≠ n.val → getPort t k = getPort s k) ∧ t.mem = s.mem)
  ∧ (∀ (s : State) (n : Fin 4) (r : LinkReport), portEnabled s n = false → (getPort s n).up = false →
    ∃ t, exec (.linkChange n r) s = .next t ∧ (getPort t n).up = false ∧ (getPort t n).los = r.los
      ∧ t = { s with ports := t.ports, ptp := { s.ptp with ranks := setAt s.ptp.ranks n none } })
  ∧ (∀ (s : State) (n : Fin 4) (r : LinkReport), r.up = false → (getPort s n).up = true → (getPort s n).rxFrame = none →
      (getPort s n).rxCopy = none → (getPort s n).tx = none → (getPort s n).q1 = [] → (getPort s n).q2 = [] → (getPort s n).q3 = [] →
    ∃ t, exec (.linkChange n r) s = .next t ∧ (getPort t n).up = false ∧ (getPort t n).speedAct = 0
      ∧ getReg t (pbpReg n 0x4C) = satInc (getReg s (pbpReg n 0x4C)) ∧ bit (getPage t (0x10 + n)).stat 0 = true
      ∧ t.ptp = { s.ptp with ranks := setAt s.ptp.ranks n none } ∧ t.pool = s.pool ∧ t.mem = s.mem)
  ∧ (∀ (s : State) (n : Fin 4) (v : PhySpeed), portSpeed s n = 4 → v ≠ .m10 →
    ∃ t, exec (.phySpeedReport n v) s = .next t ∧ (getPort t n).phySpeed = (v == .m1000) ∧ (getPort t n).spdErr = false
      ∧ t = { s with ports := t.ports })
  ∧ (∀ (s : State) (n : Fin 4), portSpeed s n = 4 → (getPort s n).up = false →
    ∃ t, exec (.phySpeedReport n .m10) s = .next t ∧ (getPort t n).spdErr = true ∧ (getPort t n).up = false ∧ t.mem = s.mem))
  ∧ ((∀ (s : State) (by_ : Party) (k : Fin 2) (v : Word), writeCause s by_ 4 (pbpReg (2 * k) 0x24) v = 0 → fld v 1 0 = pairMode s (2 * k) →
    ∃ t, exec (.pairModeChange by_ k v) s = .next t ∧ getReg t (pbpReg (2 * k) 0x24) = v &&& 0x0FFF00E3#32 ∧ t.ports = s.ports
      ∧ t.pool = s.pool ∧ (∀ a, a ≠ pbpReg (2 * k) 0x24 → getReg t a = getReg s a))
  ∧ (∀ (s : State) (by_ : Party) (k : Fin 2) (v : Word), writeCause s by_ 4 (pbpReg (2 * k) 0x24) v = 0 → fld v 1 0 ≠ pairMode s (2 * k) →
      (getPort s (2 * k)).up = true → (getPort s (2 * k)).rxFrame = none → (getPort s (2 * k + 1)).rxFrame = none → s.pool.frames = [] →
      (getPort s (2 * k)).q1 = [] → (getPort s (2 * k)).q2 = [] → (getPort s (2 * k)).q3 = [] → (getPort s (2 * k)).tx = none →
      (getPort s (2 * k + 1)).up = false →
    ∃ t, exec (.pairModeChange by_ k v) s = .next t ∧ getReg t (pbpReg (2 * k) 0x24) = v &&& 0x0FFF00E3#32 ∧ (getPort t (2 * k)).up = false
      ∧ getReg t (pbpReg (2 * k) 0x4C) = satInc (getReg s (pbpReg (2 * k) 0x4C))))

/-- Egress (R115, R129, R282): a port that sends starts the first frame of its highest queue, which notes when it left (less the transmit latency of
PBP_PHYLAT on SGMII, R124), in the form that the port's pair gives it (R105); at its end the port counts it, is free and shows it, and the frame that
no other consumer holds leaves the pool; a port that does not send discards the frame and counts it with TXDROP. A frame of the management port goes
to manager ring 1 once host access is open (R127, R323); the supervision interval of a subscriber ends with LOST, nothing else of its words changed
(R67); and the end of a key epoch is noted once (R317). The head word is written after every payload write (R72, R73, R316): into the first 8 bytes of
the buffer, with LENGTH, the verdict, PFLAGS and the timestamp; then the completion entry of the slice, and the frame's cells are returned (R282).
Clauses of it rest on choices of the model: log entries 8, 9, 73, 121, 123 and 141. -/
def Obligations.EgressAndManagement : Prop :=
  ((∀ (s : State) (n : Fin 4) (h : Nat) (rest : List Nat) (f : FrameRec), (getPort s n).tx = none → (getPort s n).q1 = h :: rest →
      portSends s n = true → getFrame s h = some f → f.sent = none →
    ∃ t, exec (.egressStart n) s = .next t ∧ (getPort t n).tx = some h ∧ (getPort t n).q1 = rest ∧ (getPort t n).q2 = (getPort s n).q2
      ∧ (getPort t n).q3 = (getPort s n).q3 ∧ (getPort t n).txFrame = some (f.leaving s n)
      ∧ getFrame t h = some { f with sent := some (ptpNow s
          - (if fld (getReg s (pbpReg n 0x20)) 2 0 = 4 then fld (getReg s (pbpReg n 0x2C)) 31 16 else 0), n.val) } ∧ t.mem = s.mem)
  ∧ (∀ (s : State) (n : Fin 4) (h : Nat) (rest : List Nat), (getPort s n).tx = none → (getPort s n).q1 = [] → (getPort s n).q2 = h :: rest →
      portSends s n = true → getFrame s h = none →
    ∃ t, exec (.egressStart n) s = .next t ∧ (getPort t n).tx = some h ∧ (getPort t n).q2 = rest ∧ (getPort t n).q3 = (getPort s n).q3)
  ∧ (∀ (s : State) (n : Fin 4) (h : Nat) (rest : List Nat), (getPort s n).tx = none → (getPort s n).q1 = h :: rest →
      portSends s n = false → getFrame s h = none →
    ∃ t, exec (.egressStart n) s = .next t ∧ (getPort t n).tx = none ∧ (getPort t n).q1 = rest
      ∧ getReg t (pbpReg n 0x48) = satInc (getReg s (pbpReg n 0x48)) ∧ bit (getPage t (0x10 + n)).stat 4 = true)
  ∧ (∀ (s : State) (n : Fin 4) (h : Nat), (getPort s n).tx = some h → getFrame s h = none →
    exec (.egressEnd n) s = .next (incReg (setPort s n { getPort s n with
      tx := none, txFrame := none, lastOut := (getPort s n).txFrame.map (fun f => (f, false)) }) (pbpReg n 0x44)))
  ∧ (∀ (s : State) (n : Fin 4) (h : Nat) (f : FrameRec) (ts : Nat), (getPort s n).tx = some h → getFrame s h = some f → f.txDone = true →
      f.sent = some (ts, n.val) → f.egress = 2 ^ n.val → f.consumers = 1 → f.src = .port n.val → f.ctx = none → f.plain = false →
      f.bobbin = none →
    ∃ t, exec (.egressEnd n) s = .next t ∧ getFrame t h = none ∧ t.pool.free = s.pool.free + f.cells ∧ (getPort t n).tx = none
      ∧ (getPort t n).lastOut = (getPort s n).txFrame.map (fun g => (g, f.badFcs))
      ∧ getReg t (pbpReg n 0x44) = satInc (getReg s (pbpReg n 0x44)) ∧ t.mem = s.mem))
  ∧ ((∀ (s : State) (bs : List Byte), s.boot.access = .full → bit s.pwc.clkOk 0 = true → mrRuns s 1 = true → 0 < mrAvail s 1 → mrRuns s 4 = true → 0 < mrAvail s 4 →
      bs.length ≤ (getReg s (regAddr 0xC0 0x30)).toNat → s.hostIf.mgrArmed = false →
    ∃ t a, exec (.mgmtFrameReceive bs) s = .next t ∧ (getMring t 1).ix = ((getMring s 1).ix + 1) % 2 ^ mrLog s 1
      ∧ (getMring t 4).ix = ((getMring s 4).ix + 1) % 2 ^ mrLog s 4
      ∧ t.mem = (managerWrite (managerWrite s a bs) (mrBase s 4 + 16 * (getMring s 4).ix)
          (cqEntry (ptpNow s) (getMring s 4).phase 0 0 1 (Config.freeValue (s.freeCtr + 1) % 2 ^ 16) 0 0)).mem
      ∧ t = { s with mem := t.mem, hostIf := t.hostIf, freeCtr := t.freeCtr })
  ∧ (∀ (s : State) (i : Nat) (c : Ctx), getCtx s i = some c → c.pubDir = false → c.lost = false →
    ∃ t, exec (.streamLost i) s = .next t ∧ getCtx t i = some (c.setSeenLost c.seen true)
      ∧ (∀ j, j ≠ i → getCtx t j = getCtx s j) ∧ t.pool = s.pool)
  ∧ (∀ (s : State) (i : Nat) (c : Ctx), getCtx s i = some c → c.nstate = 3 → c.epochNoted = false →
      serialLt (ptpSec32 s) (c.word 0x14).toNat = false →
    ∃ t, exec (.epochEnd i) s = .next t ∧ getCtx t i = some { c with epochNoted := true }
      ∧ (∀ j, j ≠ i → getCtx t j = getCtx s j) ∧ t.pool = s.pool))
  ∧ (∀ (s : State) (h i : Nat) (f : FrameRec) (d : Delivery) (c : Ctx) (n : Nat), getFrame s h = some f → f.delivery = some d →
      f.stage = .verdict → f.egress = 0 → f.consumers = 1 → f.ctx = some i → getCtx s i = some c → c.removing = none → f.src = .port n →
      f.bobbin = none → deliveryTurn s h f = true → (getSlice s d.slice).writes = true →
      (d.addr + 8 ≤ (getSlice s d.slice).cqBase + 16 * (getSlice s d.slice).cqTail
        ∨ (getSlice s d.slice).cqBase + 16 * (getSlice s d.slice).cqTail + 16 ≤ d.addr) →
      d.addr < 2 ^ 64 → (getSlice s d.slice).cqBase + 16 * (getSlice s d.slice).cqTail < 2 ^ 64 →
    ∃ t, exec (.headWordWrite h) s = .next t
      ∧ readBytes t (hostKey (getSlice s d.slice).pasid d.addr) 8 = leBytes 8 (headWord f.frame.bytes.length f.verdict f.pflags f.ts)
      ∧ readBytes t (hostKey (getSlice s d.slice).pasid ((getSlice s d.slice).cqBase + 16 * (getSlice s d.slice).cqTail)) 16
          = cqEntry f.ts (getSlice s d.slice).phase 0 n i d.bufId f.verdict f.pflags
      ∧ (∀ a, (a < hostKey (getSlice s d.slice).pasid d.addr ∨ hostKey (getSlice s d.slice).pasid d.addr + 8 ≤ a) →
          (a < hostKey (getSlice s d.slice).pasid ((getSlice s d.slice).cqBase + 16 * (getSlice s d.slice).cqTail)
            ∨ hostKey (getSlice s d.slice).pasid ((getSlice s d.slice).cqBase + 16 * (getSlice s d.slice).cqTail) + 16 ≤ a) →
          readByte t a = readByte s a)
      ∧ (getSlice t d.slice).cqTail = ((getSlice s d.slice).cqTail + 1) % 2 ^ (getSlice s d.slice).cqLog
      ∧ (getSlice t d.slice).inFlight = (getSlice s d.slice).inFlight - 1 ∧ (getSlice t d.slice).cqResv = (getSlice s d.slice).cqResv - 1
      ∧ getFrame t h = none ∧ t.pool.free = s.pool.free + f.cells ∧ getCtx t i = some c)

/-- Dispatch of a subscriber's frame (R213, R218): the frame goes to a scheduled bobbin whose foreground level was free, which holds it at the entry
point RX of its context's image with the gates judged; every other frame and every context stays, and no byte of memory changes. While the module is
ZEROISED, or without a master key, the gate is NO_KEY (R70, R175). Priority at dispatch (R213): no dispatchable frame of the pillow is taken after a
HIGH one is passed over, nor is an earlier admission of the same class. No sampled-values frame is accepted twice (R63): after a frame has passed the
window of its context and its replay words are those that the check staged, the same counts fail with REPLAY. Clauses of it rest on choices of the
model: log entries 7, 16, 64, 127, 134, 135 and 147. -/
def Obligations.DispatchAndReplay : Prop :=
  (∀ (s : State) (p : Fin 16) (h i b e : Nat) (r : FrameRec) (c : Ctx) (m : Image), pillowRuns s p = true → nextFrame s p = some (h, r) →
      r.ctx = some i → s.pair.commitAt = [] → getCtx s i = some c → c.pubDir = false → nextBobbin s p r = some b →
      imageFor s p c.kind false = some m → m.rx = some e →
    (getBob s b).role = .scheduled ∧ (getBob s b).frame = none ∧
    ∃ t, exec (.frameDispatch p) s = .next t ∧ (getBob t b).frame = some h ∧ (getBob t b).put = false ∧ (getBob t b).tx = false
      ∧ (getBob t b).fg = entryLevel i r (codeBase s p m + e) false
      ∧ getFrame t h = some { r with
          gate := (subscriberGate s c r.frame r.ts).code, window := (subscriberGate s c r.frame r.ts).window,
          passCode := (subscriberGate s c r.frame r.ts).pass, ksel := (subscriberGate s c r.frame r.ts).ksel,
          rpl := (subscriberGate s c r.frame r.ts).rpl, stage := .running, bobbin := some b, laneStatus := none, given := [] }
      ∧ (∀ k, k ≠ h → getFrame t k = getFrame s k) ∧ (getPil t p).dispatched = (getPil s p).dispatched + 1
      ∧ t.mem = s.mem ∧ t.ctxs = s.ctxs
      ∧ ((s.tamper.zeroised = true ∨ s.firn.kstate = .nommk) → (subscriberGate s c r.frame r.ts).code = 0x23))
  ∧ (∀ (s : State) (p h k : Nat) (r q : FrameRec), nextFrame s p = some (h, r) → (k, q) ∈ frameList s → q.pillow = p → dispatchable s k q = true →
    (h, r) ∈ frameList s ∧ r.pillow = p ∧ dispatchable s h r = true ∧ (q.high = true → r.high = true) ∧ (q.high = r.high → r.order ≤ q.order))
  ∧ (∀ (c c' : Ctx) (counts : List Nat) (w0 w1 w2 : Word), (svReplay c c.reorder counts).fail = 0 →
    (svReplay c c.reorder counts).rpl = [w0, w1, w2] → 2 * counts.length ≤ c.modulus → c'.word 0x20 = w0 → c'.word 0x24 = w1 →
    c'.smpRate = c.smpRate → c'.seen = true → c'.lost = false → (svReplay c' c'.reorder counts).fail = 0x40)

/-! ### Cipher lanes, keys, LTU and LIU -/

/-- The frame operations (R139), started on a lane with a slot of the attribute that they need: the request of a VERIFY gets status 0 where the tag
found in the frame is the tag of its AAD and 1 where it is not; that of a GENERATE the tag to write; that of a DECRYPT the opened text to write where
the tag matches, and status 1 and nothing to write otherwise; that of an ENCRYPT the encrypted text and the tag over it to write. Clauses of it rest
on choices of the model: log entries 6, 18, 145 and 146. -/
def Obligations.FrameOperations : Prop :=
  (∀ (s : State) (n : Fin 32) (r : LaneReq) (rest : List LaneReq) (k : Nat) (x : SlotSt) (f : FrameRec) (c : Ctx),
      StartsWith s n 1 r rest k x → r.frame.bind (getFrame s) = some f → f.ctx.bind (getCtx s) = some c →
    ∃ t q, exec (.verify n) s = .next t ∧ Started s t n q rest ∧ q.out = []
      ∧ q.status = (if slice f.frame.bytes (bits (r.block.getD 3 0) 31 16) (tagLen c.alg)
          = beBytes (tagLen c.alg) (Config.mac c.alg x.key (if 4 ≤ c.alg then slice f.frame.bytes (bits (r.block.getD 3 0) 15 0) 12 else [])
              (slice f.frame.bytes (bits (r.block.getD 1 0) 31 16) (bits (r.block.getD 1 0) 15 0))) then 0 else 1))
  ∧ (∀ (s : State) (n : Fin 32) (r : LaneReq) (rest : List LaneReq) (k : Nat) (x : SlotSt) (f : FrameRec) (c : Ctx),
      StartsWith s n 2 r rest k x → r.frame.bind (getFrame s) = some f → f.ctx.bind (getCtx s) = some c →
    ∃ t q, exec (.generate n) s = .next t ∧ Started s t n q rest ∧ q.status = 0
      ∧ q.out = [(bits (r.block.getD 3 0) 31 16, beBytes (tagLen c.alg) (Config.mac c.alg x.key
          (if 4 ≤ c.alg then slice f.frame.bytes (bits (r.block.getD 3 0) 15 0) 12 else [])
          (slice f.frame.bytes (bits (r.block.getD 1 0) 31 16) (bits (r.block.getD 1 0) 15 0))))])
  ∧ (∀ (s : State) (n : Fin 32) (r : LaneReq) (rest : List LaneReq) (k : Nat) (x : SlotSt) (f : FrameRec) (c : Ctx),
      StartsWith s n 3 r rest k x → r.frame.bind (getFrame s) = some f → f.ctx.bind (getCtx s) = some c → c.alg = 6 →
    ∃ t q, exec (.decrypt n) s = .next t ∧ Started s t n q rest
      ∧ (if slice f.frame.bytes (bits (r.block.getD 3 0) 31 16) 16
            = beBytes 16 (Config.gcmTag x.key (slice f.frame.bytes (bits (r.block.getD 3 0) 15 0) 12)
                (slice f.frame.bytes (bits (r.block.getD 1 0) 31 16) (bits (r.block.getD 1 0) 15 0))
                (slice f.frame.bytes (bits (r.block.getD 2 0) 31 16) (bits (r.block.getD 2 0) 15 0)))
          then q.status = 0 ∧ q.out = [(bits (r.block.getD 2 0) 31 16, gcmCrypt x.key (slice f.frame.bytes (bits (r.block.getD 3 0) 15 0) 12)
                (slice f.frame.bytes (bits (r.block.getD 2 0) 31 16) (bits (r.block.getD 2 0) 15 0)))]
          else q.status = 1 ∧ q.out = []))
  ∧ (∀ (s : State) (n : Fin 32) (r : LaneReq) (rest : List LaneReq) (k : Nat) (x : SlotSt) (f : FrameRec) (c : Ctx),
      StartsWith s n 4 r rest k x → r.frame.bind (getFrame s) = some f → f.ctx.bind (getCtx s) = some c → c.alg = 6 →
    ∃ t q ct, exec (.encrypt n) s = .next t ∧ Started s t n q rest ∧ q.status = 0
      ∧ ct = gcmCrypt x.key (slice f.frame.bytes (bits (r.block.getD 3 0) 15 0) 12)
          (slice f.frame.bytes (bits (r.block.getD 2 0) 31 16) (bits (r.block.getD 2 0) 15 0))
      ∧ q.out = [(bits (r.block.getD 2 0) 31 16, ct), (bits (r.block.getD 3 0) 31 16, beBytes 16 (Config.gcmTag x.key
          (slice f.frame.bytes (bits (r.block.getD 3 0) 15 0) 12)
          (slice f.frame.bytes (bits (r.block.getD 1 0) 31 16) (bits (r.block.getD 1 0) 15 0)) ct))])

/-- The Firn-port operations that a lane takes from its queue (R136, R158, R162, R166): UNWRAP yields the key or UNWRAP_FAIL, DERIVE the node's key,
KCV the check value; the self-test starts without a key. A VERIFY whose slot's attribute is not VERIFY (1) gets KEY_ATTR and writes nothing (R138).
The control cluster's own operations (R136, R144): WRAP, KMAC and the hash are issued at position 32 of the arbiter of the lane's pillow, and start
once their request heads the lane's queue: WRAP under a WRAP key, KMAC under a derivation key, the hash without a key. Clauses of it rest on choices
of the model: log entries 6, 19 and 20. -/
def Obligations.PortOperations : Prop :=
  ((∀ (s : State) (n : Fin 32) (r : LaneReq) (rest : List LaneReq) (k : Nat) (x : SlotSt), StartsWith s n 8 r rest k x →
    ∃ t q, exec (.unwrap n) s = .next t ∧ Started s t n q rest
      ∧ (∀ key, Config.kwpUnwrap x.key r.arg = some key → q.status = 0 ∧ q.val = key)
      ∧ (Config.kwpUnwrap x.key r.arg = none → q.status = 5 ∧ q.val = 0))
  ∧ (∀ (s : State) (n : Fin 32) (r : LaneReq) (rest : List LaneReq) (k : Nat) (x : SlotSt), StartsWith s n 0xA r rest k x →
    ∃ t q, exec (.derive n) s = .next t ∧ Started s t n q rest ∧ q.status = 0 ∧ q.val = Config.kmac256 x.key r.arg 256 "KX2400 KDT")
  ∧ (∀ (s : State) (n : Fin 32) (r : LaneReq) (rest : List LaneReq) (k : Nat) (x : SlotSt), StartsWith s n 0xB r rest k x →
    ∃ t q, exec (.kcv n) s = .next t ∧ Started s t n q rest ∧ q.status = 0
      ∧ q.val = Config.kmac256 x.key (beBytes 4 x.kid ++ [b8 x.ktype, b8 x.attr]) 64 "KX5120 KCV" % 2 ^ 64)
  ∧ (∀ (s : State) (n : Fin 32) (r : LaneReq) (rest : List LaneReq), laneFree (getLane s n) = true →
      nextReq (getLane s n).queue = some (r, rest) → r.op = 0xE →
    ∃ t q, exec (.laneSelftest n) s = .next t ∧ Started s t n q rest ∧ q.op = 0xE)
  ∧ (∀ (s : State) (n : Fin 32) (r : LaneReq) (rest : List LaneReq) (k : Nat) (x : SlotSt), laneFree (getLane s n) = true →
      nextReq (getLane s n).queue = some (r, rest) → r.op = 1 → r.slot = some k → getSlot s k = some x → x.attr ≠ 1 →
    ∃ t q, exec (.verify n) s = .next t ∧ Started s t n q rest ∧ q.status = 3 ∧ q.out = []))
  ∧ ((∀ (s : State) (n : Fin 32) (k key : Nat), HeadsNot s n 9 (beBytes 32 key) (some k) →
    ∃ t, exec (.wrap n k key) s = .next t ∧ Issued s t (n / 2) (portReq 9 0 (some k) none none (beBytes 32 key) 0))
  ∧ (∀ (s : State) (n : Fin 32) (r : LaneReq) (rest : List LaneReq) (k key : Nat) (x : SlotSt), StartsWith s n 9 r rest k x →
      r.arg = beBytes 32 key → key < 2 ^ 256 →
    ∃ t q, exec (.wrap n k key) s = .next t ∧ Started s t n q rest ∧ q.status = 0 ∧ q.val = ofBe (Config.kwpWrap x.key key))
  ∧ (∀ (s : State) (n : Fin 32) (k : Nat) (bs : List Byte), HeadsNot s n 0xC bs (some k) →
    ∃ t, exec (.kmac n k bs) s = .next t ∧ Issued s t (n / 2) (portReq 0xC 0 (some k) none none bs 0))
  ∧ (∀ (s : State) (n : Fin 32) (r : LaneReq) (rest : List LaneReq) (k : Nat) (bs : List Byte) (x : SlotSt),
      StartsWith s n 0xC r rest k x → r.arg = bs →
    ∃ t q, exec (.kmac n k bs) s = .next t ∧ Started s t n q rest ∧ q.status = 0 ∧ q.val = Config.kmac256 x.key bs 256 "")
  ∧ (∀ (s : State) (n : Fin 32) (bs : List Byte), HeadsNot s n 0xD bs none →
    ∃ t, exec (.hash3 n bs) s = .next t ∧ Issued s t (n / 2) (portReq 0xD 0 none none none bs 0))
  ∧ (∀ (s : State) (n : Fin 32) (r : LaneReq) (rest : List LaneReq) (bs : List Byte), laneFree (getLane s n) = true →
      nextReq (getLane s n).queue = some (r, rest) → r.op = 0xD → r.arg = bs → r.slot = none →
    ∃ t q, exec (.hash3 n bs) s = .next t ∧ Started s t n q rest ∧ q.val = Config.sha3 bs))

/-- Admission (R144 to R146, R270): the winner of the rotating pointer, with its key resident, joins the queue of the lane that R145 chooses, where
that lane has room; the pointer moves past it; and a bobbin's instruction completes with its register waiting for the result. Between two lanes in
SERVICE whose key-schedule caches do not differ for the key, the one with less work is chosen, the even one of equals. Suspension (R147 to R149) and
the self-test that SERVICE inserts (R151): a running request of lower class with more than 32 cycles of work left gives way to one that waits, keeps
that work, and is counted; the last one suspended continues when nothing of higher class waits, after the 4 cycles that restore it; a SERVICE request
promoted at the head of the queue takes the class NORMAL, as do requests of its number behind it and at the pillow's arbiter; a SELFTEST request of
the SERVICE class joins the queue. Clauses of it rest on choices of the model: log entries 18 and 20. -/
def Obligations.LaneAdmissionAndSuspension : Prop :=
  ((∀ (s : State) (p : Fin 16) (pos : Nat) (r : LaneReq) (rest : List (Nat × LaneReq)), (getPil s p).arb.moved = [] →
      pillowServes s p = true → zeroisedNow s = false → arbWinner s (getPil s p).arb true = some (pos, r, rest) →
      laneRoom s (chooseLane s p (reqSlot s r)) = true →
    ∃ t, exec (.laneAdmission p) s = .next t
      ∧ (getLane t (chooseLane s p (reqSlot s r))).queue
          = (getLane s (chooseLane s p (reqSlot s r))).queue ++ [{ freshReq s r with slot := reqSlot s r, id := s.pool.next }]
      ∧ (getPil t p).arb = ⟨rest, [], (pos + 1) % 33⟩
      ∧ (∀ b h, r.bobbin = some b → r.frame = some h → (getBob s b).frame = some h →
          (getBob t b).fg = { ((getBob s b).fg) with lres := some r.rd }.adv))
  ∧ (∀ (s : State) (p : Nat) (slot : Option Nat), laneServes s (2 * p) = true → laneServes s (2 * p + 1) = true →
      laneCached s (2 * p) slot = laneCached s (2 * p + 1) slot →
      chooseLane s p slot = if laneWork s (2 * p) ≤ laneWork s (2 * p + 1) then 2 * p else 2 * p + 1))
  ∧ ((∀ (s : State) (n : Fin 32) (r : LaneReq), (getLane s n).running = some r → r.cls + 1 < topClass (getLane s n).queue →
      32 < r.remaining s → (getLane s n).susp.length < 2 →
    ∃ t, exec (.laneSuspend n) s = .next t ∧ (getLane t n).running = none
      ∧ (getLane t n).susp = { r with left := r.remaining s } :: (getLane s n).susp ∧ (getLane t n).queue = (getLane s n).queue
      ∧ getReg t (cplReg n 0x34) = satInc (getReg s (cplReg n 0x34)) ∧ t = { s with lanes := t.lanes, regs := t.regs })
  ∧ (∀ (s : State) (n : Fin 32) (r : LaneReq) (rest : List LaneReq), (getLane s n).running = none → (getLane s n).susp = r :: rest →
      topClass (getLane s n).queue ≤ r.cls + 1 →
    exec (.laneResume n) s = .next (setLane s n { getLane s n with running := some { r with restore := 4, startAt := s.boot.now }, susp := rest }))
  ∧ (∀ (s : State) (n : Fin 32) (id : Nat) (r : LaneReq) (rest : List LaneReq), (getLane s n).queue = r :: rest → r.id = id → r.cls = 0 →
    ∃ t, exec (.servicePromotion n id) s = .next t ∧ (getLane t n).queue = { r with cls := 1 } :: rest.map (LaneReq.promote id)
      ∧ (getLane t n).running = (getLane s n).running
      ∧ (getPil t (n / 2)).arb.waiting = (getPil s (n / 2)).arb.waiting.map (fun e => (e.1, e.2.promote id))
      ∧ t = { s with lanes := t.lanes, pillows := t.pillows })
  ∧ (∀ (s : State) (n : Fin 32), (getLane s n).st = .service → (getLane s n).depth < 64 →
    ∃ t q, exec (.serviceSelftestInsert n) s = .next t ∧ (getLane t n).queue = (getLane s n).queue ++ [q] ∧ q.op = 0xE ∧ q.cls = 0
      ∧ t.pool = { s.pool with next := s.pool.next + 1 } ∧ t = { s with lanes := t.lanes, pool := t.pool }))

/-- A result (R140, R153): a bobbin's request ends with its STATUS in LRES and bound to the frame; what a request of status 0 writes is in the frame's
bytes; the lane runs nothing and counts the request, and one of status 1 in its count of mismatches too. Other frames keep all they hold, and memory
is as before. Lane faults and self-tests (R151, R152, R155): a fault of a lane that runs nothing, outside a takeover's window and with the pillow's
other lane in SERVICE, empties the lane and sets FAULT, and its requests move to the other lane in their order, as before their start, as far as its
queue has room; a fault that no self-test has followed switches the lane off; a passed self-test leads to SERVICE where INSVC is set and the page is
not in its safe state, to DRAINING otherwise; a failed one leads to FAULT with the engine and the cause. CPL_CTRL (R151, R155): a self-test asked of a
lane in FAULT begins; clearing INSVC of an idle lane in SERVICE drains it, with DRAINED; setting it outside the safe state returns a lane that drains
to SERVICE. The other lanes and memory are as before. Clauses of it rest on choices of the model: log entry 3. -/
def Obligations.LaneResultsFaultsAndControl : Prop :=
  ((∀ (s : State) (n : Fin 32) (r : LaneReq) (b h rd : Nat) (f : FrameRec), (getLane s n).running = some r → (getLane s n).st = .service →
      (getPil s (n / 2)).arb.moved = [] → r.bobbin = some b → r.frame = some h → r.rest = 0 → getFrame s h = some f → f.bobbin = some b →
      (getBob s b).frame = some h → (getBob s b).fg.lres = some rd →
    ∃ t f', exec (.laneResult n) s = .next t ∧ (getLane t n).running = none ∧ getFrame t h = some f' ∧ f'.laneStatus = some r.status
      ∧ f'.lanePending = false
      ∧ f'.frame.bytes = (if r.status = 0 then r.out.foldl (fun a e => patch a e.1 e.2) f.frame.bytes else f.frame.bytes)
      ∧ (getBob t b).fg = { ((getBob s b).fg) with lres := none }.setReg rd (w32 (lresWord r.status n))
      ∧ getReg t (cplReg n 0x2C) = satInc (getReg s (cplReg n 0x2C))
      ∧ getReg t (cplReg n 0x30) = (if r.status = 1 then satInc (getReg s (cplReg n 0x30)) else getReg s (cplReg n 0x30))
      ∧ (∀ k, k ≠ h → getFrame t k = getFrame s k) ∧ t.mem = s.mem))
  ∧ ((∀ (s : State) (n : Fin 32) (e : Fin 8) (cause : Fin 4), (getLane s n).st = .service → (getLane s n).running = none → s.pair.recov = false →
      laneServes s (if n.val % 2 = 0 then n + 1 else n - 1) = true → (getPil s (n / 2)).arb.moved = [] →
    ∃ t, exec (.laneFault n e cause) s = .next t ∧ (getLane t n).st = .fault ∧ (getLane t n).depth = 0 ∧ (getLane t n).cache = []
      ∧ (getLane t n).faultWord = pack [(e.val, 4), (cause.val, 0)] ∧ bit (getPage t (0x60 + n)).stat 0 = true
      ∧ (getLane t (if n.val % 2 = 0 then n + 1 else n - 1)).queue
          = (getLane s (if n.val % 2 = 0 then n + 1 else n - 1)).queue
              ++ ((getLane s n).inOrder.map (fun r => freshReq s r.again)).take (64 - (getLane s (if n.val % 2 = 0 then n + 1 else n - 1)).depth)
      ∧ t.mem = s.mem)
  ∧ (∀ (s : State) (n : Fin 32), (getLane s n).st = .fault → (getLane s n).offDue = true → bit s.pwc.lane n = true →
    ∃ t, exec (.laneFaultPoweroff n) s = .next t ∧ (getLane t n).st = .off ∧ bit t.pwc.lane n = false ∧ t.mem = s.mem)
  ∧ (∀ (s : State) (n : Fin 32) (e : Fin 8), (getLane s n).st = .selftest → laneWanted s n = true → (getPil s (n / 2)).arb.moved = [] →
    ∃ t, exec (.laneSelftestDone n true e) s = .next t ∧ (getLane t n).st = .service ∧ t.mem = s.mem)
  ∧ (∀ (s : State) (n : Fin 32) (e : Fin 8), (getLane s n).st = .selftest → laneWanted s n = false → (getLane s n).depth = 0 →
      (getLane s n).stDue = false →
    ∃ t, exec (.laneSelftestDone n true e) s = .next t ∧ (getLane t n).st = .draining ∧ bit (getPage t (0x60 + n)).stat 2 = true)
  ∧ (∀ (s : State) (n : Fin 32) (e : Fin 8), (getLane s n).st = .selftest → s.pair.recov = false →
      laneServes s (if n.val % 2 = 0 then n + 1 else n - 1) = true →
    ∃ t, exec (.laneSelftestDone n false e) s = .next t ∧ (getLane t n).st = .fault ∧ (getLane t n).depth = 0
      ∧ (getLane t n).faultWord = pack [(e.val, 4), (1, 0)] ∧ bit (getPage t (0x60 + n)).stat 0 = true))
  ∧ ((∀ (s : State) (by_ : Party) (n : Fin 32) (on : Bool), writeCause s by_ 4 (cplReg n 0x20) (cplCtrlWord true on) = 0 →
      (getLane s n).st = .fault →
    ∃ t, exec (.cplSelftest by_ n on) s = .next t ∧ (getLane t n).st = .selftest ∧ getReg t (cplReg n 0x20) = cplCtrlWord false on
      ∧ (∀ m, m ≠ n.val → getLane t m = getLane s m) ∧ t.mem = s.mem)
  ∧ (∀ (s : State) (by_ : Party) (n : Fin 32), writeCause s by_ 4 (cplReg n 0x20) (cplCtrlWord false false) = 0 →
      (getLane s n).st = .service → (getLane s n).depth = 0 → (getLane s n).stDue = false →
    ∃ t, exec (.cplInsvc by_ n false) s = .next t ∧ (getLane t n).st = .draining ∧ bit (getPage t (0x60 + n)).stat 2 = true
      ∧ getReg t (cplReg n 0x20) = cplCtrlWord false false ∧ (∀ m, m ≠ n.val → getLane t m = getLane s m) ∧ t.mem = s.mem)
  ∧ (∀ (s : State) (by_ : Party) (n : Fin 32), writeCause s by_ 4 (cplReg n 0x20) (cplCtrlWord false true) = 0 →
      (getLane s n).st = .draining → (getLane s n).stDue = false → pageSafe s (0x60 + n) = false → (getPil s (n / 2)).arb.moved = [] →
    ∃ t, exec (.cplInsvc by_ n true) s = .next t ∧ (getLane t n).st = .service ∧ (getLane t n).queue = (getLane s n).queue
      ∧ (∀ m, m ≠ n.val → getLane t m = getLane s m) ∧ t.mem = s.mem))

/-- A mailbox command without result bytes and durable changes ends with its completion entry at the ring's producer index, where the ring is enabled
and no vector is armed (R324); one that has durable changes ends with the journal record that carries the completion (R172). The journal (R172, R174):
the oldest record alone becomes durable and its changes are what NAND holds; on a module that is no STANDBY the completion that it carries is posted
then, where it waits for no partner; the record of a CEREMONY_EXEC returns the ceremony to IDLE with it. Clauses of it rest on choices of the model:
log entries 8, 147 and 154. -/
def Obligations.CompletionsAndJournal : Prop :=
  ((∀ (s : State) (sl : Slot) (code st : Nat) (res : Nat), fld (mbxCtrl s) 31 31 = 1 → sl.tag < 2 ^ 16 → s.hostIf.mbxArmed = false →
    ∃ t, t = mbxFinish s sl code { MbxRes.ok res with status := st }
      ∧ t.mem = (managerWrite s ((getReg s (regAddr 0x140 0x28)).toNat + 2 ^ 32 * (getReg s (regAddr 0x140 0x2C)).toNat + 16 * s.hostIf.ccTail)
          (leBytes 2 sl.tag ++ [b8 code, b8 st] ++ leBytes 4 0 ++ leBytes 4 res ++ leBytes 4 (bnat s.hostIf.ccPhase * 2 ^ 31))).mem
      ∧ t.hostIf = { s.hostIf with ccTail := (s.hostIf.ccTail + 1) % mbxSize s
                                   ccPhase := if (s.hostIf.ccTail + 1) % mbxSize s = 0 then !s.hostIf.ccPhase else s.hostIf.ccPhase }
      ∧ t = { s with mem := t.mem, hostIf := t.hostIf })
  ∧ (∀ (s : State) (sl : Slot) (code : Nat) (it : JItem) (l : List JItem), mbxFinish s sl code (MbxRes.durable (it :: l))
      = { s with journal := s.journal ++ [⟨it :: l, some ⟨sl, code, 0, 0, 0⟩, none, 0, 0⟩] }))
  ∧ ((∀ (s : State) (r : JRec) (rest : List JRec), s.journal = r :: rest → r.removed = none → r.done = none →
    ∃ t, exec .journalDurable s = .next t ∧ t.journal = rest ∧ t.durable = r.items.foldl applyItem s.durable ∧ t.firn = s.firn
      ∧ t.mem = s.mem ∧ t.slices = s.slices)
  ∧ (∀ (s : State) (r : JRec) (rest : List JRec) (d : MbxDone), s.journal = r :: rest → r.removed = none → r.done = some d →
      s.pair.st ≠ .standby → r.ack ≤ s.pair.acked → (d.code = 0x82 → s.tamper.cer ≠ .exec) →
    ∃ u, exec .journalDurable s = .next (mbxPost u d) ∧ u.journal = rest ∧ u.durable = r.items.foldl applyItem s.durable ∧ u.firn = s.firn
      ∧ u.hostIf = s.hostIf ∧ u.mem = s.mem)
  ∧ (∀ (s : State) (r : JRec) (d : MbxDone), s.journal = [r] → r.removed = none → r.done = some d → s.pair.st ≠ .standby →
      r.ack ≤ s.pair.acked → d.code = 0x82 → s.tamper.cer = .exec → s.tamper.cerSlot = none →
    ∃ u, exec .journalDurable s = .next (mbxPost u d) ∧ u.journal = [] ∧ u.durable = r.items.foldl applyItem s.durable
      ∧ u.tamper.cer = .idle ∧ u.tamper.cerBlock = [] ∧ u.firn.comps = [] ∧ u.tamper.officers = s.tamper.officers))

/-- A need for a key (R162, R163), a master key being there: a request whose blob is not resident leaves the arbiter and waits; the need of a blob
already being loaded is merged into it and counted, the class the higher of the two and, for needs of one moment, the lowest pillow the one that
issues; when the blob's read returns, the UNWRAP is issued at position 32 of that pillow, once, and counted. A commit (R69, R169) of a subscriber with
a current key: the next key becomes the current one, the old one PREVIOUS with its identifier and the end of its overlap, and GEN advances; a
scheduled commit that has come due commits a READY context of which no frame holds a bobbin, and leaves the schedule. The change of master key ends
(R176): the STAGED record is the ACTIVE one, the other record is zeroed, the components are gone, every blob is wrapped under the new master key, and
KSTATE is ACTIVE with KSTATECHG. Clauses of it rest on choices of the model: log entries 19, 40, 41, 42, 43 and 150. -/
def Obligations.KeyNeedsAndCommits : Prop :=
  ((∀ (s : State) (p : Fin 16) (pos : Fin 33) (r : LaneReq) (rest : List (Nat × LaneReq)) (i : Nat) (b : Blob),
      (getPil s p).arb.waiting = (pos.val, r) :: rest → r.key = some (.blob i) → resident s (.blob i) = none → getBlob s i = some b →
      b.bad = false → s.firn.kstate ≠ .nommk → s.firn.needs = [] →
    ∃ t, exec (.firnNeed (.request p pos)) s = .next t
      ∧ t.firn = { s.firn with needs := [⟨.blob i, r.cls, [p.val], p.val, s.boot.now, [(pos.val, r)], [], false⟩] }
      ∧ (getPil t p).arb = { (getPil s p).arb with waiting := rest } ∧ (∀ k, k ≠ p.val → getPil t k = getPil s k)
      ∧ t = { s with firn := t.firn, pillows := t.pillows })
  ∧ (∀ (s : State) (p : Fin 16) (pos : Fin 33) (r : LaneReq) (rest : List (Nat × LaneReq)) (i : Nat) (b : Blob) (n : Need),
      (getPil s p).arb.waiting = (pos.val, r) :: rest → r.key = some (.blob i) → resident s (.blob i) = none → getBlob s i = some b →
      b.bad = false → s.firn.kstate ≠ .nommk → s.firn.needs = [n] → n.key = .blob i →
    ∃ t, exec (.firnNeed (.request p pos)) s = .next t
      ∧ t.firn.needs = [{ n with
          cls := max n.cls r.cls, pillows := insertNat p n.pillows
          via := if n.since = s.boot.now ∧ n.issued = false then min n.via p else n.via
          waiters := n.waiters ++ [(pos.val, r)] }]
      ∧ getReg t (regAddr 0x80 0x2C) = satInc (getReg s (regAddr 0x80 0x2C)) ∧ t.mem = s.mem)
  ∧ (∀ (s : State) (i : Nat) (b : Blob) (n : Need), s.firn.needs = [n] → n.key = .blob i → n.issued = false → getBlob s i = some b →
    ∃ t, exec (.blobReadDone i true true) s = .next t ∧ t.firn.needs = [{ n with issued := true }]
      ∧ (getPil t n.via).arb.waiting = (getPil s n.via).arb.waiting
          ++ [(32, { portReq 8 n.cls (resident s (.wk b.slice b.attr)) (some (.blob i)) none b.wrapped 0 with id := s.pool.next })]
      ∧ getReg t (regAddr 0x80 0x28) = satInc (getReg s (regAddr 0x80 0x28)) ∧ t.mem = s.mem))
  ∧ ((∀ (c : Ctx) (o : Nat), c.words.length = 24 → c.noKey = false → c.nstate = 2 → c.pubDir = false → o < 2 ^ 32 →
    ((c.commit o).word 0x04).toNat = fld (c.word 0x08) 31 31 * 2 ^ 31 + fld (c.word 0x08) 19 0 ∧ (c.commit o).nstate = 3
      ∧ fld ((c.commit o).word 0x08) 19 0 = fld (c.word 0x04) 19 0 ∧ (c.commit o).word 0x0C = c.word 0x10
      ∧ (c.commit o).word 0x10 = c.word 0x0C ∧ (c.commit o).word 0x14 = w32 o ∧ (c.commit o).gen = (c.gen + 1) % 2 ^ 16
      ∧ (c.commit o).word 0 = c.word 0 ∧ (∀ k, 6 ≤ k → k < 23 → (c.commit o).words[k]? = c.words[k]?))
  ∧ (∀ (s : State) (e : SchedEntry) (i : Nat) (c : Ctx), s.firn.schedule = [e] → e.activate ≤ s.ptp.sec → e.targets = [i] →
      getCtx s i = some c → c.nstate = 2 → c.commitWaits = false → ctxRunning s i = false →
    ∃ t, exec .scheduledCommit s = .next t ∧ getCtx t i = some (c.commit ((ptpSec32 s + e.overlap.getD c.overlap) % 2 ^ 32))
      ∧ t.firn.schedule = [] ∧ (∀ j, j ≠ i → getCtx t j = getCtx s j)))
  ∧ (∀ s : State, s.firn.kstate = .changing → s.firn.recA.staged = true → s.tamper.cer ≠ .exec →
    ∃ t, exec .mmkRewrapDone s = .next t ∧ t.firn.kstate = .active ∧ t.firn.recA = MmkRec.withCrc { s.firn.recA with state := 0xA5 }
      ∧ t.firn.recB = .empty
      ∧ (∀ o, activeRec s.firn = some o → ∀ i, getBlob t i = (getBlob s i).map (rewrapBlob s o.mmk s.firn.recA.mmk))
      ∧ t.firn.comps = [] ∧ t.lc.keyed = true ∧ bit (getPage t 0x80).stat 2 = true ∧ t.mem = s.mem
      ∧ t.ctxs = s.ctxs)

/-- Staging, committing and aborting by command (R168, R169), for a context of which no frame holds a bobbin and no other key command is in progress:
KEY_STAGE makes a context without a next key PENDING with the key named, which is not resident, and waits for its load; KEY_COMMIT with ACTIVATE 0 on
a module without a partner commits a READY context; KEY_ABORT returns one that is PENDING or READY to NONE, in no schedule entry. The other key
commands (R159, R165, R167, R182, R471): KEY_STATUS reports a context's keys; BLOB_PIN pins a blob and the slot that holds it; NODE_DEFINE defines a
derivation node below its parent; GDOI_MAP holds the mapping; KEM_GENERATE stores the new seed and answers the statement of its encapsulation key with
a signature by the identity key, where Flurry has the bytes of the seed and of every attempt at the signature. Clauses of it rest on choices of the
model: log entries 21, 22, 42, 43, 147, 149 and 151. -/
def Obligations.KeyCommands : Prop :=
  ((∀ (s : State) (sl : Slot) (i k kcv overlap : Nat) (c : Ctx) (b : Blob), commitBusy s i = false → MbxRuns s 0x41 → s.tamper.zeroised = false →
      k < 2 ^ 20 → overlap ≤ overlapMax → mmkActive s = true → liveCtx s i = some c → getBlob s k = some b → b.slice = c.slice →
      keyFits c b.attr b.ktype = true → c.nstate = 0 → c.words.length = 24 → c.changes = [] → ctxRunning s i = false →
      resident s (.blob k) = none →
    ∃ t c', exec (.keyStage sl i 0 k kcv overlap) s = .next t ∧ getCtx t i = some c' ∧ c'.nstate = 1 ∧ c'.nextRef = .blob k
      ∧ c'.word 0x10 = w32 b.kid ∧ c'.kcv = kcv ∧ c'.overlap = overlap ∧ t.firn.stageCmds = s.firn.stageCmds ++ [(i, sl)]
      ∧ (∀ j, j ≠ i → getCtx t j = getCtx s j) ∧ t.mem = s.mem)
  ∧ (∀ (s : State) (sl : Slot) (i overlap : Nat) (c : Ctx), keyBusy s i = false → MbxRuns s 0x42 → s.tamper.zeroised = false →
      overlap ≤ overlapMax → s.pair.st = .single → liveCtx s i = some c → c.nstate = 2 → ctxRunning s i = false →
    ∃ t, exec (.keyCommit sl [i] 0 overlap) s = .next t ∧ getCtx t i = some (c.commit ((ptpSec32 s + overlap) % 2 ^ 32))
      ∧ (∀ j, j ≠ i → getCtx t j = getCtx s j) ∧ t.firn.schedule = s.firn.schedule)
  ∧ (∀ (s : State) (sl : Slot) (i : Nat) (c : Ctx), keyBusy s i = false → MbxRuns s 0x43 → s.tamper.zeroised = false →
      liveCtx s i = some c → c.nstate = 1 ∨ c.nstate = 2 → c.words.length = 24 → c.changes = [] → ctxRunning s i = false →
    ∃ t c', exec (.keyAbort sl i) s = .next t ∧ getCtx t i = some c' ∧ c'.nstate = 0 ∧ c'.word 0x08 = 0 ∧ c'.word 0x10 = 0
      ∧ c'.word 0x04 = c.word 0x04 ∧ (∀ e, e ∈ t.firn.schedule → i ∉ e.targets) ∧ (∀ j, j ≠ i → getCtx t j = getCtx s j)
      ∧ t.mem = s.mem))
  ∧ ((∀ (s : State) (sl : Slot) (i : Nat) (c : Ctx), mbxReady s = true → lcBar s 0x48 = none → liveCtx s i = some c →
    exec (.keyStatus sl i) s = .next (mbxFinish (mbxTake s) sl 0x48 (MbxRes.ok 0 (Config.keyStatus c.nstate (c.word 0x0C).toNat
      (c.word 0x10).toNat c.epoch (match smapGet (fun _ => none) s.pair.partnerKeys i with | some k => k.nstate | none => 0)))))
  ∧ (∀ (s : State) (sl : Slot) (slice i n : Nat) (b : Blob) (x : SlotSt), MbxRuns s 0x44 → s.tamper.zeroised = false →
      getBlob s i = some b → b.slice = slice → pinnedBlobs s < 8192 → pinnedAll s < 12288 → resident s (.blob i) = some n →
      getSlot s n = some x →
    ∃ t, exec (.blobPin sl slice i true) s = .next t ∧ getBlob t i = some { b with pinned := true }
      ∧ getSlot t n = some { x with pinned := true } ∧ (∀ j, j ≠ i → getBlob t j = getBlob s j) ∧ (∀ j, j ≠ n → getSlot t j = getSlot s j)
      ∧ t.journal = s.journal ++ [⟨[.blob i (some { b with pinned := true })], some ⟨sl, 0x44, 0, 0, 0⟩, none, 0, 0⟩] ∧ t.mem = s.mem)
  ∧ (∀ (s : State) (sl : Slot) (d : NodeDef) (p : Nat) (q : TreeNode), MbxRuns s 0x45 → s.tamper.zeroised = false → d.index < 2 ^ 20 →
      0 < d.label.length → d.label.length ≤ 48 → d.attr = 3 → d.ktype ≤ 2 → d.parent = some p → getNode s p = some q → q.slice = d.slice →
      q.attr = 3 → tooDeep s d.index p = false → (∀ e ∈ s.firn.nodes, ∀ n, e.2 = some n → n.parent = some d.index → n.slice = d.slice) →
    ∃ t, exec (.nodeDefine sl d) s = .next t ∧ getNode t d.index = some ⟨some p, none, d.slice, d.attr, d.ktype, d.kid, d.label⟩
      ∧ (∀ j, j ≠ d.index → getNode t j = getNode s j) ∧ (getNode s d.index = none → t.firn.blobs = s.firn.blobs) ∧ t.mem = s.mem)
  ∧ (∀ (s : State) (sl : Slot) (group kid overlap i : Nat) (c : Ctx), MbxRuns s 0x49 → s.tamper.zeroised = false → overlap ≤ overlapMax →
      liveCtx s i = some c → s.firn.gdoi.length < 16 →
    exec (.gdoiMap sl group kid [i] overlap) s
      = .next (mbxFinish { mbxTake s with firn := { s.firn with
          gdoi := s.firn.gdoi.filter (fun m => !(m.group == group && m.kid == kid)) ++ [⟨group, kid, [i], overlap⟩] } } sl 0x49
          (MbxRes.durable [.gdoi (s.firn.gdoi.filter (fun m => !(m.group == group && m.kid == kid)) ++ [⟨group, kid, [i], overlap⟩])])))
  ∧ (∀ (s : State) (sl : Slot) (k : Nat), MbxRuns s 0x46 → s.tamper.zeroised = false → 6235 ≤ sl.rlen → s.lc.identity = true →
      s.firn.kstate ≠ .changing → s.rng.st = .ready → s.rng.waiting = [] → k = Config.freeValue (s.freeCtr + 3) → 96 + 32 * k ≤ s.rng.qfill →
    ∃ u seed rnd, exec (.kemGenerate sl) s = .next (mbxFinish u sl 0x46 (MbxRes.ok 0
        (kemBody (deviceFpr s) seed ++ identitySign s (Config.sha3 (kemBody (deviceFpr s) seed)) rnd)))
      ∧ u.firn = writeKemSeed s.firn seed ∧ u.rng.qfill = s.rng.qfill - 96 - 32 * k ∧ u.ctxs = s.ctxs ∧ u.mem = s.mem))

/-- The identity and public-key commands (R193, R196 to R199, R207, R208): ID_READ answers the identity public key and the chain; ATTEST the report
with a signature by the identity key, where Flurry has the bytes of every attempt at it; SVN_ADVANCE raises the thermometer to a higher value that the
running image has and refuses any other; CERT_CHECK, with the LIU on, rejects what the library refuses, counted, and otherwise answers the signature's
outcome. Keys that arrive (R177 to R182), for contexts of which no key command is in progress: a malformed bundle is refused with BAD_FORMAT and
changes no key and no context; one for a working key whose checks all hold stages its context as PENDING under a new blob of the key. A GDOI traffic
key that a registration brings and that has a mapping stages its context in the same way, with the KCV that the module computes. After IDKILL every
bundle that comes so far is refused with BAD_DEVICE (R360). Clauses of it rest on choices of the model: log entries 44, 46, 96, 129, 148 and 152. -/
def Obligations.IdentityAndArrivingKeys : Prop :=
  ((∀ (s : State) (sl : Slot) (pub : Nat), MbxRuns s 0x50 → s.lc.idPub = some pub → (beBytes 2592 pub ++ s.lc.certChain).length ≤ sl.rlen →
    exec (.idRead sl) s = .next (mbxFinish (mbxTake s) sl 0x50 (MbxRes.ok 0 (beBytes 2592 pub ++ s.lc.certChain))))
  ∧ (∀ (s : State) (sl : Slot) (nonce : List Byte) (k : Nat), MbxRuns s 0x51 → nonce.length = 32 → 10227 ≤ sl.rlen →
      s.lc.st = .sealed ∨ s.lc.st = .field ∨ s.lc.st = .ret → s.lc.identity = true → s.ltu.st = .idle → s.rng.st = .ready →
      s.rng.waiting = [] → k = Config.freeValue (s.freeCtr + 2) → 32 + 32 * k ≤ s.rng.qfill →
    ∃ u rnd, exec (.attest sl nonce) s = .next (mbxFinish u sl 0x51 (MbxRes.ok 0
        (attestBody s nonce ++ identitySign s (Config.sha3 (attestBody s nonce)) rnd)))
      ∧ u.rng.qfill = s.rng.qfill - 32 - 32 * k ∧ u.firn = s.firn ∧ u.mem = s.mem)
  ∧ (∀ (s : State) (sl : Slot) (v : Nat), MbxRuns s 0x52 → s.lc.st = .sealed ∨ s.lc.st = .field → s.lc.svnMin < v → v ≤ (runningImage s).svn →
    ∃ u r, exec (.svnAdvance sl v) s = .next (mbxFinish u sl 0x52 (MbxRes.ok r)) ∧ u.lc = { s.lc with svnMin := v } ∧ u.mem = s.mem)
  ∧ (∀ (s : State) (sl : Slot) (v : Nat), MbxRuns s 0x52 → s.lc.st = .sealed ∨ s.lc.st = .field → v ≤ s.lc.svnMin ∨ (runningImage s).svn < v →
    exec (.svnAdvance sl v) s = .next (mbxFinish (mbxTake s) sl 0x52 (MbxRes.refuse 0x0C)))
  ∧ (∀ (s : State) (sl : Slot) (c : CertIn), MbxRuns s 0x53 → c.alg ≠ .unsupported → LiuTakes s →
    ∃ u st, exec (.certCheck sl c) s = .next (mbxFinish u sl 0x53 (MbxRes.refuse st))
      ∧ (certStatus c ≠ 0 → st = certStatus c ∧ getReg u 0x91030 = satInc (getReg s 0x91030))
      ∧ (certStatus c = 0 → st = if Config.certVerify (certCode c.alg) [c.n, c.e, c.x, c.y, c.sigR, c.sigS] c.tbs then 0 else 9)
      ∧ u.lc = s.lc ∧ u.mem = s.mem))
  ∧ ((∀ (s : State) (sl : Slot) (bs : List Byte), MbxRuns s 0x40 → (bundleTargets bs).any (keyBusy s) = false → bundleBad bs = true →
    ∃ u, exec (.bundleLoad sl bs) s = .next (mbxFinish u sl 0x40 (MbxRes.refuse 0x08)) ∧ u.firn = s.firn ∧ u.ctxs = s.ctxs
      ∧ u.mem = s.mem)
  ∧ (∀ (s : State) (sl : Slot) (bs : List Byte), MbxRuns s 0x40 → (bundleTargets bs).any (keyBusy s) = false → s.lc.idKill = true →
      bundleBad bs = false → s.tamper.zeroised = false → beAt bs 6 1 = 2 ∨ mmkActive s = true →
    ∃ u, exec (.bundleLoad sl bs) s = .next (mbxFinish u sl 0x40 (MbxRes.refuse 0x09)) ∧ u.firn = s.firn ∧ u.ctxs = s.ctxs
      ∧ u.mem = s.mem)
  ∧ (∀ (s : State) (sl : Slot) (bs : List Byte) (e : BundleEntry) (c : Ctx), MbxRuns s 0x40 → keyBusy s e.target = false → bundleBad bs = false →
      beAt bs 6 1 = 1 → bundleEntries bs = [e] → beAt bs 0x58 8 = 0 → e.target < 2 ^ 18 → liveCtx s e.target = some c → c.slice = e.slice →
      keyFits c e.attr e.ktype = true → c.nstate = 0 → c.words.length = 24 → c.changes = [] → ctxRunning s e.target = false →
      firstFree s.firn.blobs 0 < 1048576 → resident s (.blob (firstFree s.firn.blobs 0)) = none →
    ∃ t, exec (.bundleLoad sl bs) s = .next t
      ∧ (∀ k, bundleHeader s bs = 0 →
          Config.kwpUnwrap (Config.kmac256 (Config.kemDecaps ((kemSeedOf s.firn).getD 0) (beAt bs 0x70 1568)) (bs.take 0x70) 256 "KX5120 KB")
            e.wkey = some k → kcvOf k e.kid e.ktype e.attr = e.kcv →
          ∃ c', getCtx t e.target = some c' ∧ c'.nstate = 1 ∧ c'.nextRef = .blob (firstFree s.firn.blobs 0) ∧ c'.word 0x10 = w32 e.kid
            ∧ c'.kcv = e.kcv ∧ getBlob t (firstFree s.firn.blobs 0)
                = some ⟨e.attr, e.ktype, e.slice, e.kid, e.kcv, Config.kwpWrap (wkNow s e.slice e.attr) k, false, false, beAt bs 0x68 4⟩)
      ∧ (bundleHeader s bs ≠ 0 → getCtx t e.target = some c ∧ t.firn = s.firn)
      ∧ (∀ j, j ≠ e.target → getCtx t j = getCtx s j))
  ∧ (∀ (s : State) (sl : Slot) (m : GdoiIn) (kid i : Nat) (g : GdoiMap) (c : Ctx), MbxRuns s 0x4A → keyBusy s i = false →
      s.tamper.zeroised = false → m.registration = true → m.outward = false → m.lib = [] → s.rng.st = .ready → s.rng.waiting = [] →
      96 ≤ s.rng.qfill → m.authentic = true → m.kid = some kid → m.activate = 0 → mmkActive s = true → s.firn.gdoi = [g] →
      g.group = m.group → g.kid = kid → g.ctxs = [i] → liveCtx s i = some c → keyFits c (if c.pubDir then 0 else 1) m.ktype = true →
      c.nstate = 0 → c.words.length = 24 → c.changes = [] → ctxRunning s i = false → firstFree s.firn.blobs 0 < 1048576 →
      resident s (.blob (firstFree s.firn.blobs 0)) = none →
    ∃ t c', exec (.gdoiMsg sl m) s = .next t ∧ getCtx t i = some c' ∧ c'.nstate = 1 ∧ c'.nextRef = .blob (firstFree s.firn.blobs 0)
      ∧ c'.word 0x10 = w32 kid
      ∧ c'.kcv = kcvOf (Config.gdoiKey (Config.freeValue s.freeCtr) m.key) kid m.ktype (if c.pubDir then 0 else 1)
      ∧ (∀ j, j ≠ i → getCtx t j = getCtx s j) ∧ t.mem = s.mem))

/-- The LTU (R188 to R191), switched on: an operation handed to the idle unit runs, a signature with the bytes that it takes from Flurry; one handed
to the busy unit waits its turn; key generation while Flurry is FATAL ends with RNG. The end of a hash gives its result and idles the unit; a signing
attempt of 64 iterations starts again with fresh bytes, its event and its count; a fault stops the unit and clears it, with its event and count. Idle
gating (R437), with the power controller's page not in its safe state: with UNITGATE an idle unit is switched off with its memories cleared, and with
CPGATE control processor 2 or 3. Clauses of it rest on choices of the model: log entries 9, 46 and 95. -/
def Obligations.LatticeUnitAndIdleUnits : Prop :=
  ((∀ (s : State) (op : LtuOp) (input : List Byte), s.pwc.ltu = true → s.ltu.st = .idle → s.ltu.asking = false → op ≠ .dsaSign →
      (op = .dsaKeygen ∨ op = .kemKeygen → s.rng.st ≠ .fatal) →
    ∃ t, exec (.ltuOperation op input) s = .next t ∧ LtuRuns s.ltu t.ltu op input none ∧ t = { s with ltu := t.ltu, freeCtr := t.freeCtr })
  ∧ (∀ (s : State) (input : List Byte), s.pwc.ltu = true → s.ltu.st = .idle → s.ltu.asking = false → s.rng.st = .fatal →
    exec (.ltuOperation .kemKeygen input) s = .next { s with ltu := { s.ltu with status := 3, result := [] } })
  ∧ (∀ (s : State) (op : LtuOp) (input : List Byte), s.pwc.ltu = true → s.ltu.st = .busy →
    exec (.ltuOperation op input) s = .next { s with ltu := { s.ltu with queue := s.ltu.queue ++ [(op, input)] } })
  ∧ (∀ (s : State) (input : List Byte), s.pwc.ltu = true → s.ltu.st = .idle → s.ltu.asking = false → s.rng.st = .ready → s.rng.waiting = [] →
      32 ≤ s.rng.qfill →
    ∃ t n, exec (.ltuOperation .dsaSign input) s = .next t ∧ LtuRuns s.ltu t.ltu .dsaSign input (some n)
      ∧ t.rng = { s.rng with qfill := s.rng.qfill - 32, outPos := s.rng.outPos + 32 }
      ∧ t = { s with ltu := t.ltu, rng := t.rng, freeCtr := t.freeCtr })
  ∧ (∀ (s : State) (iters : Nat), s.ltu.st = .busy → s.ltu.op = some .sha3 → s.ltu.queue = [] →
    ∃ t, exec (.ltuOperationDone iters false) s = .next t ∧ t.ltu.st = .idle ∧ t.ltu.status = 0
      ∧ t.ltu.result = beBytes 64 (Config.sha3 s.ltu.input) ∧ getReg t 0x90024 = satInc (getReg s 0x90024)
      ∧ t = { s with ltu := t.ltu, regs := t.regs })
  ∧ (∀ (s : State) (iters : Nat), s.ltu.st = .busy → s.ltu.op = some .dsaSign → 64 ≤ iters → s.rng.st = .ready → s.rng.waiting = [] →
      32 ≤ s.rng.qfill →
    ∃ t n, exec (.ltuOperationDone iters false) s = .next t ∧ t.ltu.st = .busy ∧ t.ltu.op = some .dsaSign ∧ t.ltu.input = s.ltu.input
      ∧ t.ltu.rnd = some n ∧ t.ltu.restarts = s.ltu.restarts + 1 ∧ t.rng.qfill = s.rng.qfill - 32 ∧ bit (getPage t 0x90).stat 1 = true
      ∧ t.mem = s.mem)
  ∧ (∀ (s : State) (iters : Nat), s.ltu.st = .busy →
    ∃ t, exec (.ltuOperationDone iters true) s = .next t ∧ t.ltu.st = .fault ∧ t.ltu.queue = [] ∧ t.ltu.result = [] ∧ t.ltu.input = []
      ∧ bit (getPage t 0x90).stat 0 = true ∧ getReg t 0x9002C = satInc (getReg s 0x9002C) ∧ t.mem = s.mem))
  ∧ ((∀ s : State, fld (getReg s 0x130020) 1 1 = 1 → pageSafe s 0x130 = false → s.pwc.ltu = true → s.ltu.st = .idle → s.ltu.asking = false →
    ∃ t, exec (.unitIdleGate .ltu) s = .next t ∧ t.ltu.st = .off ∧ t.pwc = { s.pwc with ltu := false } ∧ t.ltu.input = [] ∧ t.ltu.result = []
      ∧ t = { s with ltu := t.ltu, pwc := t.pwc, regs := t.regs })
  ∧ (∀ s : State, fld (getReg s 0x130020) 1 1 = 1 → pageSafe s 0x130 = false → s.pwc.liu = true → s.liu.st = .idle →
    ∃ t, exec (.unitIdleGate .liu) s = .next t ∧ t.liu.st = .off ∧ t.pwc = { s.pwc with liu := false } ∧ t.liu.pw = [] ∧ t.liu.sw = []
      ∧ t = { s with liu := t.liu, pwc := t.pwc, regs := t.regs })
  ∧ (∀ (s : State) (n : Fin 2), fld (getReg s 0x130020) 0 0 = 1 → pageSafe s 0x130 = false → bit s.pwc.cp (2 + n) = true →
    ∃ t, exec (.cpIdleGate n) s = .next t ∧ bit t.pwc.cp (2 + n) = false ∧ (∀ k, k ≠ 2 + n.val → bit t.pwc.cp k = bit s.pwc.cp k)
      ∧ t.pwc = { s.pwc with cp := t.pwc.cp } ∧ t = { s with pwc := t.pwc, regs := t.regs }))

/-- The other LIU commands (R201, R202, R205) on an idle unit, after what came to the public window with the command: SETMOD takes an odd operand
whose top word is not 0 and refuses any other; MUL gives both halves of a public product; COPY, ZERO and CMP; KEYIN brings a key into the secret
window; the self-test runs, in FAULT too; a result that would leave the secret window without RELEASE is refused; ABORT zeroes every register. The end
of an LIU command (R202 to R205, R209), nothing waiting: its result is in its register and the command is counted; SETMOD has set the modulus and its
constants; a residue mismatch of a command with a secret source leaves 0 at its destination, the modulus of SETMOD or a register, and is counted, and
a second one puts the unit in FAULT with its windows empty; an abort ends with its event. Clauses of it rest on choices of the model: log entries 92,
93, 94 and 139. -/
def Obligations.LongIntegerUnit : Prop :=
  ((∀ (s u : State) (w : LiuWord), LiuTakes s → u = liuLoad s w.pub → liuGet u.liu w.srcA (w.lenM1.val + 1) % 2 = 1 →
      2 ^ (64 * w.lenM1.val) ≤ liuGet u.liu w.srcA (w.lenM1.val + 1) →
    exec (.setmod w) s = LiuRuns u (liuCmdOf 0x01 w 0) [] none)
  ∧ (∀ (s u : State) (w : LiuWord), LiuTakes s → u = liuLoad s w.pub →
      liuGet u.liu w.srcA (w.lenM1.val + 1) % 2 = 0 ∨ liuGet u.liu w.srcA (w.lenM1.val + 1) < 2 ^ (64 * w.lenM1.val) →
    exec (.setmod w) s = .next { u with liu := { u.liu with last := .badOperand } })
  ∧ (∀ (s u : State) (w : LiuWord) (a b : Nat), LiuTakes s → u = liuLoad s w.pub → w.srcA.val < 32 → w.srcB.val < 32 → w.dst.val % 32 ≠ 31 →
      a = liuGet u.liu w.srcA (w.lenM1.val + 1) → b = liuGet u.liu w.srcB (w.lenM1.val + 1) →
    ∃ lo hi, exec (.mul w) s = LiuRuns u (liuCmdOf 0x07 w 0) [(w.dst, lo), (w.dst.val + 1, hi)] none
      ∧ lo < 2 ^ (64 * (w.lenM1.val + 1)) ∧ hi * 2 ^ (64 * (w.lenM1.val + 1)) + lo = a * b)
  ∧ (∀ (s u : State) (w : LiuWord), LiuTakes s → u = liuLoad s w.pub → 32 ≤ w.dst.val ∨ w.srcA.val < 32 ∨ w.release = true →
    exec (.copy w) s = LiuRuns u (liuCmdOf 0x08 w 0) [(w.dst, liuGet u.liu w.srcA (w.lenM1.val + 1))] none)
  ∧ (∀ (s u : State) (w : LiuWord), LiuTakes s → u = liuLoad s w.pub → w.dst.val < 32 → 32 ≤ w.srcA.val → w.release = false →
    exec (.copy w) s = .next { u with liu := { u.liu with last := .badCmd } })
  ∧ (∀ (s u : State) (w : LiuWord), LiuTakes s → u = liuLoad s w.pub →
    exec (.zero w) s = LiuRuns u (liuCmdOf 0x09 w 0) [(w.dst, 0)] none)
  ∧ (∀ (s u : State) (w : LiuWord) (a b : Nat), LiuTakes s → u = liuLoad s w.pub → w.srcA.val < 32 → w.srcB.val < 32 →
      a = liuGet u.liu w.srcA (w.lenM1.val + 1) → b = liuGet u.liu w.srcB (w.lenM1.val + 1) →
    exec (.liuCmp w) s = LiuRuns u (liuCmdOf 0x0A w 0) [] (some (if a = b then 0 else if a < b then 1 else 2)))
  ∧ (∀ (s u : State) (w : LiuWord) (k : Nat), LiuTakes s → u = liuLoad s w.pub → 32 ≤ w.dst.val →
    ∃ t, exec (.keyin w k) s = .next t
      ∧ (∀ key, liuKey s k = some key → .next t = LiuRuns u (liuCmdOf 0x0D w k) [(w.dst, key % 2 ^ (64 * (w.lenM1.val + 1)))] none)
      ∧ (liuKey s k = none → t.liu = { u.liu with last := .badOperand }))
  ∧ (∀ s : State, s.pwc.liu = true → s.liu.st = .idle ∨ s.liu.st = .fault →
    exec .liuSelftest s = LiuRuns s ⟨0x0F, 0, 0, 0, false, 1, 0⟩ [] none)
  ∧ (∀ s : State, s.pwc.liu = true → s.liu.st = .busy ∨ s.liu.st = .idle →
    ∃ t, exec .liuAbort s = .next t ∧ t.liu.st = .aborting ∧ t.liu.pw = [] ∧ t.liu.sw = [] ∧ t.liu.modulus = 0 ∧ t.liu.running = none
      ∧ t.liu.queue = s.liu.queue ∧ t = { s with liu := t.liu }))
  ∧ ((∀ (s : State) (c : LiuCmd) (r v : Nat), s.liu.st = .busy → s.liu.running = some c → s.liu.res = [(r, v)] → s.liu.resCmp = none →
      2 ≤ c.op → c.op ≤ 0x0D → s.liu.queue = [] → r < 64 →
    ∃ t, exec (.liuCommandDone true) s = .next t ∧ t.liu.st = .idle ∧ t.liu.last = .ok ∧ t.liu.running = none
      ∧ (if 32 ≤ r then smapGet (fun _ => 0) t.liu.sw (r % 32) = v ∧ t.liu.pw = s.liu.pw
          else smapGet (fun _ => 0) t.liu.pw (r % 32) = v ∧ t.liu.sw = s.liu.sw)
      ∧ t.liu.modulus = s.liu.modulus ∧ t.liu.cmp = s.liu.cmp ∧ getReg t 0x91024 = satInc (getReg s 0x91024)
      ∧ t = { s with liu := t.liu, regs := t.regs })
  ∧ (∀ (s : State) (c : LiuCmd), s.liu.st = .busy → s.liu.running = some c → s.liu.res = [] → s.liu.resCmp = none → c.op = 1 →
      s.liu.queue = [] →
    ∃ t, exec (.liuCommandDone true) s = .next t ∧ t.liu.st = .idle ∧ t.liu.modulus = liuGet s.liu c.srcA c.len ∧ t.liu.modLen = c.len
      ∧ t.liu.modInv = montInv (liuGet s.liu c.srcA c.len) ∧ t.liu.modR2 = 2 ^ (128 * c.len) % liuGet s.liu c.srcA c.len
      ∧ getReg t 0x91024 = satInc (getReg s 0x91024) ∧ t = { s with liu := t.liu, regs := t.regs })
  ∧ (∀ (s : State) (c : LiuCmd), s.liu.st = .busy → s.liu.running = some c → c.secret = true → c.writes = true → s.liu.mismatches = 0 →
      s.liu.queue = [] → 32 ≤ c.dst →
    ∃ t, exec (.liuCommandDone false) s = .next t ∧ t.liu.st = .idle ∧ t.liu.last = .residue ∧ t.liu.mismatches = 1
      ∧ smapGet (fun _ => 0) t.liu.sw (c.dst % 32) = 0 ∧ bit (getPage t 0x91).stat 0 = true
      ∧ getReg t 0x91028 = satInc (getReg s 0x91028) ∧ t.mem = s.mem)
  ∧ (∀ (s : State) (c : LiuCmd), s.liu.st = .busy → s.liu.running = some c → c.secret = true → c.op = 1 → s.liu.mismatches = 0 →
      s.liu.queue = [] →
    ∃ t, exec (.liuCommandDone false) s = .next t ∧ t.liu.st = .idle ∧ t.liu.last = .residue ∧ t.liu.mismatches = 1 ∧ t.liu.modulus = 0
      ∧ bit (getPage t 0x91).stat 0 = true ∧ getReg t 0x91028 = satInc (getReg s 0x91028) ∧ t.mem = s.mem)
  ∧ (∀ (s : State) (c : LiuCmd), s.liu.st = .busy → s.liu.running = some c → c.secret = true → c.op ≠ 0x0F → s.liu.mismatches = 1 →
      s.liu.queue = [] →
    ∃ t, exec (.liuCommandDone false) s = .next t ∧ t.liu.st = .fault ∧ t.liu.last = .unitFault ∧ t.liu.sw = [] ∧ t.liu.pw = []
      ∧ bit (getPage t 0x91).stat 2 = true ∧ getReg t 0x91028 = satInc (getReg s 0x91028) ∧ t.mem = s.mem)
  ∧ (∀ (s : State) (ok : Bool), s.liu.st = .aborting → s.liu.queue = [] →
    ∃ t, exec (.liuCommandDone ok) s = .next t ∧ t.liu = { s.liu with st := .idle, last := .aborted }
      ∧ bit (getPage t 0x91).stat 1 = true ∧ getReg t 0x9102C = satInc (getReg s 0x9102C)))

/-- The modular operations (R200, R202) on an idle unit, after what came to the public window with the command, whose modulus has the length of the
command, of operands below the modulus: the sum, the difference and the conversions modulo n; a product in Montgomery form v with v·2^(64L) congruent
to the product of the operands; and the powers, EXPPUB of public operands. A result that leaves the secret window needs RELEASE (R201). The constants
of the modulus register (R200): for every odd modulus, n times the constant that SETMOD holds is −1 modulo 2^64. -/
def Obligations.ModularArithmetic : Prop :=
  (∀ (s u : State) (w : LiuWord) (a b n l : Nat), LiuTakes s → u = liuLoad s w.pub → l = w.lenM1.val + 1 → n = u.liu.modulus →
      u.liu.modLen = l → n % 2 = 1 → (n * u.liu.modInv + 1) % 2 ^ 64 = 0 → a = liuGet u.liu w.srcA l → b = liuGet u.liu w.srcB l → a < n → b < n →
      32 ≤ w.dst.val ∨ w.release = true ∨ (w.srcA.val < 32 ∧ w.srcB.val < 32) →
    (exec (.modadd w) s = LiuRuns u (liuCmdOf 0x03 w 0) [(w.dst, (a + b) % n)] none)
      ∧ (exec (.modsub w) s = LiuRuns u (liuCmdOf 0x04 w 0) [(w.dst, (a + n - b) % n)] none)
      ∧ (exec (.tomont w) s = LiuRuns u (liuCmdOf 0x05 w 0) [(w.dst, a * 2 ^ (64 * l) % n)] none)
      ∧ (∃ v, exec (.montmul w) s = LiuRuns u (liuCmdOf 0x02 w 0) [(w.dst, v)] none ∧ v < n ∧ v * 2 ^ (64 * l) % n = a * b % n)
      ∧ (∃ v, exec (.frommont w) s = LiuRuns u (liuCmdOf 0x06 w 0) [(w.dst, v)] none ∧ v < n ∧ v * 2 ^ (64 * l) % n = a)
      ∧ (exec (.expsec w) s = LiuRuns u (liuCmdOf 0x0C w 0) [(w.dst, a ^ b % n)] none)
      ∧ (w.srcA.val < 32 → w.srcB.val < 32 → exec (.exppub w) s = LiuRuns u (liuCmdOf 0x0B w 0) [(w.dst, a ^ b % n)] none))
  ∧ (∀ n : Nat, n % 2 = 1 → montInv n < 2 ^ 64 ∧ (n * montInv n + 1) % 2 ^ 64 = 0)

/-! ### Bobbins and pillows -/

/-- Background items (R86, R214, R218, R219): INIT and the next queued item of a context start on the owner's free background level, at the entry
point of their image, with the context in g1 and, for an item of the queue, the kind and argument in g2 and g3; an item beyond its limit is abandoned
with its trap counted; an instant of a group of one member that the member has not passed when BALWAIT has run out sets BAL_INCOMPLETE for it, and
BAL_EVAL is posted to the group's owner, whose queue has room. A received frame beyond its limit (R79, R219, R282), that no shadow run shares, whose
delivery has not begun and whose context has FAILPOL 0: the bobbin's program ends with its trap counted, the frame is over and counted against its
context, nothing is written to the manager's memory, and its cells return. Clauses of it rest on choices of the model: log entries 3 and 52. -/
def Obligations.ItemsAndLimits : Prop :=
  ((∀ (s : State) (i e : Nat) (c : Ctx) (m : Image), i < 0x40000 → getCtx s i = some c → c.initDue = true → c.bgOwner < 32 →
      (getBob s (32 * c.home + c.bgOwner)).frame = none → (getBob s (32 * c.home + c.bgOwner)).item = none →
      (getBob s (32 * c.home + c.bgOwner)).queue = [] → (getBob s (32 * c.home + c.bgOwner)).role = .scheduled →
      imageFor s c.home c.kind c.pubDir = some m → m.init = some e →
    ∃ t, exec (.init i) s = .next t ∧ (getBob t (32 * c.home + c.bgOwner)).item = some ⟨0, i, 0, []⟩
      ∧ (getBob t (32 * c.home + c.bgOwner)).bg = { Level.entry with pc := w32 (codeBase s c.home m + e) }.setReg 1 (w32 i)
      ∧ (∀ k, k ≠ 32 * c.home + c.bgOwner → getBob t k = getBob s k) ∧ t = { s with bobbins := t.bobbins })
  ∧ (∀ (s : State) (b : Fin 512) (it : BgItem) (rest : List BgItem) (e : Nat) (c : Ctx) (m : Image), (getBob s b).role = .scheduled →
      (getBob s b).frame = none → (getBob s b).item = none → (getBob s b).queue = it :: rest → it.kind ≠ 0 →
      rest.all (fun x => x.kind != 0) = true → it.target < 0x40000 → getCtx s it.target = some c →
      imageFor s (b / 32) c.kind c.pubDir = some m → m.bg = some e →
    ∃ t, exec (.bgItem b) s = .next t ∧ (getBob t b).item = some it ∧ (getBob t b).queue = rest
      ∧ (getBob t b).bg = (({ Level.entry with pc := w32 (codeBase s (b / 32) m + e) }.setReg 1 (w32 it.target)).setReg 2 (w32 it.kind)).setReg 3
          (w32 it.arg)
      ∧ (∀ k, k ≠ b.val → getBob t k = getBob s k) ∧ t = { s with bobbins := t.bobbins })
  ∧ (∀ (s : State) (g smp i n : Nat) (vals : List (Nat × List Int)) (x : Group) (c : Ctx), getGroup s g = some x →
      x.instants = [(smp, n, vals)] → members s g = [(i, c)] → getCtx s i = some c → (getBob s (32 * x.pillow + x.owner)).queue.length < 64 →
    ∃ t x', exec (.balwaitExpiry g smp) s = .next t ∧ getGroup t g = some x' ∧ x'.instants = []
      ∧ getCtx t i = some { c with deferred := Nat.lor c.deferred 0x10, pendingEval := true } ∧ (∀ j, j ≠ i → getCtx t j = getCtx s j)
      ∧ (getBob t (32 * x.pillow + x.owner)).queue = (getBob s (32 * x.pillow + x.owner)).queue ++ [⟨2, 0x40000 + g, smp, []⟩]
      ∧ t.mem = s.mem)
  ∧ (∀ (s : State) (b : Fin 512) (it : BgItem), (getBob s b).item = some it → it.kind ≠ 0 →
    ∃ t, exec (.bgItemLimit b) s = .next t ∧ (getBob t b).item = none ∧ (getBob t b).queue = (getBob s b).queue
      ∧ bit (getPage t (0x40 + b / 32)).stat 6 = true
      ∧ getReg t (regAddr (0x40 + b / 32) 0x40) = satInc (getReg s (regAddr (0x40 + b / 32) 0x40)) ∧ t.ctxs = s.ctxs ∧ t.mem = s.mem))
  ∧ (∀ (s : State) (b : Fin 512) (h i n : Nat) (f : FrameRec) (c : Ctx), (getBob s b).frame = some h → (getBob s b).put = false →
      (getBob s b).shadow = none → f.vote = [] → getFrame s h = some f → f.stage = .running → f.bobbin = some b.val → f.ctx = some i → f.src = .port n → f.delivery = none →
      f.pillow = b / 32 → getCtx s i = some c → c.pubDir = false → c.failPol = false → c.removing = none → c.changes = [] →
    ∃ t, exec (.fgLimit b) s = .next t ∧ (getBob t b).frame = none ∧ (getBob t b).stage = [] ∧ getFrame t h = none
      ∧ getCtx t i = some c.failFrame ∧ t.pool.free = s.pool.free + f.cells ∧ bit (getPage t (0x40 + b / 32)).stat 6 = true
      ∧ getReg t (regAddr (0x40 + b / 32) 0x40) = satInc (getReg s (regAddr (0x40 + b / 32) 0x40))
      ∧ (∀ j, j ≠ i → getCtx t j = getCtx s j) ∧ t.mem = s.mem)

/-- Rotation and self-test (R223, R224): on a pillow that is on, outside a takeover's window, the next scheduled bobbin goes to its self-test and the
spare, free of a shadow run, is scheduled in its place; a bobbin that passes, on a pillow that schedules others, becomes the spare, with its work
areas zero. Quarantine and the consistency check (R225 to R229): a quarantined bobbin without a frame is switched off and the spare takes its place,
with the counts and the event. A verdict that agrees with its shadow run's outcome is released; one that differs counts a mismatch, and the frame goes
to the head of the dispatch order with both outcomes, for a third scheduled bobbin; where the third run agrees with one of them its verdict is
released and the bobbin of the other is quarantined; where it agrees with neither the frame ends with ENGINE_FAULT, its context's failures counted.
Clauses of it rest on choices of the model: log entries 3, 53, 54, 56, 122 and 133. -/
def Obligations.BobbinRolesAndChecks : Prop :=
  ((∀ (s : State) (p : Fin 16) (b k : Nat), (getPil s p).st ≠ .off → (getPil s p).st ≠ .starting → s.pair.recov = false →
      spareOf s p = some k →
      (getBob s k).role = .spare → (getBob s k).shadow = none → nextOut s p = some b →
    ∃ t, exec (.spareRotation p) s = .next t ∧ (getBob t b).role = .testing ∧ (getBob t k).role = .scheduled
      ∧ (getPil t p).lastOut = b % 32 ∧ (∀ j, j ≠ b → j ≠ k → (getBob t j).role = (getBob s j).role) ∧ t.mem = s.mem)
  ∧ (∀ (s : State) (b : Fin 512), (getBob s b).role = .testing → (getBob s b).frame = none → spareOf s (b / 32) = some b.val →
      (schedBobs s (b / 32)) ≠ [] →
    ∃ t, exec (.bobbinSelftestDone b true) s = .next t ∧ (getBob t b).role = .spare
      ∧ (∀ a, dramKey b 0x4000 ≤ a → a < dramKey b 0x10000 → readByte t a = 0)
      ∧ (∀ a, a < dramKey b 0x4000 ∨ dramKey b 0x10000 ≤ a → readByte t a = readByte s a)
      ∧ (∀ j, j ≠ b.val → getBob t j = getBob s j)))
  ∧ ((∀ (s : State) (b : Fin 512) (cause : QuarCause) (k : Nat), (getBob s b).role = .scheduled → (getBob s b).frame = none →
      (getBob s b).shadow = none → s.pair.recov = false → spareOf s (b / 32) = some k → (getBob s k).shadow = none →
    ∃ t, exec (.bobbinQuarantine b cause) s = .next t ∧ (getBob t b).role = .quarantined ∧ bit t.pwc.bob b = false
      ∧ (getBob t b).quarCount = (getBob s b).quarCount + 1 ∧ (getBob t k).role = .scheduled
      ∧ bit (getPage t (0x40 + b / 32)).stat 3 = true
      ∧ getReg t (regAddr (0x40 + b / 32) 0x30) = satInc (getReg s (regAddr (0x40 + b / 32) 0x30)) ∧ t.mem = s.mem)
  ∧ (∀ (s : State) (b k : Fin 512) (h code flags : Nat) (f : FrameRec) (o : Outcome), (getBob s b).await = some (code, flags) →
      (getBob s b).frame = some h → getFrame s h = some f → f.vote = [] → k.val / 32 = b.val / 32 → (getBob s k).shadow = some h →
      (getBob s k).result = some o → ((getBob s b).outcome b code flags).agrees o = true →
    exec (.shadowCompare b k) s = .next (releaseAwait (modBob s k Bobbin.fgClear) b))
  ∧ (∀ (s : State) (b k : Fin 512) (h code flags : Nat) (f : FrameRec) (o : Outcome), (getBob s b).await = some (code, flags) →
      (getBob s b).frame = some h → getFrame s h = some f → f.vote = [] → k.val / 32 = b.val / 32 → (getBob s k).shadow = some h →
      (getBob s k).result = some o → ((getBob s b).outcome b code flags).agrees o = false →
      (schedBobs s (b / 32)).any (fun j => j != b.val && j != k.val) = true →
    ∃ t, exec (.shadowCompare b k) s = .next t
      ∧ getFrame t h = some { f with
          stage := .ready, bobbin := none, rerun := true, order := 0, laneStatus := none, vote := [(getBob s b).outcome b code flags, o] }
      ∧ (getBob t b).frame = none ∧ (getBob t k).shadow = none ∧ bit (getPage t (0x40 + b / 32)).stat 4 = true
      ∧ getReg t (regAddr (0x40 + b / 32) 0x3C) = satInc (getReg s (regAddr (0x40 + b / 32) 0x3C)) ∧ t.ctxs = s.ctxs ∧ t.mem = s.mem)
  ∧ (∀ (s : State) (b k : Fin 512) (h code flags : Nat) (f : FrameRec) (o p : Outcome), (getBob s b).await = some (code, flags) →
      (getBob s b).frame = some h → getFrame s h = some f → f.vote = [o, p] →
    (((getBob s b).outcome b code flags).agrees o = true →
        exec (.shadowCompare b k) s = .next (quarantineAfter (releaseAwait s b) p.bobbin 2 f.ctx))
      ∧ (((getBob s b).outcome b code flags).agrees o = false → ((getBob s b).outcome b code flags).agrees p = true →
        exec (.shadowCompare b k) s = .next (quarantineAfter (releaseAwait s b) o.bobbin 2 f.ctx)))
  ∧ (∀ (s : State) (b k : Fin 512) (h i n code flags : Nat) (f : FrameRec) (c : Ctx) (o p : Outcome), (getBob s b).await = some (code, flags) →
      (getBob s b).frame = some h → (getBob s b).shadow = none → getFrame s h = some f → f.vote = [o, p] →
      ((getBob s b).outcome b code flags).agrees o = false → ((getBob s b).outcome b code flags).agrees p = false → f.stage = .running →
      f.bobbin = some b.val → f.ctx = some i → f.src = .port n → f.delivery = none → getCtx s i = some c → c.pubDir = false →
      c.failPol = false → c.removing = none → c.changes = [] →
    ∃ t, exec (.shadowCompare b k) s = .next t ∧ (getBob t b).frame = none ∧ getFrame t h = none ∧ getCtx t i = some c.failFrame
      ∧ (∀ j, j ≠ i → getCtx t j = getCtx s j) ∧ t.mem = s.mem))

/-- Uncorrectable memory errors (R210): in shared RAM the owning context's scratch is zero again and INIT is due; in the context store the
configuration and key words come back from NAND's copy. A context without a balance group moves (R233). Where the pillow that drains still has frames
of it, its new frames go to the target pillow and nothing else changes. With none left it goes to the target, keeps its scratch bytes where the image
is the same, takes its original pillow as its origin, and its GEN advances. Clauses of it rest on choices of the model: log entries 28, 60, 61 and
133. -/
def Obligations.MemoryErrorsAndMoves : Prop :=
  ((∀ (s : State) (p : Fin 16) (off i : Nat) (c : Ctx), scratchOwner s p off = some i → getCtx s i = some c →
      (ctxFrames s i).all (fun e => e.2.stage != .running) = true →
    ∃ t c', exec (.sharedRamEcc p off) s = .next t ∧ getCtx t i = some c'
      ∧ c'.initDue = (match imageFor s c.home c.kind c.pubDir with | some m => m.init.isSome | none => false) ∧ c'.words = c.words
      ∧ (∀ k, k < c.scrLen → readByte t (sharedKey c.home (c.scrBase + k)) = 0)
      ∧ (∀ a, a < sharedKey c.home c.scrBase ∨ sharedKey c.home c.scrBase + c.scrLen ≤ a → readByte t a = readByte s a)
      ∧ (∀ j, j ≠ i → getCtx t j = getCtx s j))
  ∧ (∀ (s : State) (i : Nat) (c d : Ctx), getCtx s i = some c → smapGet (fun _ => none) s.durable.ctxs i = some d →
    ∃ t, exec (.ctxEcc i) s = .next t ∧ getCtx t i = some (c.restoreConfig d) ∧ (∀ j, j ≠ i → getCtx t j = getCtx s j) ∧ t.mem = s.mem)
  ∧ (∀ c d : Ctx, c.words.length = 24 → (c.restoreConfig d).seen = false ∧ (c.restoreConfig d).lost = c.lost
      ∧ (c.restoreConfig d).home = c.home ∧ (c.restoreConfig d).gen = d.gen ∧ (c.restoreConfig d).word 0 = d.word 0
      ∧ (c.restoreConfig d).word 0x0C = d.word 0x0C ∧ (c.restoreConfig d).word 0x1C = c.word 0x1C))
  ∧ ((∀ (s : State) (i : Nat) (q : Fin 16) (c : Ctx), getCtx s i = some c → c.bal = false → c.moving = none → moveDest s i c = some q.val →
      (ctxFrames s i).any (fun e => e.2.pillow == c.home && (e.2.stage == .ready || e.2.stage == .running)) = true →
    ∃ t, exec (.contextMove i q) s = .next t ∧ getCtx t i = some { c with moving := some q.val } ∧ (∀ j, j ≠ i → getCtx t j = getCtx s j)
      ∧ t = { s with ctxs := t.ctxs })
  ∧ (∀ (s : State) (i base : Nat) (q : Fin 16) (c : Ctx) (m : Image), getCtx s i = some c → c.words.length = 24 → c.bal = false →
      c.moving = some q.val ∨ (c.moving = none ∧ moveDest s i c = some q.val) →
      (ctxFrames s i).any (fun e => e.2.pillow == c.home && (e.2.stage == .ready || e.2.stage == .running)) = false →
      (∀ it ∈ (getBob s (ownerOf s i)).queue ++ (getBob s (ownerOf s i)).item.toList, it.target = i → it.kind ≠ 2) →
      c.origin = none → (getPil s c.home).cmd = none → (getPil s q).cmd = none → c.home ≠ q.val → imageFor s q c.kind c.pubDir = some m →
      sameImage s c c.home q = true → ramFit (ramUsed s q) c.scrLen = some base → (homedOn s q).length < 16384 →
    ∃ t c', exec (.contextMove i q) s = .next t ∧ getCtx t i = some c' ∧ c'.home = q ∧ c'.gen = (c.gen + 1) % 2 ^ 16 ∧ c'.moving = none
      ∧ c'.origin = some c.home ∧ c'.scrBase = base ∧ c'.scrLen = c.scrLen ∧ c'.initDue = c.initDue
      ∧ (∀ k, k < c.scrLen → readByte t (sharedKey q (base + k)) = readByte s (sharedKey c.home (c.scrBase + k)))
      ∧ (∀ j, j ≠ i → getCtx t j = getCtx s j)))

/-- Images (R216, R217, R235): PGM_LOAD answers the first check that fails, and enters an image that passes them all; PGM_ASSIGN, on a module that is
no STANDBY and with no bobbin failing its test, gives a pillow without contexts its table, with every bobbin loaded and its work areas zero;
PGM_REMOVE removes the version named alone, where no pillow has it assigned. Drain, return, retest, status (R232, R234, R236, R237), on a module that
is no STANDBY: a pillow without balance groups whose contexts find their places drains and waits for its last one, and one without contexts is DRAINED
at once; a drained pillow returns to SERVICE when nothing that left it is left elsewhere, and waits for it otherwise; a quarantined bobbin of a pillow
in SERVICE that passes its retest is scheduled or takes the spare role, one that fails is quarantined again; PILLOW_STATUS answers the assignment, the
background owners and the guests. Clauses of it rest on choices of the model: log entries 27, 57, 58, 59, 60 and 133. -/
def Obligations.ProgramAndPillowCommands : Prop :=
  ((∀ (s : State) (sl : Slot) (img : List Byte), MbxRuns s 0x60 →
    ∃ u r, exec (.pgmLoad sl img) s = .next (mbxFinish u sl 0x60 r)
      ∧ (imageStatus s img ≠ 0 → u = mbxTake s ∧ r = MbxRes.refuse (imageStatus s img))
      ∧ (imageBad img = true → r = MbxRes.refuse 1)
      ∧ (imageStatus s img = 0 → u = { mbxTake s with images := s.images ++ [parseImage img] }
          ∧ r = MbxRes.durable [.image (s.images ++ [parseImage img])]))
  ∧ (∀ (s : State) (sl : Slot) (p : Nat) (es : List (Nat × Nat)) (ms : List Image), MbxRuns s 0x61 → s.pair.st ≠ .standby → p < 16 →
      es.length = 12 → ((es.map assignEntry).zip (List.range 12)).any (fun e => assignBad s e.2 e.1) = false → bit s.pwc.pil p = true →
      ms = ((es.map assignEntry).filterMap id).eraseDups.filterMap (findImage s) → ms.foldl (fun n m => n + m.codeLen) 0 ≤ 28672 →
      ms.foldl (fun n m => n + m.dataLen) 0 ≤ 8192 → homedOn s p = [] →
    ∃ u, exec (.pgmAssign sl p es []) s = .next (mbxFinish u sl 0x61 (MbxRes.durable [.assign p (es.map assignEntry)]))
      ∧ getPil u p = { getPil s p with assign := es.map assignEntry } ∧ (∀ q, q ≠ p → getPil u q = getPil s q)
      ∧ (∀ b, b / 32 = p → getBob u b = { getBob s b with mpuBase := [], mpuLim := [] })
      ∧ (∀ b, b / 32 ≠ p → getBob u b = getBob s b)
      ∧ (∀ b k, b / 32 = p → 0x2000 ≤ k → k < 0x10000 → readByte u (dramKey b k) = 0) ∧ u.ctxs = s.ctxs ∧ u.images = s.images)
  ∧ (∀ (s : State) (sl : Slot) (id ver : Nat) (m : Image), MbxRuns s 0x65 → findImage s (id, ver) = some m →
      (List.range 16).any (fun p => (getPil s p).assign.contains (some (id, ver))) = false →
    exec (.pgmRemove sl id ver) s = .next (mbxFinish
      { mbxTake s with images := s.images.filter (fun x => !(x.pgmId == id && x.pgmVer == ver)) } sl 0x65
      (MbxRes.durable [.image (s.images.filter (fun x => !(x.pgmId == id && x.pgmVer == ver)))]))))
  ∧ ((∀ (s : State) (sl : Slot) (p mask m : Nat), MbxRuns s 0x62 → s.pair.st ≠ .standby → p < 16 → mask < 0x10000 → bit mask p = false →
      m = (if mask = 0 then 0xFFFF - 2 ^ p else mask) → (∀ q, q < 16 → pilSettled s q = true) → drainFits (mbxTake s) m p = true →
      groupsOn s p = [] →
    (homedOn s p ≠ [] → ∃ t, exec (.pillowDrain sl p mask) s = .next t
        ∧ getPil t p = { getPil s p with st := .draining, cmd := some sl, targets := m } ∧ (∀ q, q ≠ p → getPil t q = getPil s q)
        ∧ bit (getPage t (0x40 + p)).stat 8 = true ∧ t.ctxs = s.ctxs ∧ t.mem = s.mem ∧ t.journal = s.journal)
      ∧ (homedOn s p = [] → ∃ u, exec (.pillowDrain sl p mask) s = .next (mbxFinish u sl 0x62 MbxRes.ok)
        ∧ getPil u p = { getPil s p with st := .drained, cmd := none, targets := 0 } ∧ u.ctxs = s.ctxs ∧ u.mem = s.mem))
  ∧ (∀ (s : State) (sl : Slot) (p : Nat), MbxRuns s 0x63 → s.pair.st ≠ .standby → p < 16 → (getPil s p).st = .drained →
      bit s.pwc.pil p = true → s.groups.any (fun e => match e.2 with | some g => g.origin == some p | none => false) = false →
    ((ctxList s).any (fun e => e.2.origin == some p) = true → ∃ t, exec (.pillowReturn sl p) s = .next t
        ∧ getPil t p = { getPil s p with st := .returning, cmd := some sl } ∧ t.ctxs = s.ctxs ∧ t.mem = s.mem)
      ∧ ((ctxList s).any (fun e => e.2.origin == some p) = false →
        ∃ u, exec (.pillowReturn sl p) s = .next (mbxFinish u sl 0x63 MbxRes.ok)
          ∧ getPil u p = { getPil s p with st := .service, cmd := none, targets := 0 } ∧ u.ctxs = s.ctxs ∧ u.mem = s.mem))
  ∧ (∀ (s : State) (sl : Slot) (b : Fin 512), MbxRuns s 0x64 → (getBob s b).role = .quarantined → bit s.pwc.pil (b / 32) = true →
      (getBob s b).quarCount < 3 → (getPil s (b / 32)).st = .service → schedBobs s (b / 32) ≠ [] →
    ∃ u, exec (.bobbinRetest sl b true) s = .next (mbxFinish u sl 0x64 MbxRes.ok)
      ∧ (getBob u b).role = (if (spareOf s (b / 32)).isSome then .scheduled else .spare) ∧ bit u.pwc.bob b = true
      ∧ (getBob u b).quarCount = (getBob s b).quarCount ∧ (∀ j, j ≠ b.val → getBob u j = getBob s j)
      ∧ (∀ k, 0x2000 ≤ k → k < 0x10000 → readByte u (dramKey b k) = 0))
  ∧ (∀ (s : State) (sl : Slot) (b : Fin 512), MbxRuns s 0x64 → (getBob s b).role = .quarantined → bit s.pwc.pil (b / 32) = true →
      (getBob s b).quarCount < 3 → (getPil s (b / 32)).st = .service → schedBobs s (b / 32) ≠ [] → (getBob s b).frame = none →
      (getBob s b).shadow = none → spareOf s (b / 32) = none →
    ∃ u, exec (.bobbinRetest sl b false) s = .next (mbxFinish u sl 0x64 MbxRes.ok) ∧ (getBob u b).role = .quarantined
      ∧ (getBob u b).quarCount = (getBob s b).quarCount + 1 ∧ bit (getPage u (0x40 + b / 32)).stat 3 = true)
  ∧ (∀ (s : State) (sl : Slot) (p : Nat), mbxReady s = true → p < 16 →
    exec (.pillowStatus sl p) s = .next (mbxFinish (mbxTake s) sl 0x66 (MbxRes.ok 0 (Config.pillowStatus
      ((getPil s p).assign.flatMap (fun e => match e with | some v => [v.1, v.2] | none => [0, 0]))
      ((homedOn s p).flatMap (fun e => [e.1, e.2.bgOwner])) ((homedOn s p).filter (fun e => e.2.origin.isSome)).length)))))

/-! ### Pypian-2 -/

/-- An instruction whose every operand value is defined and that is guarded off only moves the pc; any instruction with GUARD_NEVER, whatever its
operands, ends the program as a fatal trap of cause 0x03; a reserved function code of ALU traps with cause 0x04 whatever the guard; and a fetched word
of an unassigned MAJOR traps with cause 0x02, one of MAJOR 0x36 to 0x3F with 0x01 (R248, R249, R251, R253). Clauses of it rest on choices of the
model: log entry 47. -/
def Obligations.GuardsAndReservedWords : Prop :=
  (∀ (s : State) (b : Fin 512) (fg : Bool) (l : Level) (w : OpWord), Fetches s b fg l → majorCause (iramWord s b l.pc) = 0 →
      l.guard w.guard.toNat w.n = false → w.guard ≠ 0 →
    ∀ i ∈ plainRows b w, exec i s = .next (putLevel s b fg { l with pc := l.pc + 4 }))
  ∧ (∀ (s : State) (b : Fin 512) (fg : Bool) (l : Level) (w : OpWord), Fetches s b fg l → majorCause (iramWord s b l.pc) = 0 →
      w.guard = 0 → w.n = true →
    ∀ i ∈ plainRows b w ++ checkedRows b w, ∃ v, exec i s = .next (fatalTrap s b fg 3 v))
  ∧ (∀ (s : State) (b : Fin 512) (fg : Bool) (l : Level) (w : OpWord), Fetches s b fg l → majorCause (iramWord s b l.pc) = 0 → 0x14 ≤ opFn w →
      ¬ (w.guard = 0 ∧ w.n = true) →
    exec (.alu b w) s = .next (fatalTrap s b fg 4 (wordOf 0x00 w)))
  ∧ (∀ (s : State) (b : Fin 512) (fg : Bool) (l : Level) (w : OpWord) (v : Word) (m : Nat), Fetches s b fg l → v = iramWord s b l.pc →
      m = fld v 27 22 →
    (m ∈ [0x07, 0x12, 0x13, 0x1A, 0x1B, 0x1C, 0x1D, 0x1E, 0x1F, 0x26, 0x27, 0x2D, 0x2E, 0x2F] →
        ∀ i ∈ plainRows b w ++ checkedRows b w, exec i s = .next (fatalTrap s b fg 2 v))
      ∧ (0x36 ≤ m → ∀ i ∈ plainRows b w ++ checkedRows b w, exec i s = .next (fatalTrap s b fg 1 v)))

/-- The functions of ALU (R253, R255): every result goes to rd, where g0 discards it, and the pc moves to the next word; a saturating result is the
exact one clamped to its range, with SAT where it clamps; the edge results of ABS and NEG set V. -/
def Obligations.AluResults : Prop :=
  ∀ (s : State) (b : Fin 512) (fg : Bool) (l : Level) (w : OpWord) (x y : Word), Issues s b fg l w [opRd w, opRa w, opRb w] →
      x = l.reg (opRa w) → y = l.reg (opRb w) →
    (∀ v : Word, (opFn w = 0 ∧ v = x + y) ∨ (opFn w = 1 ∧ v = x - y) ∨ (opFn w = 2 ∧ v = x &&& y) ∨ (opFn w = 3 ∧ v = x ||| y)
          ∨ (opFn w = 4 ∧ v = x ^^^ y) ∨ (opFn w = 5 ∧ v = x &&& ~~~y) ∨ (opFn w = 6 ∧ v.toInt = min x.toInt y.toInt)
          ∨ (opFn w = 7 ∧ v.toInt = max x.toInt y.toInt) ∨ (opFn w = 8 ∧ v.toNat = min x.toNat y.toNat)
          ∨ (opFn w = 9 ∧ v.toNat = max x.toNat y.toNat) →
        exec (.alu b w) s = .next (putLevel s b fg (l.setReg (opRd w) v).adv))
    ∧ (∀ (v : Word) (e : Int), (opFn w = 0x0A ∧ e = x.toInt + y.toInt) ∨ (opFn w = 0x0B ∧ e = x.toInt - y.toInt)
          ∨ (opFn w = 0x0F ∧ opRb w = 0 ∧ e = -x.toInt) ∨ (opFn w = 0x11 ∧ opRb w = 0 ∧ e = (x.toInt.natAbs : Int)) →
        v.toInt = max (-2 ^ 31) (min e (2 ^ 31 - 1)) →
        exec (.alu b w) s = .next (putLevel s b fg ((l.setReg (opRd w) v).flag (if v.toInt = e then 0 else flagSAT)).adv))
    ∧ (∀ (v : Word) (e : Int), (opFn w = 0x0C ∧ e = (x.toNat : Int) + (y.toNat : Int)) ∨ (opFn w = 0x0D ∧ e = (x.toNat : Int) - (y.toNat : Int)) →
        (v.toNat : Int) = max 0 (min e (2 ^ 32 - 1)) →
        exec (.alu b w) s = .next (putLevel s b fg ((l.setReg (opRd w) v).flag (if (v.toNat : Int) = e then 0 else flagSAT)).adv))
    ∧ (opRb w = 0 → opFn w = 0x0E ∨ opFn w = 0x10 → x = 0x80000000#32 →
        exec (.alu b w) s = .next (putLevel s b fg ((l.setReg (opRd w) 0x80000000#32).flag flagV).adv))
    ∧ (opRb w = 0 → ∀ v : Word, x ≠ 0x80000000#32 → (opFn w = 0x0E ∧ v.toInt = -x.toInt) ∨ (opFn w = 0x10 ∧ v.toInt = (x.toInt.natAbs : Int)) →
        exec (.alu b w) s = .next (putLevel s b fg (l.setReg (opRd w) v).adv))
    ∧ (opRb w = 0 → ∀ v : Word, (opFn w = 0x12 ∧ v.toInt = max (-2 ^ 15) (min x.toInt (2 ^ 15 - 1)))
          ∨ (opFn w = 0x13 ∧ v.toInt = max (-2 ^ 7) (min x.toInt (2 ^ 7 - 1))) →
        exec (.alu b w) s = .next (putLevel s b fg ((l.setReg (opRd w) v).flag (if v = x then 0 else flagSAT)).adv))

/-- R254: ADDI and the immediate of CMPI are sign-extended; ANDI, ORI and XORI zero-extend imm12; MOVHI sets rd to imm16 shifted left by 16; MOVLO
replaces the low half of rd and leaves the high half; and MOVHI followed by MOVLO builds any constant. -/
def Obligations.ImmediatesExtend : Prop :=
  (∀ (s : State) (b : Fin 512) (fg : Bool) (l : Level) (w : OpWord) (x i : Word), Issues s b fg l w [opRd w, opRa w] → x = l.reg (opRa w) →
    (exec (.addi b w) s = .next (putLevel s b fg (l.setReg (opRd w) (x + wInt (sgn 12 (opf w 11 0)))).adv))
    ∧ (exec (.andi b w) s = .next (putLevel s b fg (l.setReg (opRd w) (x &&& w32 (opf w 11 0))).adv))
    ∧ (exec (.ori b w) s = .next (putLevel s b fg (l.setReg (opRd w) (x ||| w32 (opf w 11 0))).adv))
    ∧ (exec (.xori b w) s = .next (putLevel s b fg (l.setReg (opRd w) (x ^^^ w32 (opf w 11 0))).adv))
    ∧ (opf w 16 16 = 0 → exec (.movhi b w) s = .next (putLevel s b fg (l.setReg (opRd w) (w32 (opf w 15 0) <<< 16)).adv))
    ∧ (opf w 16 16 = 0 → ∀ v : Word, fld v 31 16 = fld (l.reg (opRd w)) 31 16 → fld v 15 0 = opf w 15 0 →
        exec (.movlo b w) s = .next (putLevel s b fg (l.setReg (opRd w) v).adv))
    ∧ (opf w 21 19 ≠ 0 → opf w 18 17 = 0 → i = wInt (sgn 9 (opf w 8 0)) → ∀ c : Bool,
        (opf w 11 9 = 0 ∧ c = decide (x = i)) ∨ (opf w 11 9 = 1 ∧ c = decide (x ≠ i)) ∨ (opf w 11 9 = 2 ∧ c = decide (x.toInt < i.toInt))
          ∨ (opf w 11 9 = 3 ∧ c = decide (i.toInt ≤ x.toInt)) ∨ (opf w 11 9 = 4 ∧ c = decide (x.toNat < i.toNat))
          ∨ (opf w 11 9 = 5 ∧ c = decide (i.toNat ≤ x.toNat)) ∨ (opf w 11 9 = 6 ∧ c = decide (x &&& i ≠ 0))
          ∨ (opf w 11 9 = 7 ∧ c = decide (x &&& i = 0)) →
        exec (.cmpi b w) s = .next (putLevel s b fg (l.setPred (opf w 21 19) c).adv)))
  ∧ (∀ c v : Word, fld v 31 16 = fld (w32 (fld c 31 16) <<< 16) 31 16 → fld v 15 0 = fld c 15 0 → v = c)

/-- MULDIV, MAC, ACCRD and ACCWR (R255, R259, R260): the halves of the exact product; quotients that round towards zero and remainders with the sign
of the dividend, with the edge results of R255; sums of products of halves added into an accumulator of 48 bits, saturated with SAT or wrapped with
AV; and the accumulator written and read. Shifts, bit fields and permutation (R255 to R258), by what each bit of the result is. -/
def Obligations.MultiplyShiftAndFields : Prop :=
  (∀ (s : State) (b : Fin 512) (fg : Bool) (l : Level) (w : OpWord) (x y : Word), Issues s b fg l w [opRd w, opRa w, opRb w] →
      x = l.reg (opRa w) → y = l.reg (opRb w) →
    (∀ v : Word, (opFn w = 0 ∧ v.toNat = x.toNat * y.toNat % 2 ^ 32) ∨ (opFn w = 1 ∧ v.toInt = x.toInt * y.toInt / 2 ^ 32)
          ∨ (opFn w = 2 ∧ v.toNat = x.toNat * y.toNat / 2 ^ 32)
          ∨ (opFn w = 3 ∧ y ≠ 0 ∧ ¬ (x = 0x80000000#32 ∧ y = 0xFFFFFFFF#32) ∧ v.toInt = Int.tdiv x.toInt y.toInt)
          ∨ (opFn w = 4 ∧ y ≠ 0 ∧ v.toNat = x.toNat / y.toNat)
          ∨ (opFn w = 5 ∧ y ≠ 0 ∧ ¬ (x = 0x80000000#32 ∧ y = 0xFFFFFFFF#32) ∧ v.toInt = Int.tmod x.toInt y.toInt)
          ∨ (opFn w = 6 ∧ y ≠ 0 ∧ v.toNat = x.toNat % y.toNat) →
        exec (.muldiv b w) s = .next (putLevel s b fg (l.setReg (opRd w) v).adv))
    ∧ (y = 0 → opFn w = 3 ∨ opFn w = 4 → exec (.muldiv b w) s = .next (putLevel s b fg ((l.setReg (opRd w) 0).flag flagDZ).adv))
    ∧ (y = 0 → opFn w = 5 ∨ opFn w = 6 → exec (.muldiv b w) s = .next (putLevel s b fg ((l.setReg (opRd w) x).flag flagDZ).adv))
    ∧ (x = 0x80000000#32 → y = 0xFFFFFFFF#32 →
        (opFn w = 3 → exec (.muldiv b w) s = .next (putLevel s b fg ((l.setReg (opRd w) x).flag flagV).adv))
          ∧ (opFn w = 5 → exec (.muldiv b w) s = .next (putLevel s b fg ((l.setReg (opRd w) 0).flag flagV).adv)))
    ∧ (opf w 20 19 = 0 → opf w 3 0 = 0 → ∀ sum t : Int,
        (opf w 18 17 = 0 ∧ sum = sgn 16 (fld x 15 0) * sgn 16 (fld y 15 0) + sgn 16 (fld x 31 16) * sgn 16 (fld y 31 16))
          ∨ (opf w 18 17 = 1 ∧ sum = sgn 16 (fld x 15 0) * sgn 16 (fld y 31 16) + sgn 16 (fld x 31 16) * sgn 16 (fld y 15 0))
          ∨ (opf w 18 17 = 2 ∧ sum = sgn 16 (fld x 15 0) * sgn 16 (fld y 15 0) - sgn 16 (fld x 31 16) * sgn 16 (fld y 31 16)) →
        t = (if opf w 4 4 = 1 then 0 else l.acc (opf w 21 21)) + (if opf w 6 6 = 1 then -sum else sum) →
        (opf w 5 5 = 1 → exec (.mac b w) s = .next (putLevel s b fg ((l.setAcc (opf w 21 21) (max (-2 ^ 47) (min t (2 ^ 47 - 1)))).flag
            (if t < -2 ^ 47 ∨ 2 ^ 47 - 1 < t then flagSAT else 0)).adv))
          ∧ (opf w 5 5 = 0 → -2 ^ 47 ≤ t → t < 2 ^ 47 → exec (.mac b w) s = .next (putLevel s b fg (l.setAcc (opf w 21 21) t).adv))
          ∧ (opf w 5 5 = 0 → t < -2 ^ 47 ∨ 2 ^ 47 ≤ t → ∀ v : Int, -2 ^ 47 ≤ v → v < 2 ^ 47 → (2 ^ 48 : Int) ∣ t - v →
              exec (.mac b w) s = .next (putLevel s b fg ((l.setAcc (opf w 21 21) v).flag flagAV).adv)))
    ∧ (opf w 20 17 = 0 → opf w 6 0 = 0 → ∀ v : Int, -2 ^ 47 ≤ v → v < 2 ^ 47 →
        (2 ^ 48 : Int) ∣ v - (((fld x 15 0 * 2 ^ 32 + y.toNat : Nat) : Int)) →
        exec (.accwr b w) s = .next (putLevel s b fg (l.setAcc (opf w 21 21) v).adv))
    ∧ (opf w 7 0 = 0 → opf w 13 8 = 0 → opf w 15 14 = 0 →
        exec (.accrd b w) s = .next (putLevel s b fg (l.setReg (opRd w) (wInt (l.acc (opf w 16 16)))).adv))
    ∧ (opf w 7 0 = 0 → opf w 13 8 ≤ 47 → opf w 15 14 = 2 → ∀ (v : Word) (e : Int), e = l.acc (opf w 16 16) / (2 ^ opf w 13 8 : Nat) →
        v.toInt = max (-2 ^ 31) (min e (2 ^ 31 - 1)) →
        exec (.accrd b w) s = .next (putLevel s b fg ((l.setReg (opRd w) v).flag (if v.toInt = e then 0 else flagSAT)).adv)))
  ∧ (∀ (s : State) (b : Fin 512) (fg : Bool) (l : Level) (w : OpWord) (x y v : Word), Issues s b fg l w [opRd w, opRa w, opRb w] →
      x = l.reg (opRa w) → y = l.reg (opRb w) →
    ((opFn w = 0 ∧ (∀ k, k < 32 → v.getLsbD k = (decide (y.toNat ≤ k) && x.getLsbD (k - y.toNat))))
        ∨ (opFn w = 1 ∧ (∀ k, k < 32 → v.getLsbD k = x.getLsbD (k + y.toNat)))
        ∨ (opFn w = 2 ∧ (∀ k, k < 32 → v.getLsbD k = if k + y.toNat < 32 then x.getLsbD (k + y.toNat) else x.getLsbD 31))
        ∨ (opFn w = 3 ∧ (∀ k, k < 32 → v.getLsbD ((k + y.toNat) % 32) = x.getLsbD k))
        ∨ (opFn w = 4 ∧ (∀ k, k < 32 → v.getLsbD k = x.getLsbD ((k + y.toNat) % 32))) →
      exec (.shift b w) s = .next (putLevel s b fg (l.setReg (opRd w) v).adv))
    ∧ ((opFn w = 0 ∧ v.toNat = x.toNat * 2 ^ opf w 11 7 % 2 ^ 32) ∨ (opFn w = 1 ∧ v.toNat = x.toNat / 2 ^ opf w 11 7)
        ∨ (opFn w = 2 ∧ v.toInt = x.toInt / (2 ^ opf w 11 7 : Nat))
        ∨ (opFn w = 3 ∧ (∀ k, k < 32 → v.getLsbD ((k + opf w 11 7) % 32) = x.getLsbD k))
        ∨ (opFn w = 4 ∧ (∀ k, k < 32 → v.getLsbD k = x.getLsbD ((k + opf w 11 7) % 32))) →
      exec (.shifti b w) s = .next (putLevel s b fg (l.setReg (opRd w) v).adv))
    ∧ (opf w 0 0 = 0 → opf w 11 7 + opf w 6 2 + 1 ≤ 32 →
        (opf w 1 1 = 0 ∧ v.toNat = x.toNat / 2 ^ opf w 11 7 % 2 ^ (opf w 6 2 + 1))
          ∨ (opf w 1 1 = 1 ∧ v.toInt = sgn (opf w 6 2 + 1) (x.toNat / 2 ^ opf w 11 7)) →
        exec (.bfx b w) s = .next (putLevel s b fg (l.setReg (opRd w) v).adv))
    ∧ (opf w 1 0 = 0 → opf w 11 7 + opf w 6 2 + 1 ≤ 32 →
        (∀ k, k < 32 → v.getLsbD k = if opf w 11 7 ≤ k ∧ k < opf w 11 7 + opf w 6 2 + 1 then x.getLsbD (k - opf w 11 7)
          else (l.reg (opRd w)).getLsbD k) →
        exec (.bfi b w) s = .next (putLevel s b fg (l.setReg (opRd w) v).adv))
    ∧ (opf w 11 0 = 0 → v.toNat ≤ 32 → x.toNat < 2 ^ (32 - v.toNat) → 2 ^ 32 ≤ (x.toNat + x.toNat + (if x = 0 then 1 else 0)) * 2 ^ v.toNat →
        exec (.clz b w) s = .next (putLevel s b fg (l.setReg (opRd w) v).adv))
    ∧ (opf w 11 8 = 0 → (∀ j, j < 4 → fld v (8 * j + 7) (8 * j)
            = fld x (8 * bits (opf w 7 0) (2 * j + 1) (2 * j) + 7) (8 * bits (opf w 7 0) (2 * j + 1) (2 * j))) →
        exec (.perm b w) s = .next (putLevel s b fg (l.setReg (opRd w) v).adv)))

/-- Loads, stores and address generators (R261 to R265). A load of 1, 2, 4 or 8 bytes from a permitted place of the data RAM, nothing being buffered,
writes its register or pair of registers from the bytes there, little-endian, zero- or sign-extended, and advances the generator where UPD is set; a
store to a permitted place of the data RAM changes those bytes of memory and no other; a store outside the data RAM waits in the write buffer, where
that has room; a drain takes the buffer's oldest store to shared RAM where it is permitted there; FENCE with an empty buffer moves on; and the fields
of the generators are written and read, an IDX that is not below the length trapping. Clauses of it rest on choices of the model: log entries 14, 48,
63, 132 and 159. -/
def Obligations.LoadsAndStores : Prop :=
  (∀ (s : State) (b : Fin 512) (fg : Bool) (l r : Level) (w : OpWord) (g : AgSt) (a n v : Nat), Issues s b fg l w [opRd w, opRd w + 1] →
      opf w 10 10 = 0 → (opf w 16 15 = 3 → opRd w % 2 = 0) → (opf w 14 14 = 1 → opf w 16 15 < 2) → g = l.agen (opf w 13 12) → (g.mode = 2 → opDisp w = 0) →
      a = (g.addr (opDisp w)).toNat → n = 2 ^ opf w 16 15 → 0x10004000 ≤ a → a + n ≤ 0x10010000 →
      accessFault s b (getBob s b) fg l.super .rd a n = none → (getBob s b).wbuf = [] →
      v = ofLe (readBytes s (dramKey b (a - 0x10000000)) n) →
      r = (if opf w 16 15 = 3 then (l.setReg (opRd w) (w32 v)).setReg (opRd w + 1) (w32 (v / 2 ^ 32))
        else l.setReg (opRd w) (if opf w 14 14 = 1 then wInt (sgn (8 * n) v) else w32 v)) →
    exec (.ld b w) s = .next (putLevel s b fg (if opf w 11 11 = 1 then r.setAgen (opf w 13 12) g.advance else r).adv))
  ∧ (∀ (s : State) (b : Fin 512) (fg : Bool) (l : Level) (w : OpWord) (g : AgSt) (a n v : Nat), Issues s b fg l w [opRd w, opRd w + 1] →
      opf w 10 10 = 0 → (opf w 16 15 = 3 → opRd w % 2 = 0) → opf w 14 14 = 0 → g = l.agen (opf w 13 12) → (g.mode = 2 → opDisp w = 0) →
      a = (g.addr (opDisp w)).toNat → n = 2 ^ opf w 16 15 → 0x10004000 ≤ a → a + n ≤ 0x10010000 →
      accessFault s b (getBob s b) fg l.super .wr a n = none →
      v = (l.reg (opRd w)).toNat + (if opf w 16 15 = 3 then (l.reg (opRd w + 1)).toNat * 2 ^ 32 else 0) →
    ∃ t, exec (.st b w) s = .next t ∧ readBytes t (dramKey b (a - 0x10000000)) n = leBytes n v
      ∧ (∀ k, k < dramKey b (a - 0x10000000) ∨ dramKey b (a - 0x10000000) + n ≤ k → readByte t k = readByte s k)
      ∧ (getBob t b).level fg = (if opf w 11 11 = 1 then l.setAgen (opf w 13 12) g.advance else l).adv
      ∧ (∀ k, k ≠ b.val → getBob t k = getBob s k) ∧ t = { s with mem := t.mem, bobbins := t.bobbins })
  ∧ (∀ (s : State) (b : Fin 512) (fg : Bool) (l : Level) (w : OpWord) (g : AgSt) (a n v : Nat), Issues s b fg l w [opRd w, opRd w + 1] →
      opf w 10 10 = 0 → (opf w 16 15 = 3 → opRd w % 2 = 0) → opf w 14 14 = 0 → g = l.agen (opf w 13 12) → (g.mode = 2 → opDisp w = 0) →
      a = (g.addr (opDisp w)).toNat → n = 2 ^ opf w 16 15 → a < 0x10000000 ∨ 0x10010000 ≤ a → (getBob s b).wbuf.length < 8 →
      v = (l.reg (opRd w)).toNat + (if opf w 16 15 = 3 then (l.reg (opRd w + 1)).toNat * 2 ^ 32 else 0) →
    exec (.st b w) s = .next (modBob s b (fun x =>
      { x.setLevel fg (if opf w 11 11 = 1 then l.setAgen (opf w 13 12) g.advance else l).adv with
        wbuf := x.wbuf ++ [⟨fg, l.super, a, leBytes n v⟩] })))
  ∧ (∀ (s : State) (b : Fin 512) (e : BufStore) (rest : List BufStore), (getBob s b).wbuf = e :: rest → 0x20000000 ≤ e.addr →
      e.addr + e.bytes.length ≤ 0x20100000 →
      accessFault s b { getBob s b with wbuf := rest } e.fg e.super .wr e.addr e.bytes.length = none →
    ∃ t, exec (.storeDrain b) s = .next t ∧ (getBob t b) = { getBob s b with wbuf := rest }
      ∧ readBytes t (sharedKey (b / 32) (e.addr - 0x20000000)) e.bytes.length = e.bytes
      ∧ (∀ k, k < sharedKey (b / 32) (e.addr - 0x20000000) ∨ sharedKey (b / 32) (e.addr - 0x20000000) + e.bytes.length ≤ k →
          readByte t k = readByte s k))
  ∧ (∀ (s : State) (b : Fin 512) (fg : Bool) (l : Level) (w : OpWord), Issues s b fg l w [] → opf w 21 0 = 0 → (getBob s b).wbuf = [] →
    exec (.fence b w) s = .next (putLevel s b fg l.adv))
  ∧ (∀ (s : State) (b : Fin 512) (fg : Bool) (l : Level) (w : OpWord) (g : AgSt), Issues s b fg l w [opRd w] → opf w 16 4 = 0 →
      g = l.agen (opf w 3 2) →
    (opf w 1 0 = 0 → exec (.agset b w) s = .next (putLevel s b fg (l.setAgen (opf w 3 2) { g with base := l.reg (opRd w) }).adv))
      ∧ (opf w 1 0 = 1 → agCfgBad (l.reg (opRd w)) = false →
          exec (.agset b w) s = .next (putLevel s b fg (l.setAgen (opf w 3 2) { g with cfg := l.reg (opRd w), idx := 0 }).adv))
      ∧ (opf w 1 0 = 2 → exec (.agset b w) s = .next (putLevel s b fg (l.setAgen (opf w 3 2) { g with inc := l.reg (opRd w) }).adv))
      ∧ (opf w 1 0 = 3 → g.mode = 0 ∨ (l.reg (opRd w)).toNat < g.len →
          exec (.agset b w) s = .next (putLevel s b fg (l.setAgen (opf w 3 2) { g with idx := l.reg (opRd w) }).adv))
      ∧ (opf w 1 0 = 3 → g.mode ≠ 0 → g.len ≤ (l.reg (opRd w)).toNat → exec (.agset b w) s = .next (fatalTrap s b fg 0x0B (wordOf 0x16 w)))
      ∧ (exec (.agget b w) s = .next (putLevel s b fg (l.setReg (opRd w)
          (if opf w 1 0 = 0 then g.base else if opf w 1 0 = 1 then g.cfg else if opf w 1 0 = 2 then g.inc else g.idx)).adv)))

/-- Compare and branch (R266, R267, R273): the condition combined into the predicate named; the relative and absolute targets, with the link in g31; a
target of JR that is no multiple of 4 traps; ERET in supervisor mode restores the mode and the pc and clears TRAPPED, and traps in user mode; and EXIT
of the foreground level after VERDICT.PUT, nothing being buffered, lets the frame go. Clauses of it rest on choices of the model: log entry 48. -/
def Obligations.CompareAndBranch : Prop :=
  (∀ (s : State) (b : Fin 512) (fg : Bool) (l : Level) (w : OpWord) (x y : Word) (c : Bool), Issues s b fg l w [opRa w, opRb w] →
      opf w 2 0 = 0 → opf w 21 19 ≠ 0 → x = l.reg (opRa w) → y = l.reg (opRb w) →
      (opf w 6 3 = 0 ∧ c = decide (x = y)) ∨ (opf w 6 3 = 1 ∧ c = decide (x ≠ y)) ∨ (opf w 6 3 = 2 ∧ c = decide (x.toInt < y.toInt))
        ∨ (opf w 6 3 = 3 ∧ c = decide (y.toInt ≤ x.toInt)) ∨ (opf w 6 3 = 4 ∧ c = decide (x.toNat < y.toNat))
        ∨ (opf w 6 3 = 5 ∧ c = decide (y.toNat ≤ x.toNat)) ∨ (opf w 6 3 = 6 ∧ c = decide (x &&& y ≠ 0))
        ∨ (opf w 6 3 = 7 ∧ c = decide (x &&& y = 0)) →
    (opf w 18 17 = 0 → exec (.cmp b w) s = .next (putLevel s b fg (l.setPred (opf w 21 19) c).adv))
      ∧ (opf w 18 17 = 1 → exec (.cmp b w) s = .next (putLevel s b fg (l.setPred (opf w 21 19) (l.pred (opf w 21 19) && c)).adv))
      ∧ (opf w 18 17 = 2 → exec (.cmp b w) s = .next (putLevel s b fg (l.setPred (opf w 21 19) (l.pred (opf w 21 19) || c)).adv)))
  ∧ (∀ (l : Level) (n k : Nat) (c : Bool), 0 < n → (l.setPred n c).pred n = c ∧ (k ≠ n → (l.setPred n c).pred k = l.pred k)
      ∧ (l.setPred n c).g = l.g ∧ (l.setPred n c).estat = l.estat)
  ∧ (∀ (s : State) (b : Fin 512) (fg : Bool) (l : Level) (w : OpWord), Issues s b fg l w [31, opRa w] →
    (exec (.br b w) s = .next (putLevel s b fg { l with pc := l.pc + wInt (4 * sgn 22 (opf w 21 0)) }))
      ∧ (exec (.call b w) s = .next (putLevel s b fg { l.setReg 31 (l.pc + 4) with pc := l.pc + wInt (4 * sgn 22 (opf w 21 0)) }))
      ∧ (opf w 21 17 = 0 → opf w 11 2 = 0 → fld (l.reg (opRa w)) 1 0 = 0 →
          exec (.jr b w) s = .next (putLevel s b fg { l with pc := l.reg (opRa w) }))
      ∧ (opf w 21 17 = 0 → opf w 11 2 = 0 → fld (l.reg (opRa w)) 1 0 ≠ 0 → ∃ v, exec (.jr b w) s = .next (fatalTrap s b fg 0x2C v))
      ∧ (opf w 21 2 = 0 → fld (l.reg 31) 1 0 = 0 → exec (.ret b w) s = .next (putLevel s b fg { l with pc := l.reg 31 }))
      ∧ (opf w 21 2 = 0 → l.super = true →
          exec (.eret b w) s = .next (putLevel s b fg { l with super := l.emode, pc := l.epc, trapped := false }))
      ∧ (opf w 21 2 = 0 → l.super = false → ∃ v, exec (.eret b w) s = .next (fatalTrap s b fg 0x2D v)))
  ∧ (∀ (s : State) (b : Fin 512) (l : Level) (w : OpWord) (h : Nat), Issues s b true l w [] → opf w 21 2 = 0 → (getBob s b).wbuf = [] →
      (getBob s b).put = true → (getBob s b).frame = some h →
    ∃ t, exec (.exit b w) s = .next t ∧ (getBob t b).frame = none ∧ (getBob t b).put = false ∧ (getBob t b).stage = [] ∧ t.mem = s.mem
      ∧ t.ctxs = s.ctxs)

/-- Special registers, traps and services (R245 to R247, R273, R274, R277): ESTAT read and written, the level and mode read, a read-only register not
written; EPC in supervisor mode only, and as a multiple of 4; TRAP to a service of the level saves the next pc, the mode and the word and goes to the
service vector; the three services, none of whose registers waits for a lane result, have their effect and return behind the TRAP. Clauses of it rest
on choices of the model: log entry 47. -/
def Obligations.SpecialRegistersAndServices : Prop :=
  (∀ (s : State) (b : Fin 512) (fg : Bool) (l : Level) (w : OpWord), Issues s b fg l w [opRd w] → opf w 16 6 = 0 →
    (opf w 4 0 = 0 → exec (.mfs b w) s = .next (putLevel s b fg (l.setReg (opRd w) (w32 l.estat)).adv))
      ∧ (opf w 4 0 = 3 → exec (.mfs b w) s = .next (putLevel s b fg (l.setReg (opRd w) (w32 (bnat fg + 2 * bnat l.super))).adv))
      ∧ (opf w 4 0 = 8 → l.super = true → exec (.mfs b w) s = .next (putLevel s b fg (l.setReg (opRd w) l.epc).adv))
      ∧ (opf w 4 0 = 8 → l.super = false → ∃ v, exec (.mfs b w) s = .next (fatalTrap s b fg 0x2D v))
      ∧ (opf w 4 0 = 0 → (l.reg (opRd w)).toNat < 16 →
          exec (.mts b w) s = .next (putLevel s b fg { l with estat := (l.reg (opRd w)).toNat, pc := l.pc + 4 }))
      ∧ (opf w 4 0 = 8 → l.super = true →
          exec (.mts b w) s = .next (putLevel s b fg { l with epc := l.reg (opRd w) &&& 0xFFFFFFFC#32, pc := l.pc + 4 }))
      ∧ (opf w 4 0 = 2 → ∃ v, exec (.mts b w) s = .next (fatalTrap s b fg 0x0C v)))
  ∧ (∀ (s : State) (b : Fin 512) (fg : Bool) (l : Level) (w : OpWord), Issues s b fg l w [] → opf w 21 4 = 0 → l.trapped = false →
      opf w 3 0 = 3 ∨ (opf w 3 0 = 1 ∧ fg = true) ∨ (opf w 3 0 = 2 ∧ fg = false) →
    exec (.trap b w) s = .next (putLevel s b fg { l with
      epc := l.pc + 4, ecause := 0x40, eval := wordOf 0x23 w, emode := l.super, super := true, trapped := true, pc := 0x180 }))
  ∧ (∀ (s : State) (b : Fin 512) (h i : Nat), inService (getBob s b).fg 1 = true → svcStalls (getBob s b).fg [4, 5] = false →
      (getBob s b).frame = some h →
      levelCtx s (getBob s b) true = some i → ((getBob s b).fg.reg 4).toNat = 1 ∨ ((getBob s b).fg.reg 4).toNat = 3 →
    exec (.bgpost b) s = .next (setBob s b { getBob s b with
      posts := (getBob s b).posts ++ [⟨((getBob s b).fg.reg 4).toNat, i, ((getBob s b).fg.reg 5).toNat, []⟩],
      fg := { (getBob s b).fg with super := (getBob s b).fg.emode, pc := (getBob s b).fg.epc, trapped := false } }))
  ∧ (∀ (s : State) (b : Fin 512) (it : BgItem), inService (getBob s b).bg 2 = true → svcStalls (getBob s b).bg [4, 5] = false →
      (getBob s b).frame = none →
      (getBob s b).item = some it → ((getBob s b).bg.reg 5).toNat % 4 = 0 → ((getBob s b).bg.reg 5).toNat < 32 →
    exec (.flagpost b) s = .next (setBob s b { getBob s b with
      item := some { it with flags := it.flags ++ [(((getBob s b).bg.reg 4).toNat, ((getBob s b).bg.reg 5).toNat)] },
      bg := { (getBob s b).bg with super := (getBob s b).bg.emode, pc := (getBob s b).bg.epc, trapped := false } }))
  ∧ (∀ (s : State) (b : Fin 512) (fg : Bool), activeFg (getBob s b) = some fg → inService ((getBob s b).level fg) 3 = true →
      svcStalls ((getBob s b).level fg) [4, 5, 6] = false →
    ∃ t, exec (.time b) s = .next t ∧ ((getBob t b).level fg).reg 4 = w32 s.ptp.sec
      ∧ ((getBob t b).level fg).reg 5 = w32 (s.ptp.sec / 2 ^ 32 % 2 ^ 16) ∧ ((getBob t b).level fg).reg 6 = ptpStateWord s
      ∧ ((getBob t b).level fg).pc = ((getBob s b).level fg).epc ∧ ((getBob t b).level fg).trapped = false
      ∧ ((getBob t b).level fg).super = ((getBob s b).level fg).emode
      ∧ (∀ r, r ≠ 4 → r ≠ 5 → r ≠ 6 → ((getBob t b).level fg).reg r = ((getBob s b).level fg).reg r) ∧ t = { s with bobbins := t.bobbins })

/-- The stream operations of the foreground level (R268 to R272), of the scheduled run of a frame: the frame's words and the context's words are read;
a word of the program's own is staged; a lane request whose block is in order, of a frame that is whole and has written nothing, waits in front of the
arbiter and no register changes yet. VERDICT.PUT with a defined value and an empty write buffer ends the frame by its value, or waits for the shadow
run where there is one; a pass that the lane's STATUS does not allow fails the frame. Clauses of it rest on choices of the model: log entries 16, 48
and 132. -/
def Obligations.StreamOperations : Prop :=
  (∀ (s : State) (b : Fin 512) (l : Level) (w : OpWord) (h i : Nat) (f : FrameRec) (c : Ctx), Issues s b true l w [opRd w, opRa w] →
      Holds s b h i f c →
    (opf w 16 4 = 0 → opf w 3 0 < 0xD →
        exec (.frameGet b w) s = .next (putLevel s b true (l.setReg (opRd w) (frameWord f (opf w 3 0))).adv))
      ∧ (opf w 11 7 = 0 → opf w 6 0 % 4 = 0 → opf w 6 0 ≤ 0x5C → opRa w = 0 → smapGet (fun _ => none) (getBob s b).ctxStage (opf w 6 0 / 4) = none →
        exec (.ctxLd b w) s = .next (putLevel s b true (l.setReg (opRd w) (c.word (opf w 6 0))).adv))
      ∧ (opf w 16 7 = 0 → opf w 6 0 % 4 = 0 → 0x4C ≤ opf w 6 0 → opf w 6 0 ≤ 0x58 →
        ∃ t, exec (.ctxSt b w) s = .next t ∧ smapGet (fun _ => none) (getBob t b).ctxStage (opf w 6 0 / 4) = some (l.reg (opRd w))
          ∧ (getBob t b).fg = l.adv ∧ getCtx t i = some c ∧ t = { s with bobbins := t.bobbins })
      ∧ (opf w 11 0 = 0 → (l.reg (opRa w)).toNat % 16 = 0 → 0x10004000 ≤ (l.reg (opRa w)).toNat → (l.reg (opRa w)).toNat + 16 ≤ 0x10008000 →
        (∀ blk, blk = (List.range 4).map (fun k => ofLe (readBytes s (dramKey b ((l.reg (opRa w)).toNat - 0x10000000 + 4 * k)) 4)) →
          laneReqCause c.alg f.frame.bytes.length blk = none → f.rxDone = true → f.lanePending = false → laneWaiting s b = false →
          f.wrote = [] →
          ∃ (t : State) (r : LaneReq), exec (.laneReq b w) s = .next t
            ∧ (getPil t (b / 32)).arb.waiting = (getPil s (b / 32)).arb.waiting ++ [(b.val % 32, r)] ∧ r.op = bits (blk.getD 0 0) 31 28
            ∧ r.cls = (if c.prio then 2 else 1) ∧ r.bobbin = some b.val ∧ r.frame = some h ∧ r.block = blk ∧ r.rd = opRd w
            ∧ r.key = some (if bits (blk.getD 0 0) 27 27 = 1 then c.nextRef else c.curRef) ∧ t.bobbins = s.bobbins ∧ t.mem = s.mem)))
  ∧ (∀ (s : State) (b : Fin 512) (l : Level) (w : OpWord) (h i : Nat) (f : FrameRec) (c : Ctx) (v : Word), Issues s b true l w [opRa w] →
      Holds s b h i f c → opf w 21 17 = 0 → opf w 11 0 = 0 → v = l.reg (opRa w) → verdictBad c.alg v = false → f.lanePending = false →
      f.rxDone = true → (getBob s b).wbuf = [] → f.vote = [] →
    (shadowed s b h = false →
        exec (.verdictPut b w) s = .next (verdictPut (afterPut s b) h f i c (fld v 7 0) (fld v 14 8)))
      ∧ (shadowed s b h = true →
        exec (.verdictPut b w) s = .next (modBob (afterPut s b) b (fun x => { x with await := some (fld v 7 0, fld v 14 8) }))))
  ∧ (∀ (s : State) (b : Fin 512) (h i n code flags : Nat) (f : FrameRec) (c : Ctx), Holds s b h i f c → f.stage = .running → f.bobbin = some b.val →
      f.src = .port n → f.delivery = none → c.pubDir = false → c.failPol = false → c.removing = none → c.changes = [] →
      pairFails s f.pillow = false → c.pendingEval = false →
      (c.alg ≠ 0 ∧ isPass code = true ∧ f.laneStatus ≠ some 0) ∨ (isPass code = false ∧ code ≠ 0x80) →
    ∃ t, t = verdictPut (afterPut s b) h f i c code flags ∧ (getBob t b).put = true ∧ getCtx t i = some c.failFrame
      ∧ t.pool.free = s.pool.free + f.cells ∧ (∀ j, j ≠ i → getCtx t j = getCtx s j) ∧ t.mem = s.mem)

/-- The retired opcodes in a Pypian-1 image outside the runtime (R278): MAC40 wraps its sum to 40 bits; SWAPH exchanges the halves; CRC16 answers 16
bits; DIVSTEP writes its two registers with values that the spec leaves open (log entry 17); LDX and STX load and store a word of the data RAM at a
permitted address. In an image of any other ISA each of them ends the program with OPC_EXT. Clauses of it rest on choices of the model: log entry 17.
-/
def Obligations.RetiredOpcodes : Prop :=
  (∀ (s : State) (b : Fin 512) (fg : Bool) (l : Level) (w : OpWord) (im : Image), Issues s b fg l w [opRd w, opRa w, opRb w] →
      levelImage s b (getBob s b) fg = some im → im.isa = 1 → l.trapped = false →
    (∀ v t : Int, t = l.acc0 + sgn 16 (fld (l.reg (opRa w)) 15 0) * sgn 16 (fld (l.reg (opRb w)) 15 0) → -2 ^ 39 ≤ v → v < 2 ^ 39 →
        (2 ^ 40 : Int) ∣ t - v → exec (.mac40 b w) s = .next (putLevel s b fg { l with acc0 := v, pc := l.pc + 4 }))
      ∧ (∀ v : Word, fld v 31 16 = fld (l.reg (opRa w)) 15 0 → fld v 15 0 = fld (l.reg (opRa w)) 31 16 →
        exec (.swaph b w) s = .next (putLevel s b fg (l.setReg (opRd w) v).adv))
      ∧ (∃ v : Word, v.toNat < 2 ^ 16 ∧ exec (.crc16 b w) s = .next (putLevel s b fg (l.setReg (opRd w) v).adv))
      ∧ (exec (.divstep b w) s = .next (putLevel { s with freeCtr := s.freeCtr + 2 } b fg
          ((l.setReg (opRa w) (w32 (Config.freeValue (s.freeCtr + 1)))).setReg (opRd w) (w32 (Config.freeValue s.freeCtr))).adv))
      ∧ (∀ a, a = (l.reg (opRa w) + l.reg (opRb w)).toNat → 0x10004000 ≤ a → a + 4 ≤ 0x10010000 → (getBob s b).wbuf = [] →
        (accessFault s b (getBob s b) fg l.super .rd a 4 = none →
          exec (.ldx b w) s = .next (putLevel s b fg (l.setReg (opRd w) (w32 (ofLe (readBytes s (dramKey b (a - 0x10000000)) 4)))).adv))
        ∧ (accessFault s b (getBob s b) fg l.super .wr a 4 = none →
          ∃ t, exec (.stx b w) s = .next t ∧ readBytes t (dramKey b (a - 0x10000000)) 4 = leBytes 4 (l.reg (opRd w)).toNat
            ∧ (∀ k, k < dramKey b (a - 0x10000000) ∨ dramKey b (a - 0x10000000) + 4 ≤ k → readByte t k = readByte s k)
            ∧ (getBob t b).level fg = l.adv)))
  ∧ (∀ (s : State) (b : Fin 512) (fg : Bool) (l : Level) (w : OpWord) (im : Image), Issues s b fg l w [opRd w, opRa w, opRb w] →
      levelImage s b (getBob s b) fg = some im → im.isa ≠ 1 →
    exec (.mac40 b w) s = .next (fatalTrap s b fg 1 (wordOf 0x30 w)) ∧ exec (.ldx b w) s = .next (fatalTrap s b fg 1 (wordOf 0x31 w))
      ∧ exec (.stx b w) s = .next (fatalTrap s b fg 1 (wordOf 0x32 w)) ∧ exec (.crc16 b w) s = .next (fatalTrap s b fg 1 (wordOf 0x33 w))
      ∧ exec (.swaph b w) s = .next (fatalTrap s b fg 1 (wordOf 0x34 w)) ∧ exec (.divstep b w) s = .next (fatalTrap s b fg 1 (wordOf 0x35 w)))

/-! ### Memory, firewall, host and slices -/

/-- Errors of cells and link words (R288): cell data that cannot be corrected ends the frame of a bobbin, whose level stops, its context's failures
and the errors counted; a link word with one good copy is repaired, counted and reported; with both copies bad the pool restarts, a waiting frame gone
and counted against its context, and every egress queue is empty; the end of the restart is reported and counted. A dispatch on a pillow whose inputs
are empty is an underrun, kept in the queue's state and counted (R286). DRAM controllers (R291, R294): an uncorrectable error is counted and reported;
repeated errors in one burst of a controller that is on, and a training that fails, bring a module that is not there into the start-up hold with cause
2; a training that ends well brings the controller into SERVICE with DRAMSTATE. Clauses of it rest on choices of the model: log entries 70 and 140. -/
def Obligations.PoolAndDramErrors : Prop :=
  ((∀ (s : State) (h i n b : Nat) (f : FrameRec) (c : Ctx), getFrame s h = some f → f.stage = .running → f.bobbin = some b → f.ctx = some i →
      f.src = .port n → f.delivery = none → (getBob s b).frame = some h → getCtx s i = some c → c.pubDir = false → c.failPol = false →
      c.removing = none → c.changes = [] →
    ∃ t, exec (.cellDataEcc h) s = .next t ∧ (getBob t b).stop = true ∧ (getBob t b).stage = [] ∧ getCtx t i = some c.failFrame
      ∧ t.pool.free = s.pool.free + f.cells ∧ bit (getPage t 0xA0).stat 3 = true ∧ getReg t 0xA003C = satInc (getReg s 0xA003C)
      ∧ (∀ j, j ≠ i → getCtx t j = getCtx s j) ∧ t.mem = s.mem)
  ∧ (∀ s : State, exec (.linkWordEcc false) s = .next (setEvt (incReg s 0xA0040) 0xA0 5))
  ∧ (∀ (s : State) (h i n : Nat) (f : FrameRec) (c : Ctx), s.pool.frames = [(h, some f)] → f.stage = .ready → f.delivery = none →
      f.bobbin = none → f.src = .port n → f.ctx = some i → getCtx s i = some c → c.removing = none →
    ∃ t, exec (.linkWordEcc true) s = .next t ∧ t.pool.restarting = true ∧ t.pool.under = [] ∧ getFrame t h = none
      ∧ getCtx t i = some c.failFrame ∧ (∀ k, (getPort t k).q1 = [] ∧ (getPort t k).q2 = [] ∧ (getPort t k).q3 = [] ∧ (getPort t k).tx = none)
      ∧ (∀ j, j ≠ i → getCtx t j = getCtx s j) ∧ t.mem = s.mem)
  ∧ (∀ s : State, s.pool.restarting = true →
    ∃ t, exec .poolRestartDone s = .next t ∧ t.pool = { s.pool with restarting := false } ∧ bit (getPage t 0xA0).stat 6 = true
      ∧ getReg t 0xA0044 = satInc (getReg s 0xA0044) ∧ t.mem = s.mem ∧ t.ctxs = s.ctxs)
  ∧ (∀ (s : State) (p : Fin 16), pillowRuns s p = true → (frameList s).all (fun e => !(e.2.stage == .ready && e.2.pillow == p.val)) = true →
    ∃ t, exec (.frameDispatch p) s = .next t ∧ t.pool = { s.pool with under := 2 * p.val :: s.pool.under.filter (· != 2 * p.val) }
      ∧ bit (getPage t 0xA0).stat 4 = true ∧ getReg t 0xA0034 = satInc (getReg s 0xA0034)
      ∧ t = { s with pool := t.pool, regs := t.regs, pages := t.pages, msix := t.msix }))
  ∧ ((∀ (s : State) (n : Fin 2), exec (.dramEccError n false) s = .next (setEvt (incReg s 0xA1034) 0xA0 7))
  ∧ (∀ (s : State) (n : Fin 2), (getDram s n).st ≠ .off → s.boot.phase ≠ .hold →
    ∃ t, exec (.dramEccError n true) s = .next t ∧ t.boot.phase = .hold ∧ t.boot.cause = 2 ∧ t.boot.portHold = true)
  ∧ (∀ (s : State) (n : Fin 2), (getDram s n).st = .training →
    ∃ t, exec (.dramTrainingDone n true) s = .next t ∧ (getDram t n).st = .service ∧ (∀ m : Fin 2, m ≠ n → getDram t m = getDram s m)
      ∧ bit (getPage t 0xA0).stat 8 = true ∧ t = { s with pool := t.pool, pages := t.pages, msix := t.msix })
  ∧ (∀ (s : State) (n : Fin 2), (getDram s n).st = .training → s.boot.phase ≠ .hold →
    ∃ t, exec (.dramTrainingDone n false) s = .next t ∧ t.boot.phase = .hold ∧ t.boot.cause = 2))

/-- The firewall (R293, R295 to R303) on accesses of 1 to 128 bytes within one 4 KiB block: a permitted write outside the context store, to DRAM under
its keys, makes its bytes read as the data and changes no other, a permitted read changes nothing; a refused access of a control processor or a pillow
writes nothing and is reported in the FIFO with its master and rule, or counted as lost where the FIFO is full; a byte that no DENY rule matches is
judged by the map and the grants; a commit makes the shadow rules active but the locked ones and advances the epoch, or waits for a drain; the end of
a drain sets COMMITDONE; FWL_VPOP takes the oldest report; and DRF_QSEL latches the state of the queue selected (R290). Clauses of it rest on choices
of the model: log entries 32, 71, 72, 153 and 162. -/
def Obligations.FirewallAndSnapshot : Prop :=
  (∀ (s : State) (m : BitVec 8) (a len : Nat) (data : List Byte), 0 < len → len ≤ 128 → a / 4096 = (a + len - 1) / 4096 → a < 2 ^ 36 →
    (accessRule s m.toNat true a len = none → data.length = len → (∀ k, k < len → inSlices (a + k) = false) →
          (inDram a = true → (getDram s (a / 0x100000000)).keyVal = true) →
        ∃ t, exec (.fabricAccess m a true len data) s = .next t ∧ (List.range len).map (fun k => fabricRead t (a + k)) = data
          ∧ (∀ x, x < a ∨ a + len ≤ x → readByte t x = readByte s x) ∧ t = { s with mem := t.mem })
      ∧ (accessRule s m.toNat false a len = none → exec (.fabricAccess m a false len data) s = .next s)
      ∧ (∀ (wr : Bool) (x r : Nat), accessRule s m.toNat wr a len = some (x, r) → m.toNat < 0x20 →
        ∃ t, exec (.fabricAccess m a wr len data) s = .next t ∧ t.mem = s.mem ∧ getReg t 0xB0038 = satInc (getReg s 0xB0038)
          ∧ (s.fwl.fifo.length < 32 → t.fwl = { s.fwl with fifo := s.fwl.fifo ++ [⟨x, wr, m.toNat, r⟩] } ∧ bit (getPage t 0xB0).stat 0 = true)
          ∧ (32 ≤ s.fwl.fifo.length → t.fwl = s.fwl ∧ bit (getPage t 0xB0).stat 1 = true ∧ getReg t 0xB003C = satInc (getReg s 0xB003C))))
  ∧ (∀ (s : State) (m : Nat) (wr : Bool) (a : Nat), denyRule s m wr a = none →
      byteRule s m wr a = (if mapped a = false then some 0x101 else if fwlBooted s && granted m wr a then none else some 0x100))
  ∧ (∀ (s : State) (by_ : Party) (v : Word), writeCause s by_ 4 0xB1034 v = 0 → smapWf (fun _ => FwlRule.zero) s.fwl.active = true →
    (s.fwl.drain = false → ∃ t, exec (.fwlCommit by_ v) s = .next t ∧ t.fwl.epoch = s.fwl.epoch + 1 ∧ t.fwl.drain = true
        ∧ (∀ n, 64 ≤ n → getActive t n = (if fld (getActive s n).ctl 30 30 = 1 then getActive s n else getShadow s n))
        ∧ t.fwl.shadow = s.fwl.shadow ∧ t.fwl.fifo = s.fwl.fifo ∧ t = { s with fwl := t.fwl, pages := t.pages })
      ∧ (s.fwl.drain = true → exec (.fwlCommit by_ v) s
          = .next { modPage s 0xB1 (fun g => g.setArmed by_ false) with fwl := { s.fwl with commitDue := true } }))
  ∧ (∀ s : State, s.fwl.drain = true → s.fwl.commitDue = false →
    ∃ t, exec .fwlDrainEnd s = .next t ∧ t.fwl = { s.fwl with drain := false } ∧ bit (getPage t 0xB0).stat 3 = true
      ∧ t = { s with fwl := t.fwl, pages := t.pages, msix := t.msix })
  ∧ (∀ (s : State) (by_ : Party) (v : Word), writeCause s by_ 4 0xB0034 v = 0 →
    exec (.fwlVpop by_ v) s = .next { modPage s 0xB0 (fun g => g.setArmed by_ false) with fwl := { s.fwl with fifo := s.fwl.fifo.drop 1 } })
  ∧ (∀ (s : State) (by_ : Party) (v : Word) (n cells : Nat), writeCause s by_ 4 0xA1020 v = 0 → queueOf s (fld v 12 0) = (n, cells) →
    ∃ t, exec (.drfQsel by_ v) s = .next t ∧ getReg t 0xA1020 = v &&& 0x1FFF#32 ∧ t.pool.qcells = w32 cells
      ∧ t.pool.qstat = pack [(bnat (n == 0), 31), (bnat (s.pool.under.contains (fld v 12 0)), 30), (n, 0)]
      ∧ t = { s with pool := t.pool, regs := t.regs, pages := t.pages })

/-- Doorbells (R308, R318, R319): an index inside the ring, and for DB_CQHEAD not past the last entry written, moves the producer or consumer index,
and ARM arms the slice; any other index is ignored with DBERR of the slice and of SLM; while the slice is not ACTIVE or the function is not open to
the host a doorbell does nothing; and an armed slice whose entry waited sends its vector once when IRQDELAY is up. The indices of the manager and the
mailbox (R324, R328): a permitted write stores the index and changes no other word; ARM arms the interrupt; a slot with the code of an inner command
ends with its family's DUAL_CONTROL (R369, R393), and one with a code that names no command with BAD_FORMAT of the key family in 0x40 to 0x4F (R167),
else with UNKNOWN. Clauses of it rest on choices of the model: log entries 3 and 117. -/
def Obligations.DoorbellsAndRingIndices : Prop :=
  ((∀ (s : State) (i : Fin 1024) (v : Word), doorbellOpen s i = true →
    (fld v 15 0 < 2 ^ (getSlice s i).txLog → exec (.dbTxtail i v) s = .next (setSlice s i { getSlice s i with txTail := fld v 15 0 }))
      ∧ (fld v 15 0 < 2 ^ (getSlice s i).rxLog → exec (.dbRxtail i v) s = .next (setSlice s i { getSlice s i with rxTail := fld v 15 0 }))
      ∧ (cqHeadOk (getSlice s i) (fld v 15 0) = true → exec (.dbCqhead i v) s
          = .next (setSlice s i { getSlice s i with cqHead := fld v 15 0, armed := (getSlice s i).armed || fld v 31 31 == 1 }))
      ∧ (∀ c, (c = Instr.dbTxtail i v ∧ 2 ^ (getSlice s i).txLog ≤ fld v 15 0) ∨ (c = Instr.dbRxtail i v ∧ 2 ^ (getSlice s i).rxLog ≤ fld v 15 0)
            ∨ (c = Instr.dbCqhead i v ∧ cqHeadOk (getSlice s i) (fld v 15 0) = false) →
          ∃ t, exec c s = .next t ∧ getSlice t i = { getSlice s i with dbErr := true } ∧ (∀ j, j ≠ i.val → getSlice t j = getSlice s j)
            ∧ bit (getPage t 0xC0).cond 3 = true ∧ t = { s with slices := t.slices, pages := t.pages, msix := t.msix }))
  ∧ (∀ (s : State) (i : Fin 1024) (v : Word), doorbellOpen s i = false →
    exec (.dbTxtail i v) s = .next s ∧ exec (.dbRxtail i v) s = .next s ∧ exec (.dbCqhead i v) s = .next s)
  ∧ (∀ (s : State) (i : Fin 1024), (getSlice s i).armed = true → (getSlice s i).irqDue = true →
    ∃ t, exec (.sliceIrqDelay i) s = .next t ∧ getSlice t i = { getSlice s i with armed := false, irqDue := false, lastMsg := some s.boot.now }
      ∧ smapGet (fun _ => 0) t.msix (32 + i) = smapGet (fun _ => 0) s.msix (32 + i) + 1 ∧ (∀ j, j ≠ i.val → getSlice t j = getSlice s j)
      ∧ t = { s with slices := t.slices, msix := t.msix })
  ∧ (∀ (s : State) (i : Fin 1024), (getSlice s i).armed = false ∨ (getSlice s i).irqDue = false → exec (.sliceIrqDelay i) s = .next s))
  ∧ ((∀ (s : State) (by_ : Party) (v : Word), writeCause s by_ 4 0x140034 v = 0 →
    ∃ t, exec (.mbxCrtail by_ v none) s = .next t ∧ fld (getReg t 0x140034) 7 0 = fld v 7 0 ∧ (∀ a, a ≠ 0x140034 → getReg t a = getReg s a)
      ∧ t = { s with regs := t.regs, pages := t.pages })
  ∧ (∀ (s u : State) (by_ : Party) (v : Word) (code : Nat) (sl : Slot),
      u = barWrite s by_ 4 0x140034 v (fun x => storeReg x 0x140034 v) → mbxReady u = true → lcBar u code = none →
    exec (.mbxCrtail by_ v (some (code, sl))) s
      = .next (mbxFinish (mbxTake u) sl code (MbxRes.refuse (if code = 0x47 then 0x12
        else if code = 0x86 ∨ code = 0x87 ∨ code = 0x88 then 0x0F else if code = 0x92 ∨ code = 0x93 then 0x07
        else if 0x40 ≤ code ∧ code ≤ 0x4F then 8 else 1))))
  ∧ (∀ (s : State) (by_ : Party) (v : Word), writeCause s by_ 4 0x14003C v = 0 →
    ∃ t, exec (.mbxCchead by_ v) s = .next t ∧ fld (getReg t 0x14003C) 7 0 = fld v 7 0
      ∧ t.hostIf = { s.hostIf with mbxArmed := s.hostIf.mbxArmed || fld v 31 31 == 1 } ∧ (∀ a, a ≠ 0x14003C → getReg t a = getReg s a)
      ∧ t = { s with regs := t.regs, pages := t.pages, hostIf := t.hostIf })
  ∧ (∀ (s : State) (by_ : Party) (n : Fin 5) (v : Word), writeCause s by_ 4 (0xC004C + 0x10 * n.val) v = 0 →
    ∃ t, exec (.managerRingIndex by_ n v) s = .next t ∧ fld (getReg t (0xC004C + 0x10 * n.val)) 15 0 = fld v 15 0
      ∧ t.hostIf = { s.hostIf with mgrArmed := s.hostIf.mgrArmed || (n.val == 4 && fld v 31 31 == 1) }
      ∧ (∀ a, a ≠ 0xC004C + 0x10 * n.val → getReg t a = getReg s a)
      ∧ t = { s with regs := t.regs, pages := t.pages, hostIf := t.hostIf }))

/-- Transmit (R88, R280, R315, R316, R323): a sound descriptor of the rotation takes a completion entry and waits for its frame; where the transmit
reserve has too few cells it waits in its ring, counted; the frame that arrives enters the publish queue of its context's pillow with its cells, and
one whose source fields are not the publisher's completes with SPOOF; a sound descriptor of manager ring 2 or 3 waits for its frame while a completion
entry is left; and the manager's frame for the management port is sent with its completion, a raw one that R323 bars completes with SPOOF. Reads that
fail (R304, R320): a failing read of a transmit descriptor or of a frame brings an ACTIVE slice into FAULT with SLS_ERRINFO, its fetched descriptors
dropped and counted, and SLM's event; one of the manager's rings stops them all; each kind of error has its counter. Clauses of it rest on choices of
the model: log entries 8 and 80. -/
def Obligations.TransmitAndReadErrors : Prop :=
  ((∀ (s : State) (i : Nat) (d : TxDescIn) (c : Ctx), nextFetch s = some i → cellsFor (d.len + 4) ≤ s.pool.txFree →
      descCtx s i d.ctx = some c → descBad d (extAdded c.kind c.alg) = false →
    ∃ t, exec (.descriptorFetch .slices d) s = .next t ∧ t.hostIf = { s.hostIf with rotor := i }
      ∧ getSlice t i = { getSlice s i with
          txHead := ((getSlice s i).txHead + 1) % 2 ^ (getSlice s i).txLog, cqResv := (getSlice s i).cqResv + 1,
          fetched := (getSlice s i).fetched ++ [⟨d.addr, d.len, d.ctx, d.tck, d.tnk, d.tag⟩] }
      ∧ (∀ j, j ≠ i → getSlice t j = getSlice s j) ∧ t = { s with slices := t.slices, hostIf := t.hostIf })
  ∧ (∀ (s : State) (i : Nat) (d : TxDescIn), nextFetch s = some i → s.pool.txFree < cellsFor (d.len + 4) →
    exec (.descriptorFetch .slices d) s = .next (setEvt (incReg s 0xA0030) 0xA0 1))
  ∧ (∀ (s : State) (src : FetchSrc) (n : Nat) (d : TxDescIn), (src = .mgmtRing ∧ n = 2 ∧ d.ctx = 0) ∨ (src = .rawRing ∧ n = 3 ∧ d.ctx < 16) →
      mrRuns s n = true → 0 < mrAvail s n → mrRuns s 4 = true → s.hostIf.mfetched.length < mrAvail s 4 →
      cellsFor (d.len + 4) ≤ s.pool.txFree → descBad d 0 = false →
    exec (.descriptorFetch src d) s = .next { mrAdvance s n with hostIf := { (mrAdvance s n).hostIf with
        mfetched := s.hostIf.mfetched ++ [(n, ⟨d.addr, d.len, d.ctx, d.tck, d.tnk, d.tag⟩)] } }
      ∧ (getMring (mrAdvance s n) n).ix = ((getMring s n).ix + 1) % 2 ^ mrLog s n)
  ∧ (∀ (s : State) (i : Fin 1024) (f : Frame) (d : TxDesc) (rest : List TxDesc) (c : Ctx), (getSlice s i).fetched = d :: rest →
      (getSlice s i).st = .active → descCtx s i d.ctx = some c → pubSpoof c f = false →
      cellsFor (f.bytes.length + extAdded c.kind c.alg + 4) ≤ s.pool.txFree →
    ∃ t r, exec (.txFrameReceived .slices i f) s = .next t ∧ getSlice t i = { getSlice s i with fetched := rest }
      ∧ getFrame t s.pool.next = some r ∧ r.frame = f ∧ r.src = .desc (some i) d.tag ∧ r.ctx = some d.ctx ∧ r.pillow = c.home
      ∧ r.stage = .ready ∧ r.high = c.prio ∧ r.cells = cellsFor (f.bytes.length + extAdded c.kind c.alg + 4) ∧ r.rxDone = true
      ∧ t.pool.txFree = s.pool.txFree - r.cells ∧ (getPil t c.home).order = (getPil s c.home).order + 1 ∧ t.ctxs = s.ctxs ∧ t.mem = s.mem
      ∧ (∀ j, j ≠ i.val → getSlice t j = getSlice s j))
  ∧ (∀ (s : State) (i : Fin 1024) (f : Frame) (d : TxDesc) (rest : List TxDesc) (c : Ctx), (getSlice s i).fetched = d :: rest →
      (getSlice s i).st = .active → descCtx s i d.ctx = some c → pubSpoof c f = true →
    exec (.txFrameReceived .slices i f) s = .next (txComplete
      (setCtx (setSlice s i { getSlice s i with fetched := rest }) d.ctx (some c.failFrame)) (.desc (some i) d.tag) 0 0 d.ctx 0x64 1))
  ∧ (∀ (s : State) (i : Fin 1024) (f : Frame) (d : TxDesc) (rest : List (Nat × TxDesc)), s.hostIf.mfetched = (2, d) :: rest →
    exec (.txFrameReceived .mgmtRing i f) s
      = .next (mgrCq { s with hostIf := { s.hostIf with mfetched := rest } } (ptpNow s) 1 0 2 d.tag 0x01 0))
  ∧ (∀ (s : State) (i : Fin 1024) (f : Frame) (d : TxDesc) (rest : List (Nat × TxDesc)), s.hostIf.mfetched = (3, d) :: rest →
      f.form ≠ .other ∨ f.hsrTagged = true ∨ f.udpPort = 102 →
    exec (.txFrameReceived .rawRing i f) s
      = .next (mgrCq { s with hostIf := { s.hostIf with mfetched := rest } } 0 1 0 3 d.tag 0x64 1)))
  ∧ ((∀ (s : State) (i : Fin 1024) (k cause ctr : Nat) (e : ReadError), (getSlice s i).st = .active →
      (e = .unsupported ∧ cause = 1 ∧ ctr = 0xC1038) ∨ (e = .abort ∧ cause = 2 ∧ ctr = 0xC1038) ∨ (e = .poisoned ∧ cause = 4 ∧ ctr = 0xC103C) →
      k = (getSlice s i).fetched.length →
    ∃ t, exec (.hostReadError (.slice i) .transmit e) s = .next t ∧ (getSlice t i).st = .fault
      ∧ (getSlice t i).errInfo = pack [(1, 31), (cause, 28), (0, 26)] ∧ (getSlice t i).fetched = []
      ∧ (getSlice t i).cqResv = (getSlice s i).cqResv - k - openDeliveries s i ∧ (getSlice t i).txDrop = satInc (satAdd (getSlice s i).txDrop k)
      ∧ bit (getPage t 0xC0).stat 0 = true ∧ getReg t ctr = satInc (getReg s ctr) ∧ (∀ j, j ≠ i.val → getSlice t j = getSlice s j)
      ∧ t.mem = s.mem ∧ t.ctxs = s.ctxs)
  ∧ (∀ (s : State) (ring : ReadRing), ∃ t, exec (.completionTimeout .manager ring) s = .next t ∧ t.hostIf = { s.hostIf with mgrStop := 31 }
      ∧ bit (getPage t 0xC0).stat 1 = true ∧ getReg t 0xC1034 = satInc (getReg s 0xC1034) ∧ t.slices = s.slices ∧ t.mem = s.mem)
  ∧ (∀ (s : State) (i : Fin 1024), (getSlice s i).st = .active →
    ∃ t, exec (.completionTimeout (.slice i) .frame) s = .next t ∧ (getSlice t i).st = .fault
      ∧ (getSlice t i).errInfo = pack [(1, 31), (3, 28), (2, 26)] ∧ getReg t 0xC1034 = satInc (getReg s 0xC1034) ∧ t.mem = s.mem))

/-- The function's resets, PERST# and the link (R304, R307, R328, R420): each reset quiesces every slice that is not FREE, forgets its rings and
fetched descriptors, and brings the manager's and the mailbox's indices and the words of their pages to their reset values; contexts, lookup entries,
blobs, memory and the words of every other page stay; PERST# asserted does the same with the link down. A link that comes up or goes down is recorded
in SLM_LINK's fields with LINKCHG, a recovery and a fall counted. Clauses of it rest on choices of the model: log entry 30. -/
def Obligations.FunctionResets : Prop :=
  (∀ (s : State) (k : PcieReset), ∃ t, exec (.pcieFunctionReset k) s = .next t
      ∧ (∀ i, (getSlice s i).st ≠ .free → (getSlice t i).st = .quiesced ∧ (getSlice t i).rings = false ∧ (getSlice t i).fetched = []
          ∧ (getSlice t i).pasid = (getSlice s i).pasid)
      ∧ (∀ a, a / 0x1000 = 0xC0 ∨ a / 0x1000 = 0x140 → getReg t a = regRst a) ∧ (∀ a, a / 0x1000 ≠ 0xC0 → a / 0x1000 ≠ 0x140 → getReg t a = getReg s a)
      ∧ t.hostIf = { s.hostIf with pasidEn := false, mring := [], mgrStop := 0, mgrArmed := false, crHead := 0, ccTail := 0, ccPhase := true,
                                   mbxArmed := false, mfetched := [] }
      ∧ (∀ j c, getCtx s j = some c → c.removing = none → getCtx t j = some c)
      ∧ t.mem = s.mem ∧ t.cls = s.cls ∧ t.firn.blobs = s.firn.blobs)
  ∧ (∀ s : State, s.hostIf.perst = false → s.boot.inReset = false →
    ∃ t, exec (.pciePerst true) s = .next t ∧ t.hostIf.perst = true ∧ t.hostIf.linkUp = false ∧ t.hostIf.crHead = 0
      ∧ (∀ i, (getSlice s i).st ≠ .free → (getSlice t i).st = .quiesced) ∧ t.mem = s.mem
      ∧ (∀ j c, getCtx s j = some c → c.removing = none → getCtx t j = some c))
  ∧ (∀ s : State, exec (.pciePerst false) s = .next { s with hostIf := { s.hostIf with perst := false } })
  ∧ (∀ (s : State) (gen width : Nat) (recovery : Bool), s.hostIf.perst = false → s.pwc.pcie = true → bit s.pwc.clkOk 1 = true →
      gen = 3 ∨ gen = 4 ∨ gen = 5 → width = 4 ∨ width = 8 → s.hostIf.linkUp = false → slmLink s = 0 →
    ∃ t, exec (.pcieLinkChange true gen width recovery) s = .next t
      ∧ t.hostIf = { s.hostIf with linkUp := true, linkGen := gen, linkWidth := width, pasidEn := true } ∧ bit (getPage t 0xC0).stat 2 = true
      ∧ getReg t 0xC1024 = (if recovery then satInc (getReg s 0xC1024) else getReg s 0xC1024) ∧ getReg t 0xC1020 = getReg s 0xC1020
      ∧ t = { s with hostIf := t.hostIf, regs := t.regs, pages := t.pages, msix := t.msix })
  ∧ (∀ (s : State) (gen width : Nat), s.hostIf.perst = false → s.pwc.pcie = true → s.hostIf.linkUp = true → slmLink s ≠ 0 →
    ∃ t, exec (.pcieLinkChange false gen width false) s = .next t
      ∧ t.hostIf = { s.hostIf with linkUp := false, linkGen := 0, linkWidth := 0 } ∧ bit (getPage t 0xC0).stat 2 = true
      ∧ getReg t 0xC1020 = satInc (getReg s 0xC1020) ∧ (∀ a, a ≠ 0xC1020 → getReg t a = getReg s a)
      ∧ t = { s with hostIf := t.hostIf, regs := t.regs, pages := t.pages, msix := t.msix })

/-- Slices made and ended (R309 to R313): SLICE_CREATE makes a FREE slice ACTIVE as its block says; SLICE_QUIESCE lets an ACTIVE slice drain and
quiesces a faulted one at once; the drain's end ends the command, with status 6 where reads were abandoned; SLICE_RESUME makes a quiesced slice with
rings ACTIVE, SLICE_RESET gives one its new rings; and SLICE_REMOVE frees one without contexts with its blobs, or waits for the admitted frames of its
last context, whose lookup entry goes at once. The commands that name a slice whose removal is under way wait for it (R324). Clauses of it rest on
choices of the model: log entries 30 and 78. -/
def Obligations.SliceLife : Prop :=
  (∀ (s : State) (sl : Slot) (b : List Byte) (i : Nat), MbxRuns s 0x10 → i = leOf b 0 2 → sliceBusy s i = false → sliceBlockBad b = false → (getSlice s i).st = .free →
      s.hostIf.pasidEn = true → pasidUsed s i (leOf b 4 4) = false →
      s.slices.foldl (fun a e => a + e.2.maxCtx) 0 + leOf b 0x26 2 ≤ 262144 →
    ∃ u, exec (.sliceCreate sl b) s = .next (mbxFinish u sl 0x10 (MbxRes.durable [.slice i (some (sliceOf Slice.free b))]))
      ∧ getSlice u i = sliceOf Slice.free b ∧ (getSlice u i).st = .active ∧ (getSlice u i).pasid = leOf b 4 4
      ∧ (∀ j, j ≠ i → getSlice u j = getSlice s j) ∧ u.ctxs = s.ctxs ∧ u.mem = s.mem)
  ∧ (∀ (s : State) (sl : Slot) (i : Nat), MbxRuns s 0x11 → i < 1024 → sliceBusy s i = false →
    ((getSlice s i).st = .active → ∃ t, exec (.sliceQuiesce sl i) s = .next t ∧ (getSlice t i).st = .quiescing
        ∧ (getSlice t i).quiesce = some sl ∧ (∀ j, j ≠ i → getSlice t j = getSlice s j) ∧ t.hostIf = (mbxTake s).hostIf ∧ t.ctxs = s.ctxs)
      ∧ ((getSlice s i).st = .fault → exec (.sliceQuiesce sl i) s
          = .next (mbxFinish (setSlice (mbxTake s) i { getSlice s i with st := .quiesced }) sl 0x11 MbxRes.ok)))
  ∧ (∀ (s : State) (sl : Slot) (i : Nat), (getSlice s i).st = .quiescing → (getSlice s i).inFlight = 0 → (getSlice s i).fetched = [] →
      sliceSending s i = false → (getSlice s i).quiesce = some sl →
    exec (.sliceDrainComplete i) s
      = .next (mbxFinish (setSlice s i { getSlice s i with st := .quiesced, quiesce := none, abandoned := false }) sl 0x11
          (if (getSlice s i).abandoned then MbxRes.refuse 6 else MbxRes.ok)))
  ∧ (∀ (s : State) (i : Nat), (getSlice s i).st = .quiescing → (getSlice s i).fetched ≠ [] →
    ∃ t, exec (.quiesceAbandon i) s = .next t ∧ (getSlice t i).abandoned = true ∧ (getSlice t i).fetched = []
      ∧ (getSlice t i).errInfo = pack [(1, 31), (5, 28), (2, 26)] ∧ (getSlice t i).st = .quiescing
      ∧ (getSlice t i).txDrop = satAdd (getSlice s i).txDrop (getSlice s i).fetched.length
      ∧ (∀ j, j ≠ i → getSlice t j = getSlice s j) ∧ t = { s with slices := t.slices })
  ∧ (∀ (s : State) (sl : Slot) (i : Nat), MbxRuns s 0x12 → i < 1024 → sliceBusy s i = false → (getSlice s i).st = .quiesced → (getSlice s i).rings = true →
    exec (.sliceResume sl i) s = .next (mbxFinish (setSlice (mbxTake s) i { getSlice s i with st := .active }) sl 0x12 MbxRes.ok))
  ∧ (∀ (s : State) (sl : Slot) (b : List Byte) (i : Nat), MbxRuns s 0x13 → i = leOf b 0 2 → sliceBusy s i = false → sliceBlockBad b = false →
      (getSlice s i).st = .quiesced → (getSlice s i).maxCtx = leOf b 0x26 2 → s.hostIf.pasidEn = true → pasidUsed s i (leOf b 4 4) = false →
    ∃ u, exec (.sliceReset sl b) s = .next (mbxFinish u sl 0x13 (MbxRes.durable [.slice i (some (sliceOf (getSlice s i) b))]))
      ∧ getSlice u i = sliceOf (getSlice s i) b ∧ (getSlice u i).st = .active ∧ (getSlice u i).txHead = 0 ∧ (getSlice u i).cqTail = 0
      ∧ (getSlice u i).phase = true ∧ (∀ j, j ≠ i → getSlice u j = getSlice s j) ∧ u.ctxs = s.ctxs ∧ u.mem = s.mem)
  ∧ (∀ (s : State) (sl : Slot) (i : Nat), MbxRuns s 0x14 → i < 1024 → sliceHeld s i = false → (getSlice s i).st = .quiesced →
    ((ctxList s).filter (fun e => e.2.slice == i) = [] → ∃ u items, exec (.sliceRemove sl i) s = .next (mbxFinish u sl 0x14 (MbxRes.durable items))
        ∧ JItem.slice i none ∈ items ∧ getSlice u i = Slice.free ∧ (∀ k b, getBlob u k = some b → b.slice ≠ i)
        ∧ smapGet (fun _ => 0) u.firn.sepoch i = smapGet (fun _ => 0) s.firn.sepoch i + 1 ∧ (∀ j, j ≠ i → getSlice u j = getSlice s j)
        ∧ u.ctxs = s.ctxs ∧ u.mem = s.mem)
      ∧ (∀ (j : Nat) (c : Ctx), (ctxList s).filter (fun e => e.2.slice == i) = [(j, c)] → getCtx s j = some c → ctxFrames s j ≠ [] →
        ∃ t, exec (.sliceRemove sl i) s = .next t ∧ getCtx t j = some { c with removing := some (sl, 0x14) }
          ∧ (∀ e ∈ t.cls.table, e.2 ≠ j) ∧ (getSlice t i).st = .quiesced ∧ t.mem = s.mem))

/-- Dirty logging and status (R321, R322, R325): SLICE_DIRTYLOG begins or ends the logging of a slice; DIRTY_HARVEST writes the bitmap of the pages
written and clears it, with the bit of each page in its place; SLICE_STATUS answers SLS_STATE. Balance groups (R86, R327), on a module that is not
STANDBY (R333): BAL_DEFINE gives a group without members its definition, on a pillow in SERVICE with room for it, and 2,048 zeroed bytes of that
pillow's shared RAM; BAL_REMOVE takes such a group away. An ACTIVE sends either to its partner (R335). Clauses of it rest on choices of the model: log
entries 28 and 77. -/
def Obligations.LoggingAndBalanceGroups : Prop :=
  ((∀ (s : State) (sl : Slot) (i wbase pages bm : Nat), MbxRuns s 0x15 → i < 1024 → sliceBusy s i = false → (getSlice s i).st ≠ .free →
    (wbase % 4096 = 0 → 0 < pages → pages ≤ 2 ^ 26 → bm % 8 = 0 → (s.slices.filter (fun e => e.1 != i && e.2.log)).length < 8 →
        exec (.sliceDirtylog sl i true wbase pages bm) s = .next (mbxFinish (setSlice (mbxTake s) i { getSlice s i with
          log := true, logBase := wbase, logPages := pages, bmAddr := bm, dirty := [], outside := false }) sl 0x15 MbxRes.ok))
      ∧ exec (.sliceDirtylog sl i false wbase pages bm) s = .next (mbxFinish (setSlice (mbxTake s) i { getSlice s i with
          log := false, logBase := 0, logPages := 0, bmAddr := 0, dirty := [], outside := false }) sl 0x15 MbxRes.ok))
  ∧ (∀ (s : State) (sl : Slot) (i : Nat), MbxRuns s 0x16 → i < 1024 → sliceBusy s i = false → (getSlice s i).st ≠ .free → (getSlice s i).log = true →
    exec (.dirtyHarvest sl i) s = .next (mbxFinish
      (setSlice (managerWrite (mbxTake s) (getSlice s i).bmAddr (bitmapBytes (getSlice s i).logPages (getSlice s i).dirty)) i
        { getSlice s i with dirty := [], outside := false }) sl 0x16 (MbxRes.ok (bnat (getSlice s i).outside))))
  ∧ (∀ (pages j : Nat) (dirty : List Nat), j < pages → bit ((bitmapBytes pages dirty).getD (j / 8) 0).toNat (j % 8) = dirty.contains j)
  ∧ (∀ (s : State) (sl : Slot) (i : Nat), mbxReady s = true → i < 1024 → sliceBusy s i = false → (getSlice s i).st ≠ .free →
    exec (.sliceStatus sl i) s = .next (mbxFinish (mbxTake s) sl 0x17 (MbxRes.ok (getSlice s i).word.toNat))))
  ∧ ((∀ (s : State) (sl : Slot) (g p ch ta tr pe bw sr base : Nat), MbxRuns s 0x24 → s.pair.st ≠ .standby → g < 4096 → p < 16 →
      groupBad ch ta tr pe bw sr = false → members s g = [] → bit s.pwc.pil p = true → (getPil s p).st = .service →
      (groupsOn (setGroup s g none) p).length < 256 → ramFit (ramUsed (setGroup s g none) p) 2048 = some base →
    ∃ u v x, u = mirrorSend v (.balDefine g p ch ta tr pe bw sr) ∧ exec (.balDefine sl g p ch ta tr pe bw sr) s = .next (mbxFinish u sl 0x24 (MbxRes.durable [.group g (some x)]))
      ∧ getGroup u g = some x ∧ x.pillow = p ∧ x.base = base ∧ x.channels = ch ∧ x.tolAbs = ta ∧ x.tolRel = tr ∧ x.persist = pe
      ∧ x.balWait = bw ∧ x.smpRate = sr ∧ x.instants = [] ∧ x.failing = false ∧ (∀ h, h ≠ g → getGroup u h = getGroup s h)
      ∧ (∀ k, k < 2048 → readByte u (sharedKey p (base + k)) = 0) ∧ u.ctxs = s.ctxs
      ∧ (∀ a, a < sharedKey p base ∨ sharedKey p base + 2048 ≤ a → readByte u a = readByte s a))
  ∧ (∀ (s : State) (sl : Slot) (g : Nat) (x : Group), MbxRuns s 0x25 → s.pair.st ≠ .standby → g < 4096 → getGroup s g = some x → members s g = [] →
    exec (.balRemove sl g) s = .next (mbxFinish (mirrorSend { mbxTake s with groups := smapSet (fun _ => none) s.groups g none } (.balRemove g))
      sl 0x25 (MbxRes.durable [.group g none]))))

/-- Context commands (R57, R61, R327, R474), on a module that is not STANDBY (R333): CTX_CREATE enters the context that its block makes, with its
lookup entry while the table holds fewer than four, at the lowest free index of its pillow, a publisher journalled with a reservation of 2^20
invocation values (R174); CTX_MODIFY takes effect at the frame boundary; CTX_REMOVE removes the lookup entry at once and the context with its last
frame; CTX_READ answers the 96 bytes. A context whose removal is under way is gone for them, and they wait for what came before them in ring order
(R324). Clauses of it rest on choices of the model: log entries 31 and 79. -/
def Obligations.ContextCommands : Prop :=
  (∀ (s : State) (sl : Slot) (b : List Byte) (p base : Nat) (m : Image), MbxRuns s 0x20 → sliceBusy s (leOf b 0 2) = false → s.pair.st ≠ .standby →
      ctxBlockBad b = false →
      (getSlice s (leOf b 0 2)).st ≠ .free →
      ((ctxList s).filter (fun e => e.2.slice == leOf b 0 2)).length < (getSlice s (leOf b 0 2)).maxCtx →
      blkPillow s b = some p → pillowShut s p = false → imageFor s p (blkKind b) (blkPub b) = some m → balanceBad s b = false →
      keyBad s b = false →
      ramFit (ramUsed s p) (scratchSize s m (blkSmpRate b) (fld (blkPlaus b) 12 11 != 0)) = some base →
      (blkLookup b = true → lookup s (blkKey b) = none ∧ s.cls.table.length < 4) →
    ∃ u c, exec (.ctxCreate sl b) s = .next (mbxFinish u sl 0x20 (MbxRes.durable [.ctx (freeIndex s p) (some c.reserved)] (freeIndex s p)))
      ∧ (blkPub b = true → c.reserved.reserve = 2 ^ 20) ∧ getCtx u (freeIndex s p) = some c ∧ c.word 0 = blkCtrl b ∧ c.key = some (blkKey b) ∧ c.scrBase = base ∧ c.initDue = m.init.isSome
      ∧ c.lookup = blkLookup b ∧ c.removing = none ∧ c.changes = [] ∧ fld (c.word 0x5C) 31 28 = p % 16 ∧ c.slice = leOf b 0 2
      ∧ u.cls.table = (if blkLookup b then s.cls.table ++ [(blkKey b, freeIndex s p)] else s.cls.table)
      ∧ (∀ j, j ≠ freeIndex s p → getCtx u j = getCtx s j))
  ∧ (∀ (s : State) (sl : Slot) (i : Nat) (ctrl rate supv plaus plim : Word) (d : Nat) (c : Ctx), MbxRuns s 0x21 → s.pair.st ≠ .standby →
      liveCtx s i = some c → modifyBad c ctrl rate supv plaus d = false →
    ∃ u, exec (.ctxModify sl i ctrl rate supv plaus plim d) s = .next (mbxFinish u sl 0x21
        (MbxRes.durable [.ctx i (some (c.settled.applyModify ctrl rate supv plaus plim d))] ((c.gen + c.gensDue + 1) % 65536)))
      ∧ getCtx u i = some (if ctxRunning s i then { c with changes := c.changes ++ [.modify ctrl rate supv plaus plim d] }
          else c.applyModify ctrl rate supv plaus plim d)
      ∧ (∀ j, j ≠ i → getCtx u j = getCtx s j) ∧ u = { mbxTake s with ctxs := u.ctxs, pair := u.pair }
      ∧ (s.pair.st ≠ .active ∨ ctxRunning s i = true → u.pair = s.pair))
  ∧ (∀ (c : Ctx) (ctrl rate supv plaus plim : Word) (d : Nat), c.words.length = 24 →
    (c.applyModify ctrl rate supv plaus plim d).word 0 = ctrl ∧ (c.applyModify ctrl rate supv plaus plim d).word 0x18 = rate
      ∧ fld ((c.applyModify ctrl rate supv plaus plim d).word 0x2C) 19 0 = fld supv 19 0
      ∧ (c.applyModify ctrl rate supv plaus plim d).word 0x44 = plaus ∧ (c.applyModify ctrl rate supv plaus plim d).word 0x48 = plim
      ∧ (c.applyModify ctrl rate supv plaus plim d).gen = (c.gen + 1) % 2 ^ 16 ∧ (c.applyModify ctrl rate supv plaus plim d).declRate = d
      ∧ (c.applyModify ctrl rate supv plaus plim d).word 0x04 = c.word 0x04 ∧ (c.applyModify ctrl rate supv plaus plim d).home = c.home)
  ∧ (∀ (s : State) (sl : Slot) (i : Nat) (c : Ctx), MbxRuns s 0x22 → keyBusy s i = false → s.pair.st ≠ .standby →
      liveCtx s i = some c →
    ∃ t, exec (.ctxRemove sl i) s = .next t ∧ (∀ e ∈ t.cls.table, e.2 ≠ i) ∧ (∀ j, j ≠ i → getCtx t j = getCtx s j)
      ∧ (ctxFrames s i ≠ [] → getCtx t i = some { c with removing := some (sl, 0x22) } ∧ t.journal = s.journal)
      ∧ (ctxFrames s i = [] → getCtx t i = none
          ∧ t.journal.getLast? = some ⟨[.ctx i none], some ⟨sl, 0x22, 0, 0, 0⟩, some (c.slice, i), 0, 0⟩)
      ∧ t.mem = s.mem)
  ∧ (∀ (s : State) (sl : Slot) (i : Nat) (c : Ctx), mbxReady s = true → s.pair.st ≠ .standby → liveCtx s i = some c →
    exec (.ctxRead sl i) s = .next (mbxFinish (mbxTake s) sl 0x23 (MbxRes.ok 0 (c.words.flatMap (fun w => leBytes 4 w.toNat)))))

/-! ### Pair, tamper, life cycle -/

/-- The heartbeat (R339, R340, R347): sent on the lanes in service with role and sequence, and not from DYING; one received is held with the partner's
state, and the intervals missed since the last one count; and its return to a HELD module leads to BINDING. The loss of the partner (R341 to R343,
R351), outside a recovery window and with no completion waiting for the partner: a STANDBY whose partner dies takes over, with the invocation values
of its publishers 2^40 further and the recovery window open; an ACTIVE module whose link is lost goes on ALONE and a STANDBY is DETACHED; a STANDBY
that cannot tell is HELD, with BLOCK under BLOCKEN; a DETACHED one that sees DYING takes over; while heartbeats arrive pair-sense is only held; a
pair-sense fault opens the window; and the window's end ends it. Clauses of it rest on choices of the model: log entries 84, 86 and 88. -/
def Obligations.HeartbeatsAndLoss : Prop :=
  ((∀ s : State, linkKeyed s = true →
    (s.pair.psOut ≠ .dying →
        exec .heartbeatSend s = .next { s with pair := { s.pair with hbOut := [s.pair.lanes, s.pair.st.code, s.pair.mirrorSeq] } })
      ∧ (s.pair.psOut = .dying → exec .heartbeatSend s = .next s))
  ∧ (∀ (s : State) (lane : Fin 2) (seq at_ : Nat), linkKeyed s = true → bit s.pair.lanes lane = true → s.pair.st = .standby →
      s.pair.hbLost = false → s.pair.hbAt = some at_ →
    exec (.heartbeatReceive lane .active seq) s
      = .next { addReg s 0xD002C ((s.boot.now - at_ - 1) / 1000) with pair := { s.pair with
          hb := true, hbAt := some s.boot.now, partnerSt := .active, peerSeq := seq } })
  ∧ (∀ (s : State) (lane : Fin 2) (seq : Nat), linkKeyed s = true → bit s.pair.lanes lane = true → s.pair.st = .held → s.pair.hbLost = true →
    ∃ t, exec (.heartbeatReceive lane .active seq) s = .next t ∧ t.pair.st = .binding ∧ t.pair.hb = true ∧ t.pair.hbLost = false
      ∧ t.pair.partnerSt = .active ∧ bit (getPage t 0xD0).stat 0 = true ∧ t.mem = s.mem ∧ t.ctxs = s.ctxs))
  ∧ ((∀ (s : State) (i : Nat) (c : Ctx), paired s = true → s.pair.hbLost = false → s.pair.recov = false → s.pair.ackWait = [] →
      pageSafe s 0xD0 = false → s.pair.st = .standby → s.pair.psIn = .dying → smapWf (fun _ => none) s.ctxs = true → getCtx s i = some c →
    ∃ t, exec .heartbeatLoss s = .next t ∧ t.pair.st = .alone ∧ t.pair.hb = false ∧ t.pair.recov = true ∧ t.pair.firstFault = 1
      ∧ t.pair.heldFrames = [] ∧ t.pair.authDone = false ∧ (zeroisedNow s = false → t.pair.psOut = .active)
      ∧ getReg t 0xD0030 = satInc (getReg s 0xD0030) ∧ getReg t 0xD002C = satAdd (getReg s 0xD002C) 3
      ∧ getCtx t i = some (if c.pubDir then c.setIv (min (c.iv + 2 ^ 40) (2 ^ 64 - 1)) else c) ∧ t.mem = s.mem)
  ∧ (∀ s : State, paired s = true → s.pair.hbLost = false → s.pair.recov = false → s.pair.ackWait = [] → s.pair.psIn = .active →
    (s.pair.st = .active → ∃ t, exec .heartbeatLoss s = .next t ∧ t.pair.st = .alone ∧ t.pair.recov = true ∧ t.pair.firstFault = 2
        ∧ t.ctxs = s.ctxs ∧ t.mem = s.mem)
      ∧ (s.pair.st = .standby → ∃ t, exec .heartbeatLoss s = .next t ∧ t.pair.st = .detached ∧ t.pair.recov = true ∧ t.pair.firstFault = 2
        ∧ t.ctxs = s.ctxs ∧ t.mem = s.mem))
  ∧ (∀ s : State, paired s = true → s.pair.hbLost = false → s.pair.recov = false → s.pair.ackWait = [] → s.pair.psIn = .opened →
      s.pair.dyingSeen = false → s.pair.st = .standby →
    ∃ t, exec .heartbeatLoss s = .next t ∧ t.pair.st = .held ∧ t.pair.recov = true ∧ t.pair.firstFault = 4 ∧ t.ctxs = s.ctxs ∧ t.mem = s.mem
      ∧ (fld (getReg s 0xD0020) 1 1 = 1 → t.pair.block = true))
  ∧ (∀ s : State, paired s = true → s.pair.hbLost = true → s.pair.recov = false → s.pair.st = .detached → pageSafe s 0xD0 = false →
    ∃ t, exec (.pairSenseChange 1) s = .next t ∧ t.pair.st = .alone ∧ t.pair.psIn = .dying ∧ t.pair.dyingSeen = true ∧ t.pair.recov = true
      ∧ t.pair.firstFault = 1 ∧ t.mem = s.mem)
  ∧ (∀ (s : State) (k : Fin 4), s.pair.hbLost = false →
    ∃ p, exec (.pairSenseChange k) s = .next { s with pair := { s.pair with psIn := senseOf k, dyingSeen := p } }
      ∧ (k.val = 0 → p = s.pair.dyingSeen) ∧ (k.val = 1 → p = true) ∧ (2 ≤ k.val → p = false))
  ∧ (∀ s : State, paired s = true → s.pair.hb = true → s.pair.psIn = .opened ∨ s.pair.psIn = .dying →
    ∃ t, exec .pairSenseFault s = .next t ∧ bit (getPage t 0xD0).stat 2 = true
      ∧ t.pair = { s.pair with recov := true, firstFault := 3, failMask := 0 } ∧ t.ctxs = s.ctxs ∧ t.mem = s.mem)
  ∧ (∀ s : State, s.pair.recov = true →
    ∃ t, exec .recoveryWindowEnd s = .next t ∧ t.pair = { s.pair with recov := false, firstFault := 0, failMask := 0 } ∧ t.ctxs = s.ctxs
      ∧ t.mem = s.mem))

/-- Mirroring (R335, R337, R343, R346, R349): the lag of a mirrored item is held, above 2 µs with LAGHI; a STANDBY keeps the partner's key words,
removes a balance group that the partner removed, takes its acknowledgements, and with the final counter of a publisher is ACTIVE; a publish record is
kept and gives the context its next invocation value; a held frame whose record never came is counted and freed; and a context whose keys differ is
KEYSPLIT once. The Bride link (R331, R332, R334): the exchange of a bound module gives a fresh link key, as a rekey does, each where Flurry has the
bytes for its signature, and without them a rekey leaves the key; one that completes PAIR_BIND binds the module, and one that fails ends it with AUTH;
batches count or end the heartbeat; a lane's loss is BRIDECHG; and the full copy makes a BINDING module STANDBY. Clauses of it rest on choices of the
model: log entries 68, 87, 88, 89, 90, 154 and 161. -/
def Obligations.MirroringAndBride : Prop :=
  ((∀ (s : State) (lag i n kc kn ov : Nat), paired s = true → linkKeyed s = true → lag ≤ 2000 → s.pair.st = .standby → s.pair.keySplit = [] →
    exec (.mirrorRecord lag (.keyWords i n kc kn ov)) s = .next { s with pair := { s.pair with
      lagNow := lag / 10, lagMax := max (lag / 10) s.pair.lagMax
      partnerKeys := smapSet (fun _ => none) s.pair.partnerKeys i (some ⟨n, kc, kn⟩) } })
  ∧ (∀ (s : State) (lag q : Nat), paired s = true → linkKeyed s = true → 2000 < lag → s.pair.ackWait = [] →
    ∃ t, exec (.mirrorRecord lag (.durable q)) s = .next t ∧ t.pair.acked = max s.pair.acked q ∧ t.pair.lagNow = min (lag / 10) 0xFFFF
      ∧ bit (getPage t 0xD0).stat 7 = true ∧ t = { s with pair := t.pair, pages := t.pages, msix := t.msix })
  ∧ (∀ (s : State) (lag g : Nat) (x : Group), paired s = true → linkKeyed s = true → lag ≤ 2000 → s.pair.st = .standby →
      getGroup s g = some x → members s g = [] →
    exec (.mirrorRecord lag (.balRemove g)) s = .next { s with
      pair := { s.pair with lagNow := lag / 10, lagMax := max (lag / 10) s.pair.lagMax }
      groups := smapSet (fun _ => none) s.groups g none, journal := s.journal ++ [⟨[.group g none], none, none, 0, 0⟩] })
  ∧ (∀ (s : State) (lag i v : Nat) (c : Ctx), paired s = true → linkKeyed s = true → lag ≤ 2000 → s.pair.st = .standby → getCtx s i = some c →
      c.pubDir = true →
    ∃ t, exec (.mirrorRecord lag (.final [(i, v)] [])) s = .next t ∧ t.pair.st = .active ∧ t.pair.partnerSt = .standby ∧ t.pair.heldFrames = []
      ∧ getCtx t i = some (c.setIv (min v (2 ^ 64 - 1))) ∧ (∀ j, j ≠ i → getCtx t j = getCtx s j) ∧ t.mem = s.mem)
  ∧ (∀ (s : State) (r : PubRecIn) (c : Ctx), paired s = true → linkKeyed s = true → s.pair.st = .standby → getCtx s r.ctx = some c →
    ∃ t, exec (.publishRecord r) s = .next t ∧ t.pair = { s.pair with records := s.pair.records ++ [⟨r.ctx, r.first, r.last, r.iv, r.seqNo, r.digest⟩] }
      ∧ getCtx t r.ctx = some (c.setIv (min (r.iv + 1) (2 ^ 64 - 1))) ∧ (∀ j, j ≠ r.ctx → getCtx t j = getCtx s j) ∧ t.mem = s.mem)
  ∧ (∀ (s : State) (h : Nat) (f : FrameRec) (o : Option Nat) (tag : Nat), s.pair.st = .standby → s.pair.heldFrames.contains h = true →
      getFrame s h = some f → f.bobbin = none → f.src = .desc o tag →
    ∃ t, exec (.holdbackExpiry h) s = .next t ∧ getFrame t h = none ∧ t.pair.heldFrames = s.pair.heldFrames.filter (· != h)
      ∧ t.pool.txFree = s.pool.txFree + f.cells ∧ bit (getPage t 0xD0).stat 5 = true ∧ getReg t 0xD003C = satInc (getReg s 0xD003C))
  ∧ (∀ (s : State) (i : Nat), paired s = true → keysDiffer s i = true →
    (s.pair.keySplit.contains i = false → ∃ t, exec (.keysplit i) s = .next t ∧ t.pair = { s.pair with keySplit := s.pair.keySplit ++ [i] }
        ∧ bit (getPage t 0xD0).stat 4 = true ∧ t.ctxs = s.ctxs ∧ t.mem = s.mem)
      ∧ (s.pair.keySplit.contains i = true → exec (.keysplit i) s = .next s)))
  ∧ ((∀ (s : State) (fp : Nat), s.pair.lanes ≠ 0 → s.pair.cmd = none → s.pair.bound = true → s.pair.authDone = false → fp = s.pair.partner →
      SignRandom s →
    ∃ t n, exec (.brideAuthDone fp true) s = .next t ∧ t.pair.authDone = true ∧ t.pair.batches = 0
      ∧ t.pair.linkKey = Config.kmac256 (Config.freeValue n % 2 ^ 256) (fpsOf s) 256 "KX5120 BRIDE" ∧ t.pair.st = s.pair.st ∧ t.mem = s.mem
      ∧ t.ctxs = s.ctxs)
  ∧ (∀ (s : State) (fp : Nat) (sl : Slot), s.pair.lanes ≠ 0 → s.pair.cmd = some sl →
    (fp = s.pair.partner → SignRandom s → s.pair.st = .single →
        ∃ u, exec (.brideAuthDone fp true) s
            = .next (mbxFinish u sl 0x70 (MbxRes.durable [.pair true s.pair.partner s.pair.member s.pair.pref]))
          ∧ u.pair.bound = true ∧ u.pair.authDone = true ∧ u.pair.st = (if s.pair.pref then .active else .binding) ∧ u.pair.cmd = none
          ∧ u.ctxs = s.ctxs)
      ∧ exec (.brideAuthDone fp false) s = .next (mbxFinish { s with pair := { s.pair with
          cmd := none, partner := 0, member := 0, pref := false } } sl 0x70 (MbxRes.refuse 4)))
  ∧ (∀ s : State, linkKeyed s = true →
    (SignRandom s → ∃ t n, exec .brideRekey s = .next t
        ∧ t.pair = { s.pair with
            linkKey := Config.kmac256 (Config.freeValue n % 2 ^ 256) (fpsOf s) 256 "KX5120 BRIDE", authDone := true, batches := 0, keysSent := [] }
        ∧ t.mem = s.mem ∧ t.ctxs = s.ctxs)
      ∧ (s.rng.st = .fatal → exec .brideRekey s = .next s)
      ∧ exec (.brideBatch true) s = .next { s with pair := { s.pair with batches := s.pair.batches + 1 } }
      ∧ exec (.brideBatch false) s = .next { s with pair := { s.pair with hb := false } })
  ∧ (∀ (s : State) (lane : Fin 2), s.boot.inReset = false → s.boot.phase ≠ .hold → bit s.pwc.clkOk 0 = true →
    (bit s.pair.lanes lane = true → ∃ t, exec (.brideLaneChange lane false) s = .next t ∧ t.pair.lanes = maskSet s.pair.lanes lane false
        ∧ t.pair.authDone = (s.pair.authDone && t.pair.lanes != 0) ∧ bit (getPage t 0xD0).stat 1 = true
        ∧ t = { s with pair := t.pair, pages := t.pages, msix := t.msix })
      ∧ (bit s.pair.lanes lane = false → maskSet s.pair.lanes lane true ≠ 0 → exec (.brideLaneChange lane true) s
          = .next { s with pair := { s.pair with lanes := maskSet s.pair.lanes lane true } }))
  ∧ (∀ s : State, paired s = true → linkKeyed s = true → s.pair.st = .binding →
    ∃ t, exec .fullCopyApplied s = .next t ∧ t.pair.st = .standby ∧ bit (getPage t 0xD0).stat 0 = true ∧ t.ctxs = s.ctxs ∧ t.mem = s.mem))

/-- The pair commands (R331, R342, R343, R346, R352, R354) and the watchdog (R340): PAIR_BIND of a SINGLE module waits for the exchange; PAIR_SWITCH
makes an ACTIVE module with a STANDBY partner STANDBY; PAIR_LEAVE ends the binding; PAIR_FORCE makes a HELD module ALONE; while the module is ZEROISED
these four are refused (R365); PAIR_STATUS answers BRD_STATE; on an SNV-KX5120-E each is refused with NOT_PAIRABLE and recorded (R2, R330); BLKCLR
takes BLOCK away outside HELD and the recovery window; a control cluster that no longer runs drives DYING. Clauses of it rest on choices of the model:
log entries 84, 91 and 157. -/
def Obligations.PairCommands : Prop :=
  (∀ (s : State) (sl : Slot) (fp m p : Nat), s.pair.rpart = true → MbxRuns s 0x70 → m < 2 → p < 2 → s.pair.st = .single → s.pair.cmd = none →
      s.tamper.zeroised = false → s.rng.st ≠ .fatal →
    exec (.pairBind sl fp m p) s
      = .next { mbxTake s with pair := { s.pair with cmd := some sl, partner := fp, member := m, pref := p == 1 } })
  ∧ (∀ (s : State) (sl : Slot), s.pair.rpart = true → MbxRuns s 0x71 → s.tamper.zeroised = false → s.pair.st = .active →
      s.pair.partnerSt = .standby → pageSafe s 0xD0 = false →
    ∃ u, exec (.pairSwitch sl) s = .next (mbxFinish u sl 0x71 MbxRes.ok) ∧ u.pair.st = .standby ∧ u.pair.partnerSt = .active
      ∧ u.pair.mirrorSeq = s.pair.mirrorSeq + 1 ∧ bit (getPage u 0xD0).stat 0 = true ∧ u.ctxs = s.ctxs ∧ u.mem = s.mem)
  ∧ (∀ (s : State) (sl : Slot), s.pair.rpart = true → MbxRuns s 0x72 → s.tamper.zeroised = false → s.pair.st ≠ .single → s.pair.ackWait = [] →
    ∃ u, exec (.pairLeave sl) s = .next (mbxFinish u sl 0x72 (MbxRes.durable [.pair false 0 0 false])) ∧ u.pair.st = .single
      ∧ u.pair.bound = false ∧ u.pair.partner = 0 ∧ u.pair.linkKey = 0 ∧ u.pair.authDone = false ∧ u.pair.partnerKeys = [] ∧ u.ctxs = s.ctxs
      ∧ u.mem = s.mem)
  ∧ (∀ (s : State) (sl : Slot), s.pair.rpart = true → MbxRuns s 0x73 → s.tamper.zeroised = false → s.pair.st = .held →
    ∃ u, exec (.pairForce sl) s = .next (mbxFinish u sl 0x73 MbxRes.ok) ∧ u.pair.st = .alone ∧ u.pair.recov = true ∧ u.pair.firstFault = 1
      ∧ getReg u 0xD0030 = satInc (getReg s 0xD0030) ∧ u.mem = s.mem)
  ∧ (∀ (s : State) (sl : Slot), s.pair.rpart = true → mbxReady s = true → lcBar s 0x74 = none →
    exec (.pairStatus sl) s = .next (mbxFinish (mbxTake s) sl 0x74 (MbxRes.ok (brdStateWord s).toNat)))
  ∧ (∀ (s : State) (sl : Slot) (fp m p : Nat) (e : Instr × Nat), s.pair.rpart = false → mbxReady s = true →
      e ∈ [(Instr.pairBind sl fp m p, 0x70), (.pairSwitch sl, 0x71), (.pairLeave sl, 0x72), (.pairForce sl, 0x73), (.pairStatus sl, 0x74)] →
    exec e.1 s = .next (mbxFinish (record (mbxTake s) 0x0605 0xC 0 [e.2]) sl e.2 (MbxRes.refuse 3)))
  ∧ (∀ (s : State) (sl : Slot) (fp m p : Nat) (e : Instr × Nat), s.pair.rpart = true → s.tamper.zeroised = true → MbxRuns s e.2 →
      e ∈ [(Instr.pairBind sl fp m p, 0x70), (.pairSwitch sl, 0x71), (.pairLeave sl, 0x72), (.pairForce sl, 0x73)] →
    exec e.1 s = .next (mbxFinish (mbxTake s) sl e.2 (MbxRes.refuse 6)))
  ∧ (∀ (s : State) (by_ : Party) (v : Word), writeCause s by_ 4 0xD0044 v = 0 →
    (fld v 0 0 = 1 → s.pair.st ≠ .held → s.pair.recov = false → exec (.blkclr by_ v) s
        = .next { modPage s 0xD0 (fun g => g.setArmed by_ false) with pair := { s.pair with block := false } })
      ∧ (s.pair.st = .held ∨ s.pair.recov = true → exec (.blkclr by_ v) s = .next (modPage s 0xD0 (fun g => g.setArmed by_ false))))
  ∧ (∀ s : State, s.boot.inReset = false → s.boot.phase ≠ .rom →
    exec .watchdogExpiry s = .next { s with boot := { s.boot with ccDead := true }, pair := { s.pair with psOut := .dying } })

/-- The tamper response (R154, R183, R361, R362): enabled sources that trip in an armed state, while no request waits at Flurry, zeroise the module,
whatever the ceremony and the debug views: KSTATE ZEROISED, no master key, slots, components, DRAM keys or copy of the identity key left, every lane
that is on ABORTED with an empty cache, pair-sense DYING; other sources, and every source in an unarmed state, change nothing; and in reset the tamper
die keeps the event (R363). Sources and measurements (R357, R358, R360, R364, R378), out of reset: a source that trips in an unarmed state is shown,
with SRCCHG, and cleared when it leaves; failures of each mesh in a row are counted, a success ends the count, and the eighth in an armed state
programs IDKILL and erases both copies of the identity seed; the mesh seed comes from Flurry; temperature and a low VBAT are held, with TEMPWARN while
the temperature is near or beyond its limits. Clauses of it rest on choices of the model: log entries 98, 99, 100, 115 and 158. -/
def Obligations.TamperResponse : Prop :=
  ((∀ (s : State) (src : BitVec 12) (m : Nat), m = Nat.land src.toNat (sourcesEnabled s) → m ≠ 0 → tamperArmed s = true →
      s.boot.inReset = false → s.rng.waiting = [] →
    ∃ t, exec (.tamperDetect src) s = .next t ∧ t.tamper.zeroised = true ∧ t.tamper.last = m
      ∧ t.tamper.evCnt = min (s.tamper.evCnt + 1) 0xFFFFFFFF ∧ t.firn.kstate = .zeroised ∧ t.firn.recA = .empty ∧ t.firn.recB = .empty
      ∧ t.firn.slots = [] ∧ t.firn.comps = [] ∧ t.pool.dram0.keyVal = false ∧ t.pool.dram1.keyVal = false ∧ t.pair.psOut = .dying
      ∧ t.lc.idKey = none ∧ t.tamper.cer = .idle ∧ t.lc.views = 0 ∧ bit (getPage t 0xE0).stat 0 = true
      ∧ (∀ n, n < 32 → (getLane s n).st ≠ .off → (getLane t n).st = .aborted ∧ (getLane t n).cache = []))
  ∧ (∀ (s : State) (src : BitVec 12), tamperArmed s = false ∨ Nat.land src.toNat (sourcesEnabled s) = 0 →
      exec (.tamperDetect src) s = .next s)
  ∧ (∀ (s : State) (src : BitVec 12) (m : Nat), m = Nat.land src.toNat (sourcesEnabled s) → m ≠ 0 → tamperArmed s = true →
      s.boot.inReset = true → s.tamper.batRecs.length < 32 →
    ∃ t, exec (.tamperDetect src) s = .next t ∧ t.tamper.zeroised = true
      ∧ t.tamper.batRecs = s.tamper.batRecs ++ [⟨m, s.boot.now * 32768 / 1000000000, 0⟩] ∧ t.firn.kstate = .zeroised ∧ t.firn.recA = .empty
      ∧ t.firn.recB = .empty ∧ t.mem = s.mem))
  ∧ ((∀ (s : State) (b : Fin 12), s.boot.inReset = false →
    (tamperArmed s = false → bit s.tamper.active b = false → ∃ t, exec (.tamperSourceEvent b true) s = .next t
        ∧ t.tamper.active = Nat.lor s.tamper.active (2 ^ b.val) ∧ bit (getPage t 0xE0).stat 1 = true ∧ t.tamper.zeroised = s.tamper.zeroised
        ∧ t.firn = s.firn ∧ t.mem = s.mem)
      ∧ (bit s.tamper.active b = true → exec (.tamperSourceEvent b false) s
          = .next (setEvt { s with tamper := { s.tamper with active := s.tamper.active - 2 ^ b.val } } 0xE0 1)))
  ∧ (∀ s : State, (exec (.meshMeasurement 0 true) s = .next { s with tamper := { s.tamper with meshFail0 := 0 } })
      ∧ (s.tamper.meshFail0 < 7 → exec (.meshMeasurement 0 false) s
          = .next { s with tamper := { s.tamper with meshFail0 := s.tamper.meshFail0 + 1 } })
      ∧ (s.tamper.meshFail0 = 7 → tamperArmed s = true → s.boot.inReset = false → exec (.meshMeasurement 0 false) s
          = .next { s with
              tamper := { s.tamper with meshFail0 := 8 }, lc := { s.lc with idKill := true, idKey := none, seedA := none, seedB := none } })
      ∧ (exec (.meshMeasurement 1 true) s = .next { s with tamper := { s.tamper with meshFail1 := 0 } })
      ∧ (s.tamper.meshFail1 < 7 → exec (.meshMeasurement 1 false) s
          = .next { s with tamper := { s.tamper with meshFail1 := s.tamper.meshFail1 + 1 } })
      ∧ (s.tamper.meshFail1 = 7 → tamperArmed s = true → s.boot.inReset = false → exec (.meshMeasurement 1 false) s
          = .next { s with
              tamper := { s.tamper with meshFail1 := 8 }, lc := { s.lc with idKill := true, idKey := none, seedA := none, seedB := none } }))
  ∧ (∀ s : State, s.boot.inReset = false → s.rng.st = .ready → s.rng.waiting = [] → 8 ≤ s.rng.qfill →
    exec .meshSeedRefresh s = .next { s with
      rng := { s.rng with qfill := s.rng.qfill - 8, outPos := s.rng.outPos + 8 }, tamper := { s.tamper with seed := s.rng.outPos } })
  ∧ (∀ (s : State) (v : BitVec 16), ∃ t, exec (.tamperTempMeasurement v) s = .next t ∧ t.tamper = { s.tamper with temp := v.toNat }
      ∧ bit (getPage t 0xE0).cond 4 = decide (sgn 16 v.toNat ≤ -640 ∨ 1520 ≤ sgn 16 v.toNat)
      ∧ t = { s with tamper := t.tamper, pages := t.pages, msix := t.msix })
  ∧ (∀ (s : State) (mv : Nat), s.boot.inReset = false →
    (mv < 2700 → ∃ t, exec (.vbatLowWarning mv) s = .next t ∧ t.tamper = { s.tamper with vbat := mv } ∧ t.firn = s.firn ∧ t.mem = s.mem)
      ∧ (2700 ≤ mv → exec (.vbatLowWarning mv) s = .next s)))

/-- Officers and ceremonies (R368 to R373): the first officer table stands once both signatures hold, and else is refused; CEREMONY_OPEN, with the
input energised and bytes in Flurry's queue, opens a ceremony with a fresh nonce; a token that holds advances it and one that fails counts, the third
ending it; CEREMONY_EXEC of CODEKEY_SET, OFFICER_SET and, on an unbound ZEROISED module without recent trips, TAMPER_REARM runs them with its block,
the first two staying in EXEC until their effects are durable; cancelling, and the expiry of an open ceremony, return to IDLE. Clauses of it rest on
choices of the model: log entries 40, 101 and 102. -/
def Obligations.Ceremonies : Prop :=
  (∀ (s : State) (sl : Slot) (b : List Byte), MbxRuns s 0x84 → s.lc.st = .sealed → tableBad b = false → b.length = tableLen b + 9254 →
      s.tamper.officers = [] → ceremonyInput s = true →
    exec (.officerInit sl b) s = .next (
      if ((((tableEntries b).filter (fun o => bit o.roles 0)).take 2).zip [ofBe (slice b (tableLen b) 4627), ofBe (slice b (tableLen b + 4627) 4627)]).all
          (fun e => Config.mldsaVerify e.1.pubKey (Config.sha3 (beBytes 32 (deviceFpr s) ++ b.take (tableLen b))) e.2) then
        mbxFinish { mbxTake s with tamper := { s.tamper with officers := tableEntries b } } sl 0x84 (MbxRes.durable [.officers (tableEntries b)])
      else mbxFinish (mbxTake s) sl 0x84 (MbxRes.refuse 6)))
  ∧ (∀ (s : State) (sl : Slot) (inner id : Nat) (b : List Byte), MbxRuns s 0x80 → dualControl inner = true → id < 2 ^ 32 → s.tamper.cerHigh < id →
      s.tamper.cer = .idle → ceremonyInput s = true → innerAccepted s inner = true → ¬ (inner = 0x47 ∧ s.firn.kstate = .changing) →
      s.rng.st = .ready → s.rng.waiting = [] → 32 ≤ s.rng.qfill →
    ∃ u n, exec (.ceremonyOpen sl inner id b) s = .next (mbxFinish u sl 0x80 (MbxRes.ok id (beBytes 32 n)))
      ∧ n = Config.freeValue s.freeCtr % 2 ^ 256 ∧ u.tamper.cer = .opened ∧ u.tamper.cerId = id ∧ u.tamper.cerCmd = inner
      ∧ u.tamper.cerNonce = n ∧ u.tamper.cerBlock = b ∧ u.tamper.cerHigh = id ∧ u.tamper.cerFails = 0 ∧ bit (getPage u 0xE0).stat 2 = true
      ∧ u.rng.qfill = s.rng.qfill - 32 ∧ u.mem = s.mem)
  ∧ (∀ (s : State) (sl : Slot) (t : List Byte), MbxRuns s 0x81 → s.lc.st = .field → s.tamper.cerSlot = none →
    (s.tamper.cer = .opened → tokenStatus s t = 0 → ∃ u, exec (.ceremonyAuth sl t) s = .next (mbxFinish u sl 0x81 MbxRes.ok)
        ∧ u.tamper.cer = .auth1 ∧ u.tamper.cerOff1 = some (beAt t 6 1) ∧ u.tamper.cerFails = s.tamper.cerFails ∧ u.mem = s.mem)
      ∧ (s.tamper.cer = .auth1 → tokenStatus s t = 0 → ∃ u, exec (.ceremonyAuth sl t) s = .next (mbxFinish u sl 0x81 MbxRes.ok)
        ∧ u.tamper.cer = .auth2 ∧ u.tamper.cerOff2 = some (beAt t 6 1) ∧ u.tamper.cerOff1 = s.tamper.cerOff1 ∧ u.mem = s.mem)
      ∧ (s.tamper.cer = .opened ∨ s.tamper.cer = .auth1 → tokenStatus s t ≠ 0 →
        ∃ u, exec (.ceremonyAuth sl t) s = .next (mbxFinish u sl 0x81 (MbxRes.refuse (tokenStatus s t)))
          ∧ (s.tamper.cerFails < 2 → u.tamper.cer = s.tamper.cer ∧ u.tamper.cerFails = s.tamper.cerFails + 1)
          ∧ (s.tamper.cerFails = 2 → u.tamper.cer = .idle ∧ u.tamper.cerBlock = []) ∧ u.mem = s.mem)
      ∧ (s.tamper.cer = .idle → s.tamper.cerExpired = none → exec (.ceremonyAuth sl t) s = .next (mbxFinish (mbxTake s) sl 0x81 (MbxRes.refuse 2))))
  ∧ (∀ (s : State) (sl : Slot) (id : Nat) (otp : OtpOutcome), MbxRuns s 0x82 → s.lc.st = .field → s.tamper.cer = .auth2 → s.tamper.cerId = id →
    (s.tamper.cerCmd = 0x88 → s.tamper.cerBlock.length = 2592 → ∃ u k, exec (.ceremonyExec sl id otp) s
          = .next (mbxFinish u sl 0x82 (MbxRes.durable [.codeKey k] 0))
        ∧ k = (if ofBe s.tamper.cerBlock = 0 then none else some (ofBe s.tamper.cerBlock)) ∧ u.tamper.codeKey = k ∧ u.tamper.cer = .exec
        ∧ u.mem = s.mem)
      ∧ (s.tamper.cerCmd = 0x86 → tableBad s.tamper.cerBlock = false → s.tamper.cerBlock.length = tableLen s.tamper.cerBlock →
        ∃ u l, exec (.ceremonyExec sl id otp) s = .next (mbxFinish u sl 0x82 (MbxRes.durable [.officers l] 0)) ∧ u.tamper.officers = l
          ∧ l.map (fun o => (o.index, o.roles, o.pubKey)) = (tableEntries s.tamper.cerBlock).map (fun o => (o.index, o.roles, o.pubKey))
          ∧ u.tamper.cer = .exec ∧ u.mem = s.mem)
      ∧ (s.tamper.cerCmd = 0x87 → s.tamper.cerBlock.length = 4 → Nat.land (leOf s.tamper.cerBlock 0 4) 0xFFFFFFC3 = 0 → s.tamper.active = 0 →
          s.tamper.trips = [] → s.tamper.zeroised = true → s.pair.bound = false →
        ∃ u, exec (.ceremonyExec sl id otp) s = .next (mbxFinish u sl 0x82 (MbxRes.durable [] 0)) ∧ u.tamper.zeroised = false
          ∧ u.tamper.srcEn = leOf s.tamper.cerBlock 0 4 ∧ u.firn.kstate = .nommk ∧ u.tamper.cer = .idle ∧ u.mem = s.mem))
  ∧ (∀ (s : State) (sl : Slot) (id : Nat), MbxRuns s 0x83 → s.lc.st = .field → s.tamper.cer ≠ .idle → s.tamper.cer ≠ .exec → s.tamper.cerId = id →
      s.tamper.cerSlot = none →
    ∃ u, exec (.ceremonyCancel sl id) s = .next (mbxFinish u sl 0x83 MbxRes.ok) ∧ u.tamper.cer = .idle ∧ u.tamper.cerBlock = []
      ∧ u.tamper.cerNonce = 0 ∧ u.firn.comps = [] ∧ u.mem = s.mem)
  ∧ (∀ s : State, s.tamper.cer = .opened →
    ∃ t, exec .ceremonyExpiry s = .next t ∧ t.tamper.cer = .idle ∧ t.tamper.cerExpired = some s.tamper.cerId ∧ t.tamper.cerBlock = []
      ∧ t.firn.comps = [] ∧ t.mem = s.mem)

/-- Life-cycle commands (R380, R385 to R393): the state word, with a fresh nonce where Flurry has the bytes; LC_FIELD whose preconditions hold
programs its START and DONE groups whole and asks for the reset, names what is missing, and ends with OTP where the group takes nothing; an
interrupted transition is completed; debug views close by command or at their end; LC_ZEROISE zeroises; LC_MFG programs its transition under a token
that holds, once for each nonce; the certificate is stored once; and JTAG changes nothing but for a memory test mode, reached in BLANK and not in
FIELD, and the halt of a bobbin of a DRAINED pillow through the view HALT. The decoding of the life-cycle word (R383): the states of whole
transitions, an interrupted one as LC_REPAIR with its target, any other word INVALID. Clauses of it rest on choices of the model: log entries 103 and
158. -/
def Obligations.LifeCycle : Prop :=
  ((∀ (s : State) (sl : Slot), mbxReady s = true →
    (s.rng.st = .fatal → exec (.lcStatus sl) s = .next (mbxFinish (mbxTake s) sl 0x90 (MbxRes.ok (lcStateWord s).toNat)))
      ∧ (s.rng.st = .ready → s.rng.waiting = [] → 32 ≤ s.rng.qfill → ∃ u n, exec (.lcStatus sl) s
          = .next (mbxFinish u sl 0x90 (MbxRes.ok (lcStateWord s).toNat (beBytes 32 n))) ∧ n = Config.freeValue s.freeCtr % 2 ^ 256
        ∧ u.lc = { s.lc with nonces := s.lc.nonces ++ [n] } ∧ u.rng.qfill = s.rng.qfill - 32 ∧ u.mem = s.mem))
  ∧ (∀ (s : State) (sl : Slot), MbxRuns s 0x91 → s.lc.st = .sealed → s.lc.running = false → ceremonyInput s = true →
    (s.tamper.officers ≠ [] → s.lc.cert = true → s.lc.identity = true → ∃ u, exec (.lcField sl .done) s = .next (mbxFinish u sl 0x91 MbxRes.ok)
        ∧ u.lc.lcw = Nat.lor s.lc.lcw 0xFF0000 ∧ u.lc.running = true ∧ u.lc.resetDue = true ∧ u.lc.st = .sealed ∧ u.lc.views = 0 ∧ u.mem = s.mem)
      ∧ (s.tamper.officers = [] → s.lc.cert = false → s.lc.identity = true →
        exec (.lcField sl .done) s = .next (mbxFinish (mbxTake s) sl 0x91 (MbxRes.refuse 3 6)))
      ∧ (s.tamper.officers ≠ [] → s.lc.cert = true → s.lc.identity = true → ∃ u, exec (.lcField sl .startNone) s
          = .next (mbxFinish u sl 0x91 (MbxRes.refuse 8)) ∧ u.lc.lcw = s.lc.lcw ∧ u.lc.resetDue = s.lc.resetDue ∧ u.mem = s.mem))
  ∧ (∀ (s : State) (sl : Slot) (k : Nat), MbxRuns s 0x95 → s.lc.st = .repair → s.lc.running = false → ceremonyInput s = true →
      s.lc.target ≠ 2 → s.lc.target ≠ 5 → k = lcFirst s.lc.lcw 5 1 →
    ∃ u, exec (.lcComplete sl .done) s = .next (mbxFinish u sl 0x95 MbxRes.ok)
      ∧ u.lc.lcw = Nat.lor s.lc.lcw (0xFF * 2 ^ (8 * (k - 1))) ∧ u.lc.resetDue = true ∧ u.mem = s.mem)
  ∧ (∀ (s : State) (sl : Slot), MbxRuns s 0x94 → s.lc.st = .field →
    ∃ u, exec (.debugLock sl) s = .next (mbxFinish u sl 0x94 MbxRes.ok) ∧ u.lc.views = 0 ∧ u.lc.lcw = s.lc.lcw ∧ u.mem = s.mem)
  ∧ (∀ s : State, (s.lc.views = 0 → exec .debugExpiry s = .next s)
      ∧ (s.lc.views ≠ 0 → ∃ t, exec .debugExpiry s = .next t ∧ t.lc = { s.lc with views := 0, viewEnd := 0, viewCer := 0, halted := [] }
        ∧ bit (getPage t 0).stat 1 = true ∧ t.mem = s.mem))
  ∧ (∀ (s : State) (sl : Slot), MbxRuns s 0x96 → s.lc.st = .sealed ∨ s.lc.st = .field →
    ∃ u, exec (.lcZeroise sl) s = .next (mbxFinish u sl 0x96 MbxRes.ok) ∧ u.tamper.zeroised = true ∧ u.firn.kstate = .zeroised
      ∧ u.firn.recA = .empty ∧ u.firn.recB = .empty ∧ u.firn.slots = [] ∧ u.pair.psOut = .dying)
  ∧ (∀ (s : State) (sl : Slot) (tok : List Byte), MbxRuns s 0x97 → s.lc.st = .blank → s.lc.running = false → s.lc.dieId = true →
      s.lc.mfgKeyHash = true →
    ∃ u r, exec (.lcMfg sl tok 2 .done) s = .next (mbxFinish u sl 0x97 r)
      ∧ (mfgTokenOk s tok 2 = false → u = mbxTake s ∧ r = MbxRes.refuse 6)
      ∧ (mfgTokenOk s tok 2 = true → r = MbxRes.ok ∧ u.lc.lcw = Nat.lor s.lc.lcw 0xFF ∧ u.lc.resetDue = true
          ∧ beAt tok 0x30 32 ∉ u.lc.nonces))
  ∧ (∀ (s : State) (sl : Slot) (chain : List Byte), MbxRuns s 0x98 → s.lc.st = .sealed →
    (s.lc.cert = false → exec (.certStore sl chain) s
        = .next (mbxFinish { mbxTake s with lc := { s.lc with cert := true, certChain := chain } } sl 0x98 MbxRes.ok))
      ∧ (s.lc.cert = true → exec (.certStore sl chain) s = .next (mbxFinish (mbxTake s) sl 0x98 (MbxRes.refuse 2))))
  ∧ (∀ s : State, (∀ v, exec (.jtagAccess .idcode) s = .next s ∧ exec (.jtagAccess .bypass) s = .next s
        ∧ exec (.jtagAccess .boundaryScan) s = .next s ∧ exec (.jtagAccess (.view v)) s = .next s)
      ∧ (∀ b : Fin 512, bit s.lc.views 1 = true → (getPil s (b.val / 32)).st = .drained → exec (.jtagAccess (.halt b)) s
          = .next { s with lc := { s.lc with halted := s.lc.halted.filter (· != b.val) ++ [b.val] } })
      ∧ (s.lc.st = .blank → exec (.jtagAccess .memoryTest) s = .next { s with lc := { s.lc with testMode := true, testOpened := true } })
      ∧ (s.lc.st = .field → exec (.jtagAccess .memoryTest) s = .next s)))
  ∧ ((∀ k, k ≤ 5 → lcDecode (2 ^ (8 * k) - 1) = (lcReached k, 0))
  ∧ (∀ k a d, k < 5 → 0 < a → a < 16 → d < 15 → lcDecode (2 ^ (8 * k) - 1 + (a + 16 * d) * 2 ^ (8 * k)) = (.repair, (lcReached (k + 1)).code))
  ∧ (∀ w, 2 ^ 40 ≤ w → lcDecode w = (.invalid, 0))
  ∧ (∀ k d, k < 5 → 0 < d → d < 16 → lcDecode (2 ^ (8 * k) - 1 + 16 * d * 2 ^ (8 * k)) = (.invalid, 0))
  ∧ (∀ k x, k < 4 → 0 < x → x < 2 ^ (32 - 8 * k) → lcDecode (2 ^ (8 * k) - 1 + x * 2 ^ (8 * (k + 1))) = (.invalid, 0)))

/-! ### Randomness, log, start-up, power, station side -/

/-- Flurry's sources and generator (R395 to R402), with no firmware service waiting for bytes: in READY a block that passes both tests gives an
output; the first failure of an hour restarts its source and Flurry, and the fourth in a row of a source makes it FATAL; a source that has restarted
runs again; the generator is instantiated from three outputs, reseeded from two for 512 bytes, and idle in RESTARTING; and Flurry becomes READY when
its start-up conditions hold. Requests (R398, R399), none waiting before: one of the control cluster that the queue can serve takes its bytes at once,
one that it cannot waits, and in FATAL nothing is given; the request that waits too long ends with an event and its count, and the ATTEST that waited
for it with RNG; and a DRAM controller told to retry gets its key. Test-pattern substitution (R400, R405), with no firmware service waiting for bytes:
RNG_TEST with a mode brings Flurry from READY into TEST with queue and generator zeroed, RAW with its source withdrawn; without one TEST ends in a new
start-up and READY stays; and RNG_RAW takes the next raw word or the next word of the pattern's output in TEST, 0 in READY. Clauses of it rest on
choices of the model: log entries 9, 24 and 25. -/
def Obligations.Randomness : Prop :=
  ((∀ (s : State) (i : Fin 8) (block : List Bool) (x : RngSource) (last : Bool) (run : Nat), getSource s i = x → x.restarting = false →
      x.withdrawn = false → s.rng.st = .ready → block.length = 1024 → s.boot.inReset = false →
      repetition x.lastBit x.run block = (last, run, false) → adaptiveFails block = false → s.rng.given = [] →
    exec (.rngBlock i block) s = .next { s with rng := { s.rng with
      outputs := s.rng.outputs + 1
      sources := setAt s.rng.sources i { x with lastBit := last, run := run, consec := 0, passes := min 4 (x.passes + 1) } } })
  ∧ (∀ (s : State) (i : Fin 8) (block : List Bool) (x : RngSource) (last rep : Bool) (run : Nat), getSource s i = x → x.restarting = false →
      x.withdrawn = false → s.rng.st = .ready → block.length = 1024 → s.boot.inReset = false → s.rng.sources.length = 8 →
      repetition x.lastBit x.run block = (last, run, rep) → rep = true ∨ adaptiveFails block = true → s.rng.failTimes = [] →
      s.rng.given = [] → (∀ r ∈ s.rng.waiting, r.need = none) →
    (x.consec < 3 → ∃ t, exec (.rngBlock i block) s = .next t ∧ t.rng.st = .restarting ∧ t.rng.outputs = 0
        ∧ (getSource t i).restarting = true ∧ (getSource t i).consec = x.consec + 1 ∧ t.rng.failTimes = [s.boot.now]
        ∧ t.rng.lastFail = some (i.val, bnat rep + 2 * bnat (adaptiveFails block)) ∧ t.rng.qfill = s.rng.qfill
        ∧ getReg t 0xF0028 = satInc (getReg s 0xF0028) ∧ bit (getPage t 0xF0).stat 0 = true ∧ t.mem = s.mem)
      ∧ (x.consec = 3 → dramKeyed s = true → ∃ t, exec (.rngBlock i block) s = .next t ∧ t.rng.st = .fatal ∧ t.rng.qfill = 0
        ∧ t.rng.waiting = [] ∧ t.rng.inst = false ∧ bit (getPage t 0xF0).stat 3 = true ∧ t.boot = s.boot ∧ t.mem = s.mem))
  ∧ (∀ (s : State) (i : Fin 8), s.rng.st = .ready → exec (.rngSourceRestarted i) s
      = .next { s with rng := { s.rng with sources := setAt s.rng.sources i { getSource s i with restarting := false, run := 0 } } })
  ∧ (∀ s : State, s.rng.given = [] → (s.rng.st = .starting → s.rng.inst = false → s.rng.katOk = true → 3 ≤ s.rng.outputs →
        exec .rngGenerate s = .next { s with rng := { s.rng with inst := true, outputs := s.rng.outputs - 3 } })
      ∧ (s.rng.st = .ready → s.rng.inst = true → s.rng.qfill ≤ 3584 → 2 ≤ s.rng.outputs → s.rng.waiting = [] →
        exec .rngGenerate s = .next { incReg s 0xF0034 with rng := { s.rng with outputs := s.rng.outputs - 2, qfill := s.rng.qfill + 512 } })
      ∧ (s.rng.st = .restarting → exec .rngGenerate s = .next s))
  ∧ (∀ s : State, s.rng.st = .starting → s.rng.katOk = true → s.rng.inst = true → s.rng.qfill = 4096 →
      s.rng.sources.all (fun x => decide (4 ≤ x.passes)) = true →
    ∃ t, exec .rngReady s = .next t ∧ t.rng = { s.rng with st := .ready } ∧ bit (getPage t 0xF0).stat 1 = true ∧ t.mem = s.mem))
  ∧ ((∀ (s : State) (n : Nat), 4 ≤ n → n ≤ 64 → n % 4 = 0 → s.rng.waiting = [] →
    (s.rng.st = .ready → n ≤ s.rng.qfill → exec (.rngRequest 3 n) s
        = .next { s with rng := { s.rng with qfill := s.rng.qfill - n, outPos := s.rng.outPos + n } })
      ∧ (∀ p : Fin 5, s.rng.st = .restarting → s.rng.qfill < n → exec (.rngRequest p n) s
        = .next { s with rng := { s.rng with waiting := [⟨p, n, none⟩] } })
      ∧ (∀ p : Fin 5, s.rng.st = .fatal → exec (.rngRequest p n) s = .next s))
  ∧ (∀ (s : State) (p : Fin 5) (n : Nat), s.rng.given = [] →
    (s.rng.waiting = [⟨p, n, none⟩] →
      exec (.rngRequestTimeout p) s = .next (setEvt (incReg { s with rng := { s.rng with waiting := [] } } 0xF0038) 0xF0 2))
      ∧ (∀ (sl : Slot) (nonce : List Byte), s.rng.waiting = [⟨p, n, some (.attest sl nonce)⟩] →
        exec (.rngRequestTimeout p) s = .next (mbxFinish (setEvt (incReg { s with rng := { s.rng with waiting := [] } } 0xF0038) 0xF0 2)
          sl 0x51 (MbxRes.refuse 2))))
  ∧ (∀ (s : State) (n : Fin 2), (bit s.rng.dramRetry n = false → exec (.dramKeyRetry n) s = .next s)
      ∧ (bit s.rng.dramRetry n = true → s.rng.st = .ready → s.rng.waiting = [] → 64 ≤ s.rng.qfill → ∃ t, exec (.dramKeyRetry n) s = .next t
        ∧ (getDram t n).keyVal = true ∧ (getDram t n).key = s.rng.outPos ∧ t.rng.qfill = s.rng.qfill - 64
        ∧ t.rng.dramRetry = maskSet s.rng.dramRetry n false ∧ (∀ m : Fin 2, m ≠ n → getDram t m = getDram s m) ∧ t.mem = s.mem)))
  ∧ ((∀ (s : State) (by_ : Party) (i : Fin 8), writeCause s by_ 4 0xF003C (pack [(1, 4), (i, 0)]) = 0 → pageSafe s 0xF0 = false →
      s.rng.st = .ready → s.rng.sources.length = 8 → s.rng.given = [] → (∀ r ∈ s.rng.waiting, r.need = none) →
    ∃ t, exec (.rngTestRaw by_ i) s = .next t ∧ t.rng.st = .test ∧ t.rng.qfill = 0 ∧ t.rng.inst = false ∧ t.rng.outputs = 0
      ∧ t.rng.waiting = [] ∧ (∀ j : Fin 8, (getSource t j).withdrawn = decide (j = i)) ∧ bit (getPage t 0xF0).stat 1 = true ∧ t.mem = s.mem)
  ∧ (∀ (s : State) (by_ : Party), writeCause s by_ 4 0xF003C (pack [(2, 4)]) = 0 → pageSafe s 0xF0 = false → s.rng.st = .ready →
      s.rng.given = [] → (∀ r ∈ s.rng.waiting, r.need = none) →
    ∃ t, exec (.rngTestPattern by_) s = .next t ∧ t.rng.st = .test ∧ t.rng.qfill = 0 ∧ t.rng.inst = false ∧ t.rng.waiting = [] ∧ t.mem = s.mem)
  ∧ (∀ (s : State) (by_ : Party), writeCause s by_ 4 0xF003C 0 = 0 → s.rng.given = [] →
    (s.rng.st = .test → ∃ t, exec (.rngTestOff by_) s = .next t ∧ t.rng.st = .starting ∧ t.rng.qfill = 0 ∧ t.rng.startAt = s.boot.now
        ∧ (∀ x ∈ t.rng.sources, x.withdrawn = false ∧ x.passes = 0) ∧ t.mem = s.mem)
      ∧ (s.rng.st = .ready → ∃ t, exec (.rngTestOff by_) s = .next t ∧ t.rng = s.rng ∧ t.mem = s.mem))
  ∧ (∀ (s : State) (by_ : Party) (raw : Word), accessCause s by_ 4 0xF0040 = 0 →
    (s.rng.st = .test → fld (getReg s 0xF003C) 5 4 = 1 →
        exec (.rngRawRead by_ raw) s = .next { s with rng := { s.rng with rawWord := raw, rawPos := s.rng.rawPos + 1 } })
      ∧ (s.rng.st = .test → fld (getReg s 0xF003C) 5 4 ≠ 1 → exec (.rngRawRead by_ raw) s
          = .next { s with rng := { s.rng with rawWord := Config.patternWord s.rng.rawPos, rawPos := s.rng.rawPos + 1 } })
      ∧ (s.rng.st = .ready → exec (.rngRawRead by_ raw) s = .next { s with rng := { s.rng with rawWord := 0 } })))

/-- Records (R407 to R413): in NORMAL mode, with the ring not full, an offered record of a listed code of severity 0 to 5 takes a token of its code
and the next SEQ, with time, source, payload and the chain from its predecessor; without a token it is counted; a code that is not listed writes
nothing; tokens come back one at a time up to the burst; while the archive is not full the oldest closed record is archived, and a NAND failure stops
archiving. Reading the log (R408, R414, R415, R470): MOR_RSEQ latches the record named, or clears the window; LOG_READ answers closed records in
order, as many as fit, or ARCHIVE where NAND cannot be read; LOG_CHECK the first one whose chain does not follow; LOG_SEAL, where Flurry has the bytes
of every attempt at its signature, a signed statement over a range; LOG_LIMIT ends once its bucket is durable; and CAPTURE_READ answers the complete
captures that fit. Clauses of it rest on choices of the model: log entries 26, 82, 155 and 158. -/
def Obligations.MoraineLog : Prop :=
  ((∀ (s : State) (code source sev : Nat) (payload : List Nat), codeSev code = some sev → sev < 6 → s.mor.fresh = false → morMode s = 0 →
      s.mor.mode = 0 → (getBucket s code).rate ≠ 0 →
    ((getBucket s code).tokens ≠ 0 → s.mor.ring.length < 4096 → ∃ t r, exec (.moraineOffer code source payload) s = .next t
        ∧ t.mor.ring = s.mor.close.ring ++ [r] ∧ r.code = code ∧ r.source = source % 2 ^ 16 ∧ r.sev = sev ∧ r.seq = (s.mor.seq + 1) % 2 ^ 32
        ∧ r.time = ptpNow s ∧ r.payload = payload ∧ r.rep = min (getBucket s code).supp 0xFFFF ∧ r.archived = false
        ∧ r.chain = chainOf s (match s.mor.close.newest with | some q => some q | none => s.mor.archive.getLast?) ∧ t.mor.seq = r.seq
        ∧ getBucket t code = { getBucket s code with tokens := (getBucket s code).tokens - 1, supp := 0 } ∧ t.mor.archive = s.mor.archive
        ∧ t = { s with mor := t.mor, regs := t.regs, pages := t.pages, msix := t.msix })
      ∧ ((getBucket s code).tokens = 0 → exec (.moraineOffer code source payload) s = .next (setEvt (incReg (setBucket s code
          { getBucket s code with supp := (getBucket s code).supp + 1 }) 0x100034) 0x100 4)))
  ∧ (∀ (s : State) (code source : Nat) (payload : List Nat), codeSev code = none → exec (.moraineOffer code source payload) s = .next s)
  ∧ (∀ (s : State) (code : Nat) (b : Bucket), getBucket s code = b →
    (b.rate = 0 → exec (.tokenRefill code) s = .next s)
      ∧ (b.rate ≠ 0 → exec (.tokenRefill code) s = .next (setBucket s code { b with tokens := min b.burst (b.tokens + 1) })))
  ∧ (∀ (s : State) (r : MorRec) (n : Nat), s.mor.archErr = false → nextArchive s = some r →
    (s.mor.archive.length < 2097152 → ∃ t, exec (.archiveRecord true n) s = .next t
        ∧ t.mor.archive = s.mor.archive ++ [{ r with archived := true, isOpen := false }] ∧ t.mor.seq = s.mor.seq
        ∧ t.mor.ring = s.mor.ring.map (fun x => if x.seq = r.seq then { x with archived := true } else x) ∧ t = { s with mor := t.mor })
      ∧ (∃ t, exec (.archiveRecord false n) s = .next t ∧ t.mor.archErr = true ∧ bit (getPage t 0x100).stat 3 = true
        ∧ t.mor.archive = s.mor.archive ∧ t.mem = s.mem))
  ∧ (∀ (s : State) (n : Nat) (ok : Bool), s.mor.archErr = true → exec (.archiveRecord ok n) s = .next s))
  ∧ ((∀ (s : State) (by_ : Party) (v : Word) (r : MorRec), writeCause s by_ 4 0x101020 v = 0 →
      s.mor.ring.find? (fun x => x.seq == v.toNat) = some r →
    ∃ t, exec (.morRseq by_ v) s = .next t ∧ t.mor.rstat = pack [(1, 31), (bnat r.isOpen, 30), (bnat r.archived, 29)]
      ∧ t.mor.rrec = wordsOf 16 r.bytes ∧ getReg t 0x101020 = v ∧ t.mor.ring = s.mor.ring
      ∧ t = { s with mor := t.mor, regs := t.regs, pages := t.pages })
  ∧ (∀ (s : State) (by_ : Party) (v : Word), writeCause s by_ 4 0x101020 v = 0 → s.mor.ring.find? (fun x => x.seq == v.toNat) = none →
    ∃ t, exec (.morRseq by_ v) s = .next t ∧ t.mor.rstat = 0 ∧ t.mor.rrec = [])
  ∧ (∀ (s : State) (sl : Slot) (first count : Nat) (l : List MorRec) (ok : Bool), mbxReady s = true → 0 < count → count ≤ 65536 →
      first < 2 ^ 32 → needsNand s first count = false ∨ ok = true → l = (rangeRecords s first count).take (sl.rlen / 64) →
    exec (.logRead sl first count ok) s = .next (mbxFinish (mbxTake s) sl 0xA0 (MbxRes.ok l.length (l.flatMap MorRec.bytes))))
  ∧ (∀ (s : State) (sl : Slot) (first count : Nat), mbxReady s = true → 0 < count → count ≤ 65536 → first < 2 ^ 32 →
      needsNand s first count = true →
    exec (.logRead sl first count false) s = .next (mbxFinish (mbxTake s) sl 0xA0 (MbxRes.refuse 4)))
  ∧ (∀ (s : State) (sl : Slot) (first last n : Nat), mbxReady s = true → first < 2 ^ 32 → last < 2 ^ 32 → n = rangeLen first last → n ≤ 2101248 →
    (exec (.logCheck sl first last true) s = .next (mbxFinish (mbxTake s) sl 0xA1 (MbxRes.ok
        (match firstBroken s (allRecords s) ((allRecords s).filter (fun r => inRange first n r.seq)) with
          | some r => r.seq | none => 0xFFFFFFFF))))
      ∧ (s.lc.identity = true → s.ltu.st = .idle → SignRandom s → ∃ u rnd body,
        exec (.logSeal sl first last true) s = .next (mbxFinish u sl 0xA2 (MbxRes.ok 0 (body ++ identitySign s (Config.sha3 body) rnd)))
          ∧ body = sealBody s first last (rangeRecords s first n) ∧ u.firn = s.firn ∧ u.lc = s.lc
          ∧ (Config.freeValue (s.freeCtr + 2) = 0 → u.mor = s.mor ∧ rnd = Config.freeValue s.freeCtr) ∧ u.mem = s.mem))
  ∧ (∀ (s : State) (sl : Slot) (code rate burst sev : Nat), mbxReady s = true → codeSev code = some sev → sev < 6 → rate ≤ 1000 → 0 < burst →
      burst ≤ 1024 →
    exec (.logLimit sl code rate burst) s = .next (mbxFinish (mbxTake s) sl 0xA3 (MbxRes.durable [.logLimit code ⟨burst, rate, burst, 0⟩])))
  ∧ (∀ (s : State) (sl : Slot) (p first count : Nat) (l : List Capture), mbxReady s = true → p < 16 → 0 < count → count ≤ 64 →
      l = (getCapt s p).slots.filter (fun c => c.complete s && decide (first ≤ c.cseq) && decide (c.cseq < first + count)) →
      fitting l sl.rlen ≠ [] →
    exec (.captureRead sl p first count) s = .next (mbxFinish (mbxTake s) sl 0xB0
      (MbxRes.ok ((fitting l sl.rlen).length + 2 ^ 16 * min (getCapt s p).lost 0xFFFF) ((fitting l sl.rlen).flatMap (fun c => c.bytes))))))

/-- Reset (R385, R419, R426, R428): RESET_N, with debug views closed first, the reset that a transition or a recovery asks for, and a power failure
hold the module in internal reset: the life-cycle word, the tables and images of NAND, the master-key records, the archive, what the tamper die holds,
the waiting commands and the host's memory stay; key slots, journal, contexts, slices, registers, the ring of records and the module's memory are as
at reset; and a power failure also latches the time. Start-up (R421 to R425, R195, R383): at release, with the battery domain sound, the boot ROM
decodes the life cycle and takes the time from the battery domain; with the fuses read it starts the preferred image where that one holds and its copy
is good, and the other one where the preferred one fails, and asks for DRAM keys; it enters the hold where fuses or both images fail; the firmware's
entry commits the firewall and, where NAND holds no table, takes its settings and records what the boot found; then host access and the ports open.
The start-up hold and recovery (R425, R426, R440): a junction at 125 °C brings a module in service into the hold with its key slots and its copy of
the identity key cleared, and a cooler one changes nothing; GO starts the recovery of the slot named, whose end is DONE with the image written and
preferred, INVALID with the first failing check noted, or NAND_FAIL. Clauses of it rest on choices of the model: log entries 23, 104, 105, 106, 107,
108, 115 and 138. -/
def Obligations.ResetStartUpAndHold : Prop :=
  ((∀ s : State, (s.boot.inReset = true → exec .resetN s = .next s)
      ∧ (s.boot.inReset = false → exec .resetN s = .next (moduleReset (debugClose s)))
      ∧ (s.lc.resetDue = true → exec .transitionReset s = .next (moduleReset s))
      ∧ (s.lc.resetDue = false → exec .transitionReset s = .next s)
      ∧ (s.boot.rcvStatus = 4 → exec .recoveryReset s = .next (moduleReset s))
      ∧ (s.boot.rcvStatus ≠ 4 → exec .recoveryReset s = .next s))
  ∧ (∀ s : State, s.boot.inReset = false → ∃ t, exec .powerFailWarning s = .next t ∧ t.boot.inReset = true ∧ t.boot.powerFail = true
      ∧ t.boot.latchSec = s.ptp.sec ∧ t.boot.latchNs = s.ptp.ns ∧ t.firn.slots = [] ∧ t.firn.recA = s.firn.recA ∧ t.durable = s.durable)
  ∧ (∀ (s : State) (a : Nat), (moduleReset s).boot.inReset = true ∧ (moduleReset s).lc.lcw = s.lc.lcw ∧ (moduleReset s).durable = s.durable
      ∧ (moduleReset s).images = s.images ∧ (moduleReset s).firn.recA = s.firn.recA ∧ (moduleReset s).firn.recB = s.firn.recB
      ∧ (moduleReset s).mor.archive = s.mor.archive ∧ (moduleReset s).mor.ring = [] ∧ (moduleReset s).tamper.srcEn = s.tamper.srcEn
      ∧ (moduleReset s).tamper.zeroised = s.tamper.zeroised ∧ (moduleReset s).firn.slots = [] ∧ (moduleReset s).journal = []
      ∧ (moduleReset s).ctxs = [] ∧ (moduleReset s).slices = [] ∧ (moduleReset s).regs = [] ∧ (moduleReset s).pages = []
      ∧ (moduleReset s).pending = s.pending ∧ (2 ^ 64 ≤ a → readByte (moduleReset s) a = readByte s a)
      ∧ (a < 2 ^ 64 → readByte (moduleReset s) a = 0)))
  ∧ ((∀ (s : State) (env : BootEnv) (st : Lc) (tgt : Nat), s.boot.inReset = true → lcDecode s.lc.lcw = (st, tgt) → st ≠ .invalid →
    (env.otpOk = true → env.katOk = true → env.batteryOk = true → s.rng.st = .starting → s.boot.prefSlot < 2 → s.boot.latchNs < 1000000000 →
      ∃ t, exec (.resetRelease env) s = .next t ∧ t.boot.inReset = false ∧ t.lc.st = st ∧ t.lc.target = tgt
        ∧ (env.elapsedNs = 0 → t.ptp.ns = s.boot.latchNs ∧ t.ptp.sec = (s.boot.latchSec + env.elapsedSec) % 2 ^ 48) ∧ t.ptp.st = .freerun
        ∧ t.boot.bootCnt = s.boot.bootCnt + bnat (!(st == .blank || st == .factoryTest))
        ∧ (imageFault s (prefImage s) = 0 → copyGood env s.boot.prefSlot = true → t.boot.phase = .rom ∧ t.boot.slot = s.boot.prefSlot
            ∧ t.boot.now = 0 ∧ t.rng.dramRetry = Nat.lor (Nat.lor s.rng.dramRetry 1) 2 ∧ t.mem = s.mem)
        ∧ (imageFault s (prefImage s) ≠ 0 → imageFault s (otherImage s) = 0 → copyGood env (1 - s.boot.prefSlot) = true →
            t.boot.phase = .rom ∧ t.boot.slot = 1 - s.boot.prefSlot
            ∧ t.boot.notes = s.boot.notes ++ [(s.boot.prefSlot, imageFault s (prefImage s))]
            ∧ t.rng.dramRetry = Nat.lor (Nat.lor s.rng.dramRetry 1) 2 ∧ t.mem = s.mem)
        ∧ (imageFault s (prefImage s) ≠ 0 → imageFault s (otherImage s) ≠ 0 →
            t.boot.phase = .hold ∧ t.boot.cause = 1 ∧ t.boot.access = .holdPages))
      ∧ (env.otpOk = false → env.batteryOk = true →
        ∃ t, exec (.resetRelease env) s = .next t ∧ t.boot.phase = .hold ∧ t.boot.cause = 5 ∧ t.boot.inReset = false))
  ∧ (∀ s : State, s.boot.inReset = false → s.boot.phase = .rom → s.pool.dram0.st = .service → s.pool.dram1.st = .service →
    (∃ t, exec .firmwareEntry s = .next t ∧ t.fwl.epoch = 1)
      ∧ (s.durable.shadow = none → s.durable.slices = [] → s.durable.ctxs = [] → s.durable.groups = [] → s.durable.blobs = [] → s.durable.bound = false →
          s.slices = [] → s.ctxs = [] → s.boot.batteryOk = true → s.tamper.breachDue = false → s.tamper.zeroised = false → s.firn.outlived = [] →
        ∃ t, exec .firmwareEntry s = .next t ∧ t.boot.phase = .firmware ∧ t.boot.notes = [] ∧ t.tamper.batRecs = []
          ∧ t.tamper.codeKey = s.durable.codeKey ∧ t.images = s.durable.images ∧ t.durable = s.durable))
  ∧ (∀ (s : State) (ms : Nat), s.boot.phase = .firmware →
    ∃ t, exec (.hostAccessOpen ms) s = .next t ∧ t.boot = { s.boot with phase := .hostOpen, access := .full, bootTime := ms }
      ∧ t = { s with boot := t.boot, mor := t.mor, regs := t.regs, pages := t.pages, msix := t.msix })
  ∧ (∀ s : State, s.boot.phase = .hostOpen → s.firn.schedule = [] →
    exec .portHoldRelease s = .next { s with
      boot := { s.boot with phase := .service, portHold := false }, stn := { s.stn with health := !s.boot.ccDead }
      pair := if s.pair.bound then { s.pair with psOut := .standby } else s.pair }))
  ∧ ((∀ (s : State) (tj : BitVec 16), s.boot.inReset = false → 2000 ≤ tj.toInt → s.boot.phase = .service →
    ∃ t, exec (.tempHold tj) s = .next t ∧ t.boot.phase = .hold ∧ t.boot.cause = 4 ∧ t.boot.portHold = true ∧ t.pwc.tj = tj.toNat
      ∧ t.firn.slots = [] ∧ t.pair.psOut = .dying ∧ t.lc.identity = false)
  ∧ (∀ (s : State) (tj : BitVec 16), tj.toInt < 2000 → exec (.tempHold tj) s = .next s)
  ∧ (∀ (s : State) (by_ : Party) (slot : Bool), writeCause s by_ 4 0x102C (pack [(bnat slot, 1), (1, 0)]) = 0 →
    ∃ t, exec (.recoveryGo by_ slot) s = .next t ∧ t.boot = { s.boot with rcvStatus := 1 } ∧ fld (getReg t 0x102C) 1 1 = bnat slot
      ∧ t = { s with boot := t.boot, regs := t.regs, pages := t.pages })
  ∧ (∀ (s : State) (m : FwImage) (slot : Nat), s.boot.rcvStatus = 1 → slot = fld (getReg s 0x102C) 1 1 →
    (imageFault s m = 0 → exec (.recoveryDone (.image m)) s = .next { s with boot := { s.boot with
          rcvStatus := 4, prefSlot := slot, imageA := (if slot = 0 then m else s.boot.imageA), imageB := (if slot = 0 then s.boot.imageB else m) } })
      ∧ (imageFault s m ≠ 0 → exec (.recoveryDone (.image m)) s = .next { s with boot := { s.boot with
          rcvStatus := 2, notes := s.boot.notes ++ [(slot, imageFault s m)] } })
      ∧ (∃ t, exec (.recoveryDone (.image m)) s = .next t ∧ t = { s with boot := t.boot })
      ∧ exec (.recoveryDone .nandFail) s = .next { s with boot := { s.boot with rcvStatus := 3 } }))

/-- Clocks and temperature (R29, R357, R433, R434, R439), out of reset: a faulted PTP reference puts a free-running time unit on the substitute clock,
and its end takes it back; the station reference comes back by itself; a fault of the system reference or the engine clock trips CLKGLITCH, which is a
tamper event in an armed state; THERM follows the junction temperature. Power requests (R30, R31, R39, R435, R438, R439): an OFF that a condition
refuses ends at once with its status; an accepted OFF or ON of a port switches its domain, at ON with its page at its reset values, and stays in
progress until it is reported done, a domain that did not come up with FAULT; the low-power hold is entered with what was on kept and the captures
gone, refused with STATE where it may not be, and left with both DRAM controllers on. Clauses of it rest on choices of the model: log entries 109, 110
and 111. -/
def Obligations.ClocksAndPower : Prop :=
  ((∀ (s : State) (v : Word), s.boot.inReset = false → bit s.pwc.clkOk 2 = true → s.ptp.st = .freerun →
    ∃ t, exec (.clockFault 2 v) s = .next t ∧ t.pwc.clkOk = maskSet s.pwc.clkOk 2 false ∧ bit (getPage t 0x130).stat 1 = true
      ∧ t.ptp = { s.ptp with ptpOk := false, irigOk := false, ppsOk := false, rejected := false, substitute := true } ∧ t.mem = s.mem)
  ∧ (∀ (s : State) (k : Fin 6) (v : Word), s.boot.inReset = false → 4 ≤ k.val →
    (tamperArmed s = false → ∃ t, exec (.clockFault k v) s = .next t ∧ t.tamper.active = Nat.lor s.tamper.active 0x80
        ∧ t.tamper.zeroised = s.tamper.zeroised ∧ t.firn = s.firn ∧ t.pwc = s.pwc ∧ t.mem = s.mem)
      ∧ (tamperArmed s = true → ∃ t, exec (.clockFault k v) s = .next t ∧ t.tamper.zeroised = true ∧ t.tamper.last = 0x80
        ∧ t.firn.kstate = .zeroised ∧ t.firn.recA = .empty ∧ t.firn.recB = .empty ∧ t.pair.psOut = .dying))
  ∧ (∀ s : State, bit s.pwc.clkOk 3 = false → exec (.clockFaultEnd 3) s
      = .next { s with pwc := { s.pwc with clkOk := maskSet s.pwc.clkOk 3 true } })
  ∧ (∀ s : State, bit s.pwc.clkOk 2 = false → s.ptp.st = .freerun → exec (.clockFaultEnd 2) s
      = .next { s with pwc := { s.pwc with clkOk := maskSet s.pwc.clkOk 2 true }, ptp := { s.ptp with substitute := false } })
  ∧ (∀ (s : State) (v : BitVec 16), ∃ t, exec (.thermalWarning v) s = .next t ∧ t.pwc = { s.pwc with tj := v.toNat }
      ∧ bit (getPage t 0x130).cond 2 = decide (1760 ≤ v.toInt) ∧ t = { s with pwc := t.pwc, pages := t.pages, msix := t.msix }))
  ∧ ((∀ (s : State) (by_ : Party) (g : BitVec 4) (i : BitVec 10), writeCause s by_ 4 0x130024 (pwcWord 1 g.toNat i.toNat) = 0 →
      offRefusal s g.toNat i.toNat ≠ 0 →
    ∃ t, exec (.off by_ g i) s = .next t ∧ t.pwc = { s.pwc with
          busy := false, status := offRefusal s g.toNat i.toNat, op := 1, group := g.toNat, index := i.toNat }
      ∧ bit (getPage t 0x130).stat 0 = true ∧ t.bobbins = s.bobbins ∧ t.mem = s.mem)
  ∧ (∀ (s : State) (by_ : Party) (n : Fin 4), writeCause s by_ 4 0x130024 (pwcWord 1 4 n) = 0 → offRefusal s 4 n = 0 → bit s.pwc.port n = true →
      (getPort s n).up = false →
    ∃ t, exec (.off by_ 4#4 (BitVec.ofNat 10 n)) s = .next t ∧ bit t.pwc.port n = false ∧ t.pwc.busy = true ∧ t.pwc.op = 1
      ∧ getReg t 0x13102C = satInc (getReg s 0x13102C) ∧ t.mem = s.mem)
  ∧ (∀ (s : State) (by_ : Party) (n : Fin 4), writeCause s by_ 4 0x130024 (pwcWord 2 4 n) = 0 → s.pwc.lpHold = false → bit s.pwc.port n = false →
    ∃ t, exec (.on by_ 4#4 (BitVec.ofNat 10 n)) s = .next t ∧ bit t.pwc.port n = true ∧ t.pwc.busy = true ∧ t.pwc.op = 2
      ∧ (∀ o, o < 0x1000 → getReg t (regAddr (0x10 + n) o) = regRst (regAddr (0x10 + n) o)) ∧ t.mem = s.mem)
  ∧ (∀ (s : State) (came : Bool), s.pwc.busy = true → s.pwc.op = 2 →
    (came = true → exec (.pwcRequestDone came) s = .next (setEvt { s with pwc := { s.pwc with busy := false, status := 0 } } 0x130 0))
      ∧ (came = false → s.pwc.group = 4 → bit s.pwc.port s.pwc.index = false → exec (.pwcRequestDone came) s
        = .next (setEvt { s with pwc := { s.pwc with busy := false, status := 5 } } 0x130 0)))
  ∧ (∀ (s : State) (by_ : Party), writeCause s by_ 4 0x130024 (pwcWord 3 0 0) = 0 →
    (lpEnterRefusal s = 0 → ∃ t, exec (.lpholdEnter by_) s = .next t ∧ t.pwc.lpHold = true ∧ t.pwc.saved = onNow s ∧ t.pwc.busy = true
        ∧ bit (getPage t 0x130).stat 3 = true ∧ t.captures = [])
      ∧ (lpEnterRefusal s = 4 → ∃ t, exec (.lpholdEnter by_) s = .next t ∧ t.pwc.lpHold = s.pwc.lpHold ∧ t.pwc.busy = false ∧ t.pwc.status = 4
        ∧ t.mem = s.mem))
  ∧ (∀ (s : State) (by_ : Party), writeCause s by_ 4 0x130024 (pwcWord 4 0 0) = 0 →
    (s.pwc.lpHold = false → ∃ t, exec (.lpholdExit by_) s = .next t ∧ t.pwc.busy = false ∧ t.pwc.status = 4 ∧ t.mem = s.mem)
      ∧ (s.pwc.lpHold = true → ∃ t, exec (.lpholdExit by_) s = .next t
        ∧ t.pwc.lpHold = false ∧ t.pwc.saved = [] ∧ t.pwc.dram = 3 ∧ t.pwc.busy = true ∧ bit (getPage t 0x130).stat 3 = true
        ∧ (s.pwc.saved = [0, 0, 0, 0, 0, 0, 0] → s.rng.st = .fatal → t.mem = s.mem))))

/-- The station side (R20, R457 to R464): a frame makes its inputs current, sends time, outputs and health, and carries the oldest waiting event into
the FIFO, or counts it where the FIFO is full; an open ceremony ends where its input is not energised; a debounced input is held on the station side,
and its event with its time waits for a frame while the link carries frames, in ascending input order within one microsecond; the loss of the link
ends what depends on it; an overloaded output latches open until it is commanded open; STN_EVPOP takes the oldest event; and the health time-out is
held. Clauses of it rest on choices of the model: log entry 112. -/
def Obligations.StationSide : Prop :=
  (∀ (s : State) (f : StnFrame), s.pwc.stn = true → s.boot.inReset = false → bit s.stn.stSi 1 = true ∨ s.tamper.cer = .idle →
    ∃ t, exec (.stationLinkFrame f) s = .next t ∧ t.stn.linkOk = true ∧ t.stn.si = s.stn.stSi ∧ t.stn.raw = f.raw.toNat
      ∧ t.stn.sentUs = ptpNow s / 1000 % 2 ^ 32 ∧ t.stn.health = (!s.boot.ccDead && s.boot.phase == .service)
      ∧ t.stn.sentOut = bnat (cryptoOk t) + 2 * bnat (blockClosed t) + 4 * bnat (so2Closed t) + 8 * bnat (so3Closed t)
      ∧ (ptpNow s / 1000000 ≠ s.stn.secMs → t.stn.secWhole = s.stn.secNow ∧ t.stn.secNow = s.ptp.sec)
      ∧ (s.stn.waiting = [] → t.stn.events = s.stn.events ∧ t = { s with stn := t.stn })
      ∧ (∀ us e rest, s.stn.waiting = (us, e) :: rest → t.stn.waiting = rest
          ∧ (s.stn.events.length < 64 → t.stn.events = s.stn.events ++ [e] ∧ bit (getPage t 0x110).stat 0 = true)
          ∧ (64 ≤ s.stn.events.length → t.stn.events = s.stn.events ∧ bit (getPage t 0x110).stat 1 = true
              ∧ getReg t 0x110040 = satInc (getReg s 0x110040)))
      ∧ t.tamper = s.tamper ∧ t.mem = s.mem)
  ∧ (∀ (s : State) (f : StnFrame), s.pwc.stn = true → s.boot.inReset = false → bit s.stn.stSi 1 = false → s.tamper.cer ≠ .idle → s.tamper.cer ≠ .exec →
      s.tamper.cerSlot = none →
    ∃ t, exec (.stationLinkFrame f) s = .next t ∧ t.tamper.cer = .idle ∧ t.tamper.cerBlock = [] ∧ t.stn.si = s.stn.stSi ∧ t.mem = s.mem)
  ∧ (∀ (s : State) (n : Fin 8) (level : Bool) (time : Nat), s.pwc.stn = true → bit s.stn.stSi n ≠ level →
    ∃ w, exec (.siChange n level time) s = .next { s with stn := { s.stn with stSi := maskSet s.stn.stSi n level, waiting := w } }
      ∧ (s.stn.linkOk = false → w = s.stn.waiting)
      ∧ (s.stn.linkOk = true → ∃ u v, s.stn.waiting = u ++ v
          ∧ w = u ++ [(s.boot.now / 1000, ⟨level, n, time / 1000 * 1000 % 2 ^ 64⟩)] ++ v
          ∧ (∀ e ∈ u, e.1 = s.boot.now / 1000 → e.2.input ≤ n.val) ∧ (∀ e, v.head? = some e → e.1 = s.boot.now / 1000 ∧ n.val < e.2.input)))
  ∧ (∀ s : State, s.stn.linkOk = true → s.tamper.cerSlot = none → s.tamper.cer ≠ .exec →
    ∃ t, exec .stationLinkLoss s = .next t ∧ t.stn = { s.stn with linkOk := false, health := false, waiting := [] }
      ∧ bit (getPage t 0x110).stat 3 = true ∧ t.tamper.cer = .idle ∧ t.mem = s.mem)
  ∧ (∀ (s : State) (n : Fin 4), s.pwc.stn = true → s.boot.inReset = false →
    exec (.soOverload n) s = .next (setEvt { s with stn := { s.stn with ovld := maskSet s.stn.ovld n true } } 0x110 2))
  ∧ (∀ (s : State) (by_ : Party) (v : Word), writeCause s by_ 4 0x11002C v = 0 →
    ∃ t, exec (.stnOutWrite by_ v) s = .next t ∧ t.stn.so2 = (fld v 2 2 == 1) ∧ t.stn.so3 = (fld v 3 3 == 1)
      ∧ (fld v 2 2 = 1 → fld v 3 3 = 1 → t.stn.ovld = s.stn.ovld)
      ∧ (fld v 2 2 = 0 → fld v 3 3 = 1 → t.stn.ovld = maskSet s.stn.ovld 2 false)
      ∧ (fld v 2 2 = 1 → fld v 3 3 = 0 → t.stn.ovld = maskSet s.stn.ovld 3 false)
      ∧ (fld v 2 2 = 0 → fld v 3 3 = 0 → t.stn.ovld = maskSet (maskSet s.stn.ovld 2 false) 3 false) ∧ t = { s with stn := t.stn, pages := t.pages })
  ∧ (∀ (s : State) (by_ : Party) (v : Word), writeCause s by_ 4 0x11003C v = 0 →
    ∃ t, exec (.stnEvpop by_ v) s = .next t ∧ t.stn = { s.stn with events := s.stn.events.drop 1 } ∧ t = { s with stn := t.stn, pages := t.pages })
  ∧ (∀ s : State, exec .cryptoOkHealthTimeout s = .next { s with stn := { s.stn with health := false } })
end

