-- ==== Sys2Proof/Laws/Sparse.lean ====
section
/-! SUPPORT. Laws/Sparse.lean: reading after writing a numbered family, and the canonical form of the families. -/
namespace Sys2Proof.Machine

variable {α : Type} (d : Nat → α)

theorem smapGet_filter_ne (m : SMap α) {j k : Nat} (h : j ≠ k) :
    smapGet d (m.filter (fun e => e.1 != k)) j = smapGet d m j := by
  induction m with
  | nil => rfl
  | cons e m ih =>
    obtain ⟨i, v⟩ := e
    by_cases hi : i = k
    · subst hi; simp [smapGet, ih, Ne.symm h]
    · simp [smapGet, ih, hi]

theorem smapGet_filter_self (m : SMap α) (k : Nat) : smapGet d (m.filter (fun e => e.1 != k)) k = d k := by
  induction m with
  | nil => rfl
  | cons e m ih =>
    obtain ⟨i, v⟩ := e
    by_cases hi : i = k
    · subst hi; simpa using ih
    · simp [smapGet, ih, hi]

theorem smapGet_ins_ne (m : SMap α) {j k : Nat} (v : α) (h : j ≠ k) : smapGet d (smapIns m k v) j = smapGet d m j := by
  induction m with
  | nil => simp [smapIns, smapGet, Ne.symm h]
  | cons e m ih =>
    obtain ⟨i, u⟩ := e
    simp only [smapIns]
    split
    · simp [smapGet, Ne.symm h]
    · simp [smapGet, ih]

theorem smapGet_ins_self (m : SMap α) {k : Nat} (v : α) (h : ∀ e ∈ m, e.1 ≠ k) : smapGet d (smapIns m k v) k = v := by
  induction m with
  | nil => simp [smapIns, smapGet]
  | cons e m ih =>
    obtain ⟨i, u⟩ := e
    simp only [smapIns]
    split
    · simp [smapGet]
    · simp [smapGet, h (i, u) (by simp), ih (fun e he => h e (by simp [he]))]

variable [DecidableEq α]

/-- A number just written reads as the value written. -/
@[simp] theorem smapGet_set_self (m : SMap α) (k : Nat) (v : α) : smapGet d (smapSet d m k v) k = v := by
  simp only [smapSet]
  split
  · next h => rw [smapGet_filter_self, h]
  · exact smapGet_ins_self d _ v (by simp)

/-- Every other number reads as before. -/
theorem smapGet_set_ne (m : SMap α) {j k : Nat} (v : α) (h : j ≠ k) : smapGet d (smapSet d m k v) j = smapGet d m j := by
  simp only [smapSet]
  split
  · exact smapGet_filter_ne d m h
  · rw [smapGet_ins_ne d _ v h, smapGet_filter_ne d m h]

theorem smapGet_set (m : SMap α) (j k : Nat) (v : α) :
    smapGet d (smapSet d m k v) j = if j = k then v else smapGet d m j := by
  split
  · next h => subst h; simp
  · next h => exact smapGet_set_ne d m v h

theorem smapWfFrom_mono {lo lo' : Nat} (m : SMap α) (h : lo' ≤ lo) (w : smapWfFrom d lo m = true) : smapWfFrom d lo' m = true := by
  cases m with
  | nil => rfl
  | cons e m =>
    simp only [smapWfFrom, Bool.and_eq_true, decide_eq_true_eq] at *
    exact ⟨⟨by omega, w.1.2⟩, w.2⟩

theorem smapWfFrom_filter {lo : Nat} (m : SMap α) (p : Nat × α → Bool) (w : smapWfFrom d lo m = true) :
    smapWfFrom d lo (m.filter p) = true := by
  induction m generalizing lo with
  | nil => rfl
  | cons e m ih =>
    obtain ⟨i, v⟩ := e
    simp only [smapWfFrom, Bool.and_eq_true, decide_eq_true_eq] at w
    by_cases hp : p (i, v)
    · simp [hp, smapWfFrom, w.1.1, ih w.2]; simpa using w.1.2
    · simp only [List.filter_cons, hp]
      exact smapWfFrom_mono d _ (by omega) (ih w.2)

theorem smapWfFrom_ins {lo k : Nat} (m : SMap α) (v : α) (hl : lo ≤ k) (hv : v ≠ d k) (hk : ∀ e ∈ m, e.1 ≠ k)
    (w : smapWfFrom d lo m = true) : smapWfFrom d lo (smapIns m k v) = true := by
  induction m generalizing lo with
  | nil => simp [smapIns, smapWfFrom, hl, hv]
  | cons e m ih =>
    obtain ⟨i, u⟩ := e
    simp only [smapWfFrom, Bool.and_eq_true, decide_eq_true_eq] at w
    have hik : i ≠ k := hk (i, u) (by simp)
    simp only [smapIns]
    split
    · next h => simp [smapWfFrom, hl, hv, w.2]; exact ⟨by omega, by simpa using w.1.2⟩
    · next h =>
      simp only [smapWfFrom, Bool.and_eq_true, decide_eq_true_eq]
      exact ⟨w.1, ih (by omega) (fun e he => hk e (by simp [he])) w.2⟩

/-- A write keeps the canonical form. -/
theorem smapWf_set (m : SMap α) (k : Nat) (v : α) (w : smapWf d m = true) : smapWf d (smapSet d m k v) = true := by
  simp only [smapSet, smapWf]
  have w' := smapWfFrom_filter d m (fun e => e.1 != k) w
  split
  · exact w'
  · next h => exact smapWfFrom_ins d _ v (Nat.zero_le _) h (by simp) w'

theorem smapWf_mod (m : SMap α) (k : Nat) (f : α → α) (w : smapWf d m = true) : smapWf d (smapMod d m k f) = true :=
  smapWf_set d m k _ w

theorem smapWf_keep (m : SMap α) (p : Nat → α → Bool) (w : smapWf d m = true) : smapWf d (smapKeep p m) = true :=
  smapWfFrom_filter d m _ w

@[simp] theorem smapGet_mod_self (m : SMap α) (k : Nat) (f : α → α) : smapGet d (smapMod d m k f) k = f (smapGet d m k) := by
  simp [smapMod]

theorem smapGet_mod_ne (m : SMap α) {j k : Nat} (f : α → α) (h : j ≠ k) : smapGet d (smapMod d m k f) j = smapGet d m j :=
  smapGet_set_ne d m _ h

end Sys2Proof.Machine
end

