-- ==== Sys2Proof/Laws/State.lean ====
section
/-! SUPPORT. Laws/State.lean: what each update of the state leaves, field by field, and reading after writing. -/
namespace Sys2Proof.Machine

variable (s : State)

/-! ### setReg changes regs alone -/

@[simp] theorem setReg_pages (a : Nat) (v : Word) : (setReg s a v).pages = s.pages := rfl
@[simp] theorem setReg_msix (a : Nat) (v : Word) : (setReg s a v).msix = s.msix := rfl
@[simp] theorem setReg_mem (a : Nat) (v : Word) : (setReg s a v).mem = s.mem := rfl
@[simp] theorem setReg_boot (a : Nat) (v : Word) : (setReg s a v).boot = s.boot := rfl
@[simp] theorem setReg_lc (a : Nat) (v : Word) : (setReg s a v).lc = s.lc := rfl
@[simp] theorem setReg_pwc (a : Nat) (v : Word) : (setReg s a v).pwc = s.pwc := rfl
@[simp] theorem setReg_tamper (a : Nat) (v : Word) : (setReg s a v).tamper = s.tamper := rfl
@[simp] theorem setReg_rng (a : Nat) (v : Word) : (setReg s a v).rng = s.rng := rfl
@[simp] theorem setReg_stn (a : Nat) (v : Word) : (setReg s a v).stn = s.stn := rfl
@[simp] theorem setReg_mor (a : Nat) (v : Word) : (setReg s a v).mor = s.mor := rfl
@[simp] theorem setReg_ports (a : Nat) (v : Word) : (setReg s a v).ports = s.ports := rfl
@[simp] theorem setReg_pairNet (a : Nat) (v : Word) : (setReg s a v).pairNet = s.pairNet := rfl
@[simp] theorem setReg_cls (a : Nat) (v : Word) : (setReg s a v).cls = s.cls := rfl
@[simp] theorem setReg_ptp (a : Nat) (v : Word) : (setReg s a v).ptp = s.ptp := rfl
@[simp] theorem setReg_lanes (a : Nat) (v : Word) : (setReg s a v).lanes = s.lanes := rfl
@[simp] theorem setReg_firn (a : Nat) (v : Word) : (setReg s a v).firn = s.firn := rfl
@[simp] theorem setReg_ltu (a : Nat) (v : Word) : (setReg s a v).ltu = s.ltu := rfl
@[simp] theorem setReg_liu (a : Nat) (v : Word) : (setReg s a v).liu = s.liu := rfl
@[simp] theorem setReg_ctxs (a : Nat) (v : Word) : (setReg s a v).ctxs = s.ctxs := rfl
@[simp] theorem setReg_groups (a : Nat) (v : Word) : (setReg s a v).groups = s.groups := rfl
@[simp] theorem setReg_pillows (a : Nat) (v : Word) : (setReg s a v).pillows = s.pillows := rfl
@[simp] theorem setReg_bobbins (a : Nat) (v : Word) : (setReg s a v).bobbins = s.bobbins := rfl
@[simp] theorem setReg_images (a : Nat) (v : Word) : (setReg s a v).images = s.images := rfl
@[simp] theorem setReg_slices (a : Nat) (v : Word) : (setReg s a v).slices = s.slices := rfl
@[simp] theorem setReg_hostIf (a : Nat) (v : Word) : (setReg s a v).hostIf = s.hostIf := rfl
@[simp] theorem setReg_fwl (a : Nat) (v : Word) : (setReg s a v).fwl = s.fwl := rfl
@[simp] theorem setReg_pool (a : Nat) (v : Word) : (setReg s a v).pool = s.pool := rfl
@[simp] theorem setReg_pair (a : Nat) (v : Word) : (setReg s a v).pair = s.pair := rfl
@[simp] theorem setReg_captures (a : Nat) (v : Word) : (setReg s a v).captures = s.captures := rfl
@[simp] theorem setReg_journal (a : Nat) (v : Word) : (setReg s a v).journal = s.journal := rfl
@[simp] theorem setReg_durable (a : Nat) (v : Word) : (setReg s a v).durable = s.durable := rfl
@[simp] theorem setReg_freeCtr (a : Nat) (v : Word) : (setReg s a v).freeCtr = s.freeCtr := rfl
@[simp] theorem setReg_pending (a : Nat) (v : Word) : (setReg s a v).pending = s.pending := rfl

/-! ### incReg changes regs alone -/

@[simp] theorem incReg_pages (a : Nat) : (incReg s a).pages = s.pages := rfl
@[simp] theorem incReg_msix (a : Nat) : (incReg s a).msix = s.msix := rfl
@[simp] theorem incReg_mem (a : Nat) : (incReg s a).mem = s.mem := rfl
@[simp] theorem incReg_boot (a : Nat) : (incReg s a).boot = s.boot := rfl
@[simp] theorem incReg_lc (a : Nat) : (incReg s a).lc = s.lc := rfl
@[simp] theorem incReg_pwc (a : Nat) : (incReg s a).pwc = s.pwc := rfl
@[simp] theorem incReg_tamper (a : Nat) : (incReg s a).tamper = s.tamper := rfl
@[simp] theorem incReg_rng (a : Nat) : (incReg s a).rng = s.rng := rfl
@[simp] theorem incReg_stn (a : Nat) : (incReg s a).stn = s.stn := rfl
@[simp] theorem incReg_mor (a : Nat) : (incReg s a).mor = s.mor := rfl
@[simp] theorem incReg_ports (a : Nat) : (incReg s a).ports = s.ports := rfl
@[simp] theorem incReg_pairNet (a : Nat) : (incReg s a).pairNet = s.pairNet := rfl
@[simp] theorem incReg_cls (a : Nat) : (incReg s a).cls = s.cls := rfl
@[simp] theorem incReg_ptp (a : Nat) : (incReg s a).ptp = s.ptp := rfl
@[simp] theorem incReg_lanes (a : Nat) : (incReg s a).lanes = s.lanes := rfl
@[simp] theorem incReg_firn (a : Nat) : (incReg s a).firn = s.firn := rfl
@[simp] theorem incReg_ltu (a : Nat) : (incReg s a).ltu = s.ltu := rfl
@[simp] theorem incReg_liu (a : Nat) : (incReg s a).liu = s.liu := rfl
@[simp] theorem incReg_ctxs (a : Nat) : (incReg s a).ctxs = s.ctxs := rfl
@[simp] theorem incReg_groups (a : Nat) : (incReg s a).groups = s.groups := rfl
@[simp] theorem incReg_pillows (a : Nat) : (incReg s a).pillows = s.pillows := rfl
@[simp] theorem incReg_bobbins (a : Nat) : (incReg s a).bobbins = s.bobbins := rfl
@[simp] theorem incReg_images (a : Nat) : (incReg s a).images = s.images := rfl
@[simp] theorem incReg_slices (a : Nat) : (incReg s a).slices = s.slices := rfl
@[simp] theorem incReg_hostIf (a : Nat) : (incReg s a).hostIf = s.hostIf := rfl
@[simp] theorem incReg_fwl (a : Nat) : (incReg s a).fwl = s.fwl := rfl
@[simp] theorem incReg_pool (a : Nat) : (incReg s a).pool = s.pool := rfl
@[simp] theorem incReg_pair (a : Nat) : (incReg s a).pair = s.pair := rfl
@[simp] theorem incReg_captures (a : Nat) : (incReg s a).captures = s.captures := rfl
@[simp] theorem incReg_journal (a : Nat) : (incReg s a).journal = s.journal := rfl
@[simp] theorem incReg_durable (a : Nat) : (incReg s a).durable = s.durable := rfl
@[simp] theorem incReg_freeCtr (a : Nat) : (incReg s a).freeCtr = s.freeCtr := rfl
@[simp] theorem incReg_pending (a : Nat) : (incReg s a).pending = s.pending := rfl

/-! ### addReg changes regs alone -/

@[simp] theorem addReg_pages (a n : Nat) : (addReg s a n).pages = s.pages := rfl
@[simp] theorem addReg_msix (a n : Nat) : (addReg s a n).msix = s.msix := rfl
@[simp] theorem addReg_mem (a n : Nat) : (addReg s a n).mem = s.mem := rfl
@[simp] theorem addReg_boot (a n : Nat) : (addReg s a n).boot = s.boot := rfl
@[simp] theorem addReg_lc (a n : Nat) : (addReg s a n).lc = s.lc := rfl
@[simp] theorem addReg_pwc (a n : Nat) : (addReg s a n).pwc = s.pwc := rfl
@[simp] theorem addReg_tamper (a n : Nat) : (addReg s a n).tamper = s.tamper := rfl
@[simp] theorem addReg_rng (a n : Nat) : (addReg s a n).rng = s.rng := rfl
@[simp] theorem addReg_stn (a n : Nat) : (addReg s a n).stn = s.stn := rfl
@[simp] theorem addReg_mor (a n : Nat) : (addReg s a n).mor = s.mor := rfl
@[simp] theorem addReg_ports (a n : Nat) : (addReg s a n).ports = s.ports := rfl
@[simp] theorem addReg_pairNet (a n : Nat) : (addReg s a n).pairNet = s.pairNet := rfl
@[simp] theorem addReg_cls (a n : Nat) : (addReg s a n).cls = s.cls := rfl
@[simp] theorem addReg_ptp (a n : Nat) : (addReg s a n).ptp = s.ptp := rfl
@[simp] theorem addReg_lanes (a n : Nat) : (addReg s a n).lanes = s.lanes := rfl
@[simp] theorem addReg_firn (a n : Nat) : (addReg s a n).firn = s.firn := rfl
@[simp] theorem addReg_ltu (a n : Nat) : (addReg s a n).ltu = s.ltu := rfl
@[simp] theorem addReg_liu (a n : Nat) : (addReg s a n).liu = s.liu := rfl
@[simp] theorem addReg_ctxs (a n : Nat) : (addReg s a n).ctxs = s.ctxs := rfl
@[simp] theorem addReg_groups (a n : Nat) : (addReg s a n).groups = s.groups := rfl
@[simp] theorem addReg_pillows (a n : Nat) : (addReg s a n).pillows = s.pillows := rfl
@[simp] theorem addReg_bobbins (a n : Nat) : (addReg s a n).bobbins = s.bobbins := rfl
@[simp] theorem addReg_images (a n : Nat) : (addReg s a n).images = s.images := rfl
@[simp] theorem addReg_slices (a n : Nat) : (addReg s a n).slices = s.slices := rfl
@[simp] theorem addReg_hostIf (a n : Nat) : (addReg s a n).hostIf = s.hostIf := rfl
@[simp] theorem addReg_fwl (a n : Nat) : (addReg s a n).fwl = s.fwl := rfl
@[simp] theorem addReg_pool (a n : Nat) : (addReg s a n).pool = s.pool := rfl
@[simp] theorem addReg_pair (a n : Nat) : (addReg s a n).pair = s.pair := rfl
@[simp] theorem addReg_captures (a n : Nat) : (addReg s a n).captures = s.captures := rfl
@[simp] theorem addReg_journal (a n : Nat) : (addReg s a n).journal = s.journal := rfl
@[simp] theorem addReg_durable (a n : Nat) : (addReg s a n).durable = s.durable := rfl
@[simp] theorem addReg_freeCtr (a n : Nat) : (addReg s a n).freeCtr = s.freeCtr := rfl
@[simp] theorem addReg_pending (a n : Nat) : (addReg s a n).pending = s.pending := rfl

/-! ### setPage changes pages alone -/

@[simp] theorem setPage_regs (p : Nat) (g : PageSt) : (setPage s p g).regs = s.regs := rfl
@[simp] theorem setPage_msix (p : Nat) (g : PageSt) : (setPage s p g).msix = s.msix := rfl
@[simp] theorem setPage_mem (p : Nat) (g : PageSt) : (setPage s p g).mem = s.mem := rfl
@[simp] theorem setPage_boot (p : Nat) (g : PageSt) : (setPage s p g).boot = s.boot := rfl
@[simp] theorem setPage_lc (p : Nat) (g : PageSt) : (setPage s p g).lc = s.lc := rfl
@[simp] theorem setPage_pwc (p : Nat) (g : PageSt) : (setPage s p g).pwc = s.pwc := rfl
@[simp] theorem setPage_tamper (p : Nat) (g : PageSt) : (setPage s p g).tamper = s.tamper := rfl
@[simp] theorem setPage_rng (p : Nat) (g : PageSt) : (setPage s p g).rng = s.rng := rfl
@[simp] theorem setPage_stn (p : Nat) (g : PageSt) : (setPage s p g).stn = s.stn := rfl
@[simp] theorem setPage_mor (p : Nat) (g : PageSt) : (setPage s p g).mor = s.mor := rfl
@[simp] theorem setPage_ports (p : Nat) (g : PageSt) : (setPage s p g).ports = s.ports := rfl
@[simp] theorem setPage_pairNet (p : Nat) (g : PageSt) : (setPage s p g).pairNet = s.pairNet := rfl
@[simp] theorem setPage_cls (p : Nat) (g : PageSt) : (setPage s p g).cls = s.cls := rfl
@[simp] theorem setPage_ptp (p : Nat) (g : PageSt) : (setPage s p g).ptp = s.ptp := rfl
@[simp] theorem setPage_lanes (p : Nat) (g : PageSt) : (setPage s p g).lanes = s.lanes := rfl
@[simp] theorem setPage_firn (p : Nat) (g : PageSt) : (setPage s p g).firn = s.firn := rfl
@[simp] theorem setPage_ltu (p : Nat) (g : PageSt) : (setPage s p g).ltu = s.ltu := rfl
@[simp] theorem setPage_liu (p : Nat) (g : PageSt) : (setPage s p g).liu = s.liu := rfl
@[simp] theorem setPage_ctxs (p : Nat) (g : PageSt) : (setPage s p g).ctxs = s.ctxs := rfl
@[simp] theorem setPage_groups (p : Nat) (g : PageSt) : (setPage s p g).groups = s.groups := rfl
@[simp] theorem setPage_pillows (p : Nat) (g : PageSt) : (setPage s p g).pillows = s.pillows := rfl
@[simp] theorem setPage_bobbins (p : Nat) (g : PageSt) : (setPage s p g).bobbins = s.bobbins := rfl
@[simp] theorem setPage_images (p : Nat) (g : PageSt) : (setPage s p g).images = s.images := rfl
@[simp] theorem setPage_slices (p : Nat) (g : PageSt) : (setPage s p g).slices = s.slices := rfl
@[simp] theorem setPage_hostIf (p : Nat) (g : PageSt) : (setPage s p g).hostIf = s.hostIf := rfl
@[simp] theorem setPage_fwl (p : Nat) (g : PageSt) : (setPage s p g).fwl = s.fwl := rfl
@[simp] theorem setPage_pool (p : Nat) (g : PageSt) : (setPage s p g).pool = s.pool := rfl
@[simp] theorem setPage_pair (p : Nat) (g : PageSt) : (setPage s p g).pair = s.pair := rfl
@[simp] theorem setPage_captures (p : Nat) (g : PageSt) : (setPage s p g).captures = s.captures := rfl
@[simp] theorem setPage_journal (p : Nat) (g : PageSt) : (setPage s p g).journal = s.journal := rfl
@[simp] theorem setPage_durable (p : Nat) (g : PageSt) : (setPage s p g).durable = s.durable := rfl
@[simp] theorem setPage_freeCtr (p : Nat) (g : PageSt) : (setPage s p g).freeCtr = s.freeCtr := rfl
@[simp] theorem setPage_pending (p : Nat) (g : PageSt) : (setPage s p g).pending = s.pending := rfl

/-! ### modPage changes pages alone -/

@[simp] theorem modPage_regs (p : Nat) (f : PageSt → PageSt) : (modPage s p f).regs = s.regs := rfl
@[simp] theorem modPage_msix (p : Nat) (f : PageSt → PageSt) : (modPage s p f).msix = s.msix := rfl
@[simp] theorem modPage_mem (p : Nat) (f : PageSt → PageSt) : (modPage s p f).mem = s.mem := rfl
@[simp] theorem modPage_boot (p : Nat) (f : PageSt → PageSt) : (modPage s p f).boot = s.boot := rfl
@[simp] theorem modPage_lc (p : Nat) (f : PageSt → PageSt) : (modPage s p f).lc = s.lc := rfl
@[simp] theorem modPage_pwc (p : Nat) (f : PageSt → PageSt) : (modPage s p f).pwc = s.pwc := rfl
@[simp] theorem modPage_tamper (p : Nat) (f : PageSt → PageSt) : (modPage s p f).tamper = s.tamper := rfl
@[simp] theorem modPage_rng (p : Nat) (f : PageSt → PageSt) : (modPage s p f).rng = s.rng := rfl
@[simp] theorem modPage_stn (p : Nat) (f : PageSt → PageSt) : (modPage s p f).stn = s.stn := rfl
@[simp] theorem modPage_mor (p : Nat) (f : PageSt → PageSt) : (modPage s p f).mor = s.mor := rfl
@[simp] theorem modPage_ports (p : Nat) (f : PageSt → PageSt) : (modPage s p f).ports = s.ports := rfl
@[simp] theorem modPage_pairNet (p : Nat) (f : PageSt → PageSt) : (modPage s p f).pairNet = s.pairNet := rfl
@[simp] theorem modPage_cls (p : Nat) (f : PageSt → PageSt) : (modPage s p f).cls = s.cls := rfl
@[simp] theorem modPage_ptp (p : Nat) (f : PageSt → PageSt) : (modPage s p f).ptp = s.ptp := rfl
@[simp] theorem modPage_lanes (p : Nat) (f : PageSt → PageSt) : (modPage s p f).lanes = s.lanes := rfl
@[simp] theorem modPage_firn (p : Nat) (f : PageSt → PageSt) : (modPage s p f).firn = s.firn := rfl
@[simp] theorem modPage_ltu (p : Nat) (f : PageSt → PageSt) : (modPage s p f).ltu = s.ltu := rfl
@[simp] theorem modPage_liu (p : Nat) (f : PageSt → PageSt) : (modPage s p f).liu = s.liu := rfl
@[simp] theorem modPage_ctxs (p : Nat) (f : PageSt → PageSt) : (modPage s p f).ctxs = s.ctxs := rfl
@[simp] theorem modPage_groups (p : Nat) (f : PageSt → PageSt) : (modPage s p f).groups = s.groups := rfl
@[simp] theorem modPage_pillows (p : Nat) (f : PageSt → PageSt) : (modPage s p f).pillows = s.pillows := rfl
@[simp] theorem modPage_bobbins (p : Nat) (f : PageSt → PageSt) : (modPage s p f).bobbins = s.bobbins := rfl
@[simp] theorem modPage_images (p : Nat) (f : PageSt → PageSt) : (modPage s p f).images = s.images := rfl
@[simp] theorem modPage_slices (p : Nat) (f : PageSt → PageSt) : (modPage s p f).slices = s.slices := rfl
@[simp] theorem modPage_hostIf (p : Nat) (f : PageSt → PageSt) : (modPage s p f).hostIf = s.hostIf := rfl
@[simp] theorem modPage_fwl (p : Nat) (f : PageSt → PageSt) : (modPage s p f).fwl = s.fwl := rfl
@[simp] theorem modPage_pool (p : Nat) (f : PageSt → PageSt) : (modPage s p f).pool = s.pool := rfl
@[simp] theorem modPage_pair (p : Nat) (f : PageSt → PageSt) : (modPage s p f).pair = s.pair := rfl
@[simp] theorem modPage_captures (p : Nat) (f : PageSt → PageSt) : (modPage s p f).captures = s.captures := rfl
@[simp] theorem modPage_journal (p : Nat) (f : PageSt → PageSt) : (modPage s p f).journal = s.journal := rfl
@[simp] theorem modPage_durable (p : Nat) (f : PageSt → PageSt) : (modPage s p f).durable = s.durable := rfl
@[simp] theorem modPage_freeCtr (p : Nat) (f : PageSt → PageSt) : (modPage s p f).freeCtr = s.freeCtr := rfl
@[simp] theorem modPage_pending (p : Nat) (f : PageSt → PageSt) : (modPage s p f).pending = s.pending := rfl

/-! ### sendMsix changes msix alone -/

@[simp] theorem sendMsix_pages (v : Nat) : (sendMsix s v).pages = s.pages := rfl
@[simp] theorem sendMsix_regs (v : Nat) : (sendMsix s v).regs = s.regs := rfl
@[simp] theorem sendMsix_mem (v : Nat) : (sendMsix s v).mem = s.mem := rfl
@[simp] theorem sendMsix_boot (v : Nat) : (sendMsix s v).boot = s.boot := rfl
@[simp] theorem sendMsix_lc (v : Nat) : (sendMsix s v).lc = s.lc := rfl
@[simp] theorem sendMsix_pwc (v : Nat) : (sendMsix s v).pwc = s.pwc := rfl
@[simp] theorem sendMsix_tamper (v : Nat) : (sendMsix s v).tamper = s.tamper := rfl
@[simp] theorem sendMsix_rng (v : Nat) : (sendMsix s v).rng = s.rng := rfl
@[simp] theorem sendMsix_stn (v : Nat) : (sendMsix s v).stn = s.stn := rfl
@[simp] theorem sendMsix_mor (v : Nat) : (sendMsix s v).mor = s.mor := rfl
@[simp] theorem sendMsix_ports (v : Nat) : (sendMsix s v).ports = s.ports := rfl
@[simp] theorem sendMsix_pairNet (v : Nat) : (sendMsix s v).pairNet = s.pairNet := rfl
@[simp] theorem sendMsix_cls (v : Nat) : (sendMsix s v).cls = s.cls := rfl
@[simp] theorem sendMsix_ptp (v : Nat) : (sendMsix s v).ptp = s.ptp := rfl
@[simp] theorem sendMsix_lanes (v : Nat) : (sendMsix s v).lanes = s.lanes := rfl
@[simp] theorem sendMsix_firn (v : Nat) : (sendMsix s v).firn = s.firn := rfl
@[simp] theorem sendMsix_ltu (v : Nat) : (sendMsix s v).ltu = s.ltu := rfl
@[simp] theorem sendMsix_liu (v : Nat) : (sendMsix s v).liu = s.liu := rfl
@[simp] theorem sendMsix_ctxs (v : Nat) : (sendMsix s v).ctxs = s.ctxs := rfl
@[simp] theorem sendMsix_groups (v : Nat) : (sendMsix s v).groups = s.groups := rfl
@[simp] theorem sendMsix_pillows (v : Nat) : (sendMsix s v).pillows = s.pillows := rfl
@[simp] theorem sendMsix_bobbins (v : Nat) : (sendMsix s v).bobbins = s.bobbins := rfl
@[simp] theorem sendMsix_images (v : Nat) : (sendMsix s v).images = s.images := rfl
@[simp] theorem sendMsix_slices (v : Nat) : (sendMsix s v).slices = s.slices := rfl
@[simp] theorem sendMsix_hostIf (v : Nat) : (sendMsix s v).hostIf = s.hostIf := rfl
@[simp] theorem sendMsix_fwl (v : Nat) : (sendMsix s v).fwl = s.fwl := rfl
@[simp] theorem sendMsix_pool (v : Nat) : (sendMsix s v).pool = s.pool := rfl
@[simp] theorem sendMsix_pair (v : Nat) : (sendMsix s v).pair = s.pair := rfl
@[simp] theorem sendMsix_captures (v : Nat) : (sendMsix s v).captures = s.captures := rfl
@[simp] theorem sendMsix_journal (v : Nat) : (sendMsix s v).journal = s.journal := rfl
@[simp] theorem sendMsix_durable (v : Nat) : (sendMsix s v).durable = s.durable := rfl
@[simp] theorem sendMsix_freeCtr (v : Nat) : (sendMsix s v).freeCtr = s.freeCtr := rfl
@[simp] theorem sendMsix_pending (v : Nat) : (sendMsix s v).pending = s.pending := rfl

/-! ### writeByte changes mem alone -/

@[simp] theorem writeByte_pages (a : Nat) (b : Byte) : (writeByte s a b).pages = s.pages := rfl
@[simp] theorem writeByte_regs (a : Nat) (b : Byte) : (writeByte s a b).regs = s.regs := rfl
@[simp] theorem writeByte_msix (a : Nat) (b : Byte) : (writeByte s a b).msix = s.msix := rfl
@[simp] theorem writeByte_boot (a : Nat) (b : Byte) : (writeByte s a b).boot = s.boot := rfl
@[simp] theorem writeByte_lc (a : Nat) (b : Byte) : (writeByte s a b).lc = s.lc := rfl
@[simp] theorem writeByte_pwc (a : Nat) (b : Byte) : (writeByte s a b).pwc = s.pwc := rfl
@[simp] theorem writeByte_tamper (a : Nat) (b : Byte) : (writeByte s a b).tamper = s.tamper := rfl
@[simp] theorem writeByte_rng (a : Nat) (b : Byte) : (writeByte s a b).rng = s.rng := rfl
@[simp] theorem writeByte_stn (a : Nat) (b : Byte) : (writeByte s a b).stn = s.stn := rfl
@[simp] theorem writeByte_mor (a : Nat) (b : Byte) : (writeByte s a b).mor = s.mor := rfl
@[simp] theorem writeByte_ports (a : Nat) (b : Byte) : (writeByte s a b).ports = s.ports := rfl
@[simp] theorem writeByte_pairNet (a : Nat) (b : Byte) : (writeByte s a b).pairNet = s.pairNet := rfl
@[simp] theorem writeByte_cls (a : Nat) (b : Byte) : (writeByte s a b).cls = s.cls := rfl
@[simp] theorem writeByte_ptp (a : Nat) (b : Byte) : (writeByte s a b).ptp = s.ptp := rfl
@[simp] theorem writeByte_lanes (a : Nat) (b : Byte) : (writeByte s a b).lanes = s.lanes := rfl
@[simp] theorem writeByte_firn (a : Nat) (b : Byte) : (writeByte s a b).firn = s.firn := rfl
@[simp] theorem writeByte_ltu (a : Nat) (b : Byte) : (writeByte s a b).ltu = s.ltu := rfl
@[simp] theorem writeByte_liu (a : Nat) (b : Byte) : (writeByte s a b).liu = s.liu := rfl
@[simp] theorem writeByte_ctxs (a : Nat) (b : Byte) : (writeByte s a b).ctxs = s.ctxs := rfl
@[simp] theorem writeByte_groups (a : Nat) (b : Byte) : (writeByte s a b).groups = s.groups := rfl
@[simp] theorem writeByte_pillows (a : Nat) (b : Byte) : (writeByte s a b).pillows = s.pillows := rfl
@[simp] theorem writeByte_bobbins (a : Nat) (b : Byte) : (writeByte s a b).bobbins = s.bobbins := rfl
@[simp] theorem writeByte_images (a : Nat) (b : Byte) : (writeByte s a b).images = s.images := rfl
@[simp] theorem writeByte_slices (a : Nat) (b : Byte) : (writeByte s a b).slices = s.slices := rfl
@[simp] theorem writeByte_hostIf (a : Nat) (b : Byte) : (writeByte s a b).hostIf = s.hostIf := rfl
@[simp] theorem writeByte_fwl (a : Nat) (b : Byte) : (writeByte s a b).fwl = s.fwl := rfl
@[simp] theorem writeByte_pool (a : Nat) (b : Byte) : (writeByte s a b).pool = s.pool := rfl
@[simp] theorem writeByte_pair (a : Nat) (b : Byte) : (writeByte s a b).pair = s.pair := rfl
@[simp] theorem writeByte_captures (a : Nat) (b : Byte) : (writeByte s a b).captures = s.captures := rfl
@[simp] theorem writeByte_journal (a : Nat) (b : Byte) : (writeByte s a b).journal = s.journal := rfl
@[simp] theorem writeByte_durable (a : Nat) (b : Byte) : (writeByte s a b).durable = s.durable := rfl
@[simp] theorem writeByte_freeCtr (a : Nat) (b : Byte) : (writeByte s a b).freeCtr = s.freeCtr := rfl
@[simp] theorem writeByte_pending (a : Nat) (b : Byte) : (writeByte s a b).pending = s.pending := rfl

/-! ### setCtx changes ctxs alone -/

@[simp] theorem setCtx_pages (i : Nat) (c : Option Ctx) : (setCtx s i c).pages = s.pages := rfl
@[simp] theorem setCtx_regs (i : Nat) (c : Option Ctx) : (setCtx s i c).regs = s.regs := rfl
@[simp] theorem setCtx_msix (i : Nat) (c : Option Ctx) : (setCtx s i c).msix = s.msix := rfl
@[simp] theorem setCtx_mem (i : Nat) (c : Option Ctx) : (setCtx s i c).mem = s.mem := rfl
@[simp] theorem setCtx_boot (i : Nat) (c : Option Ctx) : (setCtx s i c).boot = s.boot := rfl
@[simp] theorem setCtx_lc (i : Nat) (c : Option Ctx) : (setCtx s i c).lc = s.lc := rfl
@[simp] theorem setCtx_pwc (i : Nat) (c : Option Ctx) : (setCtx s i c).pwc = s.pwc := rfl
@[simp] theorem setCtx_tamper (i : Nat) (c : Option Ctx) : (setCtx s i c).tamper = s.tamper := rfl
@[simp] theorem setCtx_rng (i : Nat) (c : Option Ctx) : (setCtx s i c).rng = s.rng := rfl
@[simp] theorem setCtx_stn (i : Nat) (c : Option Ctx) : (setCtx s i c).stn = s.stn := rfl
@[simp] theorem setCtx_mor (i : Nat) (c : Option Ctx) : (setCtx s i c).mor = s.mor := rfl
@[simp] theorem setCtx_ports (i : Nat) (c : Option Ctx) : (setCtx s i c).ports = s.ports := rfl
@[simp] theorem setCtx_pairNet (i : Nat) (c : Option Ctx) : (setCtx s i c).pairNet = s.pairNet := rfl
@[simp] theorem setCtx_cls (i : Nat) (c : Option Ctx) : (setCtx s i c).cls = s.cls := rfl
@[simp] theorem setCtx_ptp (i : Nat) (c : Option Ctx) : (setCtx s i c).ptp = s.ptp := rfl
@[simp] theorem setCtx_lanes (i : Nat) (c : Option Ctx) : (setCtx s i c).lanes = s.lanes := rfl
@[simp] theorem setCtx_firn (i : Nat) (c : Option Ctx) : (setCtx s i c).firn = s.firn := rfl
@[simp] theorem setCtx_ltu (i : Nat) (c : Option Ctx) : (setCtx s i c).ltu = s.ltu := rfl
@[simp] theorem setCtx_liu (i : Nat) (c : Option Ctx) : (setCtx s i c).liu = s.liu := rfl
@[simp] theorem setCtx_groups (i : Nat) (c : Option Ctx) : (setCtx s i c).groups = s.groups := rfl
@[simp] theorem setCtx_pillows (i : Nat) (c : Option Ctx) : (setCtx s i c).pillows = s.pillows := rfl
@[simp] theorem setCtx_bobbins (i : Nat) (c : Option Ctx) : (setCtx s i c).bobbins = s.bobbins := rfl
@[simp] theorem setCtx_images (i : Nat) (c : Option Ctx) : (setCtx s i c).images = s.images := rfl
@[simp] theorem setCtx_slices (i : Nat) (c : Option Ctx) : (setCtx s i c).slices = s.slices := rfl
@[simp] theorem setCtx_hostIf (i : Nat) (c : Option Ctx) : (setCtx s i c).hostIf = s.hostIf := rfl
@[simp] theorem setCtx_fwl (i : Nat) (c : Option Ctx) : (setCtx s i c).fwl = s.fwl := rfl
@[simp] theorem setCtx_pool (i : Nat) (c : Option Ctx) : (setCtx s i c).pool = s.pool := rfl
@[simp] theorem setCtx_pair (i : Nat) (c : Option Ctx) : (setCtx s i c).pair = s.pair := rfl
@[simp] theorem setCtx_captures (i : Nat) (c : Option Ctx) : (setCtx s i c).captures = s.captures := rfl
@[simp] theorem setCtx_journal (i : Nat) (c : Option Ctx) : (setCtx s i c).journal = s.journal := rfl
@[simp] theorem setCtx_durable (i : Nat) (c : Option Ctx) : (setCtx s i c).durable = s.durable := rfl
@[simp] theorem setCtx_freeCtr (i : Nat) (c : Option Ctx) : (setCtx s i c).freeCtr = s.freeCtr := rfl
@[simp] theorem setCtx_pending (i : Nat) (c : Option Ctx) : (setCtx s i c).pending = s.pending := rfl

/-! ### setFrame changes pool alone -/

@[simp] theorem setFrame_pages (h : Nat) (f : Option FrameRec) : (setFrame s h f).pages = s.pages := rfl
@[simp] theorem setFrame_regs (h : Nat) (f : Option FrameRec) : (setFrame s h f).regs = s.regs := rfl
@[simp] theorem setFrame_msix (h : Nat) (f : Option FrameRec) : (setFrame s h f).msix = s.msix := rfl
@[simp] theorem setFrame_mem (h : Nat) (f : Option FrameRec) : (setFrame s h f).mem = s.mem := rfl
@[simp] theorem setFrame_boot (h : Nat) (f : Option FrameRec) : (setFrame s h f).boot = s.boot := rfl
@[simp] theorem setFrame_lc (h : Nat) (f : Option FrameRec) : (setFrame s h f).lc = s.lc := rfl
@[simp] theorem setFrame_pwc (h : Nat) (f : Option FrameRec) : (setFrame s h f).pwc = s.pwc := rfl
@[simp] theorem setFrame_tamper (h : Nat) (f : Option FrameRec) : (setFrame s h f).tamper = s.tamper := rfl
@[simp] theorem setFrame_rng (h : Nat) (f : Option FrameRec) : (setFrame s h f).rng = s.rng := rfl
@[simp] theorem setFrame_stn (h : Nat) (f : Option FrameRec) : (setFrame s h f).stn = s.stn := rfl
@[simp] theorem setFrame_mor (h : Nat) (f : Option FrameRec) : (setFrame s h f).mor = s.mor := rfl
@[simp] theorem setFrame_ports (h : Nat) (f : Option FrameRec) : (setFrame s h f).ports = s.ports := rfl
@[simp] theorem setFrame_pairNet (h : Nat) (f : Option FrameRec) : (setFrame s h f).pairNet = s.pairNet := rfl
@[simp] theorem setFrame_cls (h : Nat) (f : Option FrameRec) : (setFrame s h f).cls = s.cls := rfl
@[simp] theorem setFrame_ptp (h : Nat) (f : Option FrameRec) : (setFrame s h f).ptp = s.ptp := rfl
@[simp] theorem setFrame_lanes (h : Nat) (f : Option FrameRec) : (setFrame s h f).lanes = s.lanes := rfl
@[simp] theorem setFrame_firn (h : Nat) (f : Option FrameRec) : (setFrame s h f).firn = s.firn := rfl
@[simp] theorem setFrame_ltu (h : Nat) (f : Option FrameRec) : (setFrame s h f).ltu = s.ltu := rfl
@[simp] theorem setFrame_liu (h : Nat) (f : Option FrameRec) : (setFrame s h f).liu = s.liu := rfl
@[simp] theorem setFrame_ctxs (h : Nat) (f : Option FrameRec) : (setFrame s h f).ctxs = s.ctxs := rfl
@[simp] theorem setFrame_groups (h : Nat) (f : Option FrameRec) : (setFrame s h f).groups = s.groups := rfl
@[simp] theorem setFrame_pillows (h : Nat) (f : Option FrameRec) : (setFrame s h f).pillows = s.pillows := rfl
@[simp] theorem setFrame_bobbins (h : Nat) (f : Option FrameRec) : (setFrame s h f).bobbins = s.bobbins := rfl
@[simp] theorem setFrame_images (h : Nat) (f : Option FrameRec) : (setFrame s h f).images = s.images := rfl
@[simp] theorem setFrame_slices (h : Nat) (f : Option FrameRec) : (setFrame s h f).slices = s.slices := rfl
@[simp] theorem setFrame_hostIf (h : Nat) (f : Option FrameRec) : (setFrame s h f).hostIf = s.hostIf := rfl
@[simp] theorem setFrame_fwl (h : Nat) (f : Option FrameRec) : (setFrame s h f).fwl = s.fwl := rfl
@[simp] theorem setFrame_pair (h : Nat) (f : Option FrameRec) : (setFrame s h f).pair = s.pair := rfl
@[simp] theorem setFrame_captures (h : Nat) (f : Option FrameRec) : (setFrame s h f).captures = s.captures := rfl
@[simp] theorem setFrame_journal (h : Nat) (f : Option FrameRec) : (setFrame s h f).journal = s.journal := rfl
@[simp] theorem setFrame_durable (h : Nat) (f : Option FrameRec) : (setFrame s h f).durable = s.durable := rfl
@[simp] theorem setFrame_freeCtr (h : Nat) (f : Option FrameRec) : (setFrame s h f).freeCtr = s.freeCtr := rfl
@[simp] theorem setFrame_pending (h : Nat) (f : Option FrameRec) : (setFrame s h f).pending = s.pending := rfl

/-! ### setBob changes bobbins alone -/

@[simp] theorem setBob_pages (b : Nat) (x : Bobbin) : (setBob s b x).pages = s.pages := rfl
@[simp] theorem setBob_regs (b : Nat) (x : Bobbin) : (setBob s b x).regs = s.regs := rfl
@[simp] theorem setBob_msix (b : Nat) (x : Bobbin) : (setBob s b x).msix = s.msix := rfl
@[simp] theorem setBob_mem (b : Nat) (x : Bobbin) : (setBob s b x).mem = s.mem := rfl
@[simp] theorem setBob_boot (b : Nat) (x : Bobbin) : (setBob s b x).boot = s.boot := rfl
@[simp] theorem setBob_lc (b : Nat) (x : Bobbin) : (setBob s b x).lc = s.lc := rfl
@[simp] theorem setBob_pwc (b : Nat) (x : Bobbin) : (setBob s b x).pwc = s.pwc := rfl
@[simp] theorem setBob_tamper (b : Nat) (x : Bobbin) : (setBob s b x).tamper = s.tamper := rfl
@[simp] theorem setBob_rng (b : Nat) (x : Bobbin) : (setBob s b x).rng = s.rng := rfl
@[simp] theorem setBob_stn (b : Nat) (x : Bobbin) : (setBob s b x).stn = s.stn := rfl
@[simp] theorem setBob_mor (b : Nat) (x : Bobbin) : (setBob s b x).mor = s.mor := rfl
@[simp] theorem setBob_ports (b : Nat) (x : Bobbin) : (setBob s b x).ports = s.ports := rfl
@[simp] theorem setBob_pairNet (b : Nat) (x : Bobbin) : (setBob s b x).pairNet = s.pairNet := rfl
@[simp] theorem setBob_cls (b : Nat) (x : Bobbin) : (setBob s b x).cls = s.cls := rfl
@[simp] theorem setBob_ptp (b : Nat) (x : Bobbin) : (setBob s b x).ptp = s.ptp := rfl
@[simp] theorem setBob_lanes (b : Nat) (x : Bobbin) : (setBob s b x).lanes = s.lanes := rfl
@[simp] theorem setBob_firn (b : Nat) (x : Bobbin) : (setBob s b x).firn = s.firn := rfl
@[simp] theorem setBob_ltu (b : Nat) (x : Bobbin) : (setBob s b x).ltu = s.ltu := rfl
@[simp] theorem setBob_liu (b : Nat) (x : Bobbin) : (setBob s b x).liu = s.liu := rfl
@[simp] theorem setBob_ctxs (b : Nat) (x : Bobbin) : (setBob s b x).ctxs = s.ctxs := rfl
@[simp] theorem setBob_groups (b : Nat) (x : Bobbin) : (setBob s b x).groups = s.groups := rfl
@[simp] theorem setBob_pillows (b : Nat) (x : Bobbin) : (setBob s b x).pillows = s.pillows := rfl
@[simp] theorem setBob_images (b : Nat) (x : Bobbin) : (setBob s b x).images = s.images := rfl
@[simp] theorem setBob_slices (b : Nat) (x : Bobbin) : (setBob s b x).slices = s.slices := rfl
@[simp] theorem setBob_hostIf (b : Nat) (x : Bobbin) : (setBob s b x).hostIf = s.hostIf := rfl
@[simp] theorem setBob_fwl (b : Nat) (x : Bobbin) : (setBob s b x).fwl = s.fwl := rfl
@[simp] theorem setBob_pool (b : Nat) (x : Bobbin) : (setBob s b x).pool = s.pool := rfl
@[simp] theorem setBob_pair (b : Nat) (x : Bobbin) : (setBob s b x).pair = s.pair := rfl
@[simp] theorem setBob_captures (b : Nat) (x : Bobbin) : (setBob s b x).captures = s.captures := rfl
@[simp] theorem setBob_journal (b : Nat) (x : Bobbin) : (setBob s b x).journal = s.journal := rfl
@[simp] theorem setBob_durable (b : Nat) (x : Bobbin) : (setBob s b x).durable = s.durable := rfl
@[simp] theorem setBob_freeCtr (b : Nat) (x : Bobbin) : (setBob s b x).freeCtr = s.freeCtr := rfl
@[simp] theorem setBob_pending (b : Nat) (x : Bobbin) : (setBob s b x).pending = s.pending := rfl

/-! ### modBob changes bobbins alone -/

@[simp] theorem modBob_pages (b : Nat) (f : Bobbin → Bobbin) : (modBob s b f).pages = s.pages := rfl
@[simp] theorem modBob_regs (b : Nat) (f : Bobbin → Bobbin) : (modBob s b f).regs = s.regs := rfl
@[simp] theorem modBob_msix (b : Nat) (f : Bobbin → Bobbin) : (modBob s b f).msix = s.msix := rfl
@[simp] theorem modBob_mem (b : Nat) (f : Bobbin → Bobbin) : (modBob s b f).mem = s.mem := rfl
@[simp] theorem modBob_boot (b : Nat) (f : Bobbin → Bobbin) : (modBob s b f).boot = s.boot := rfl
@[simp] theorem modBob_lc (b : Nat) (f : Bobbin → Bobbin) : (modBob s b f).lc = s.lc := rfl
@[simp] theorem modBob_pwc (b : Nat) (f : Bobbin → Bobbin) : (modBob s b f).pwc = s.pwc := rfl
@[simp] theorem modBob_tamper (b : Nat) (f : Bobbin → Bobbin) : (modBob s b f).tamper = s.tamper := rfl
@[simp] theorem modBob_rng (b : Nat) (f : Bobbin → Bobbin) : (modBob s b f).rng = s.rng := rfl
@[simp] theorem modBob_stn (b : Nat) (f : Bobbin → Bobbin) : (modBob s b f).stn = s.stn := rfl
@[simp] theorem modBob_mor (b : Nat) (f : Bobbin → Bobbin) : (modBob s b f).mor = s.mor := rfl
@[simp] theorem modBob_ports (b : Nat) (f : Bobbin → Bobbin) : (modBob s b f).ports = s.ports := rfl
@[simp] theorem modBob_pairNet (b : Nat) (f : Bobbin → Bobbin) : (modBob s b f).pairNet = s.pairNet := rfl
@[simp] theorem modBob_cls (b : Nat) (f : Bobbin → Bobbin) : (modBob s b f).cls = s.cls := rfl
@[simp] theorem modBob_ptp (b : Nat) (f : Bobbin → Bobbin) : (modBob s b f).ptp = s.ptp := rfl
@[simp] theorem modBob_lanes (b : Nat) (f : Bobbin → Bobbin) : (modBob s b f).lanes = s.lanes := rfl
@[simp] theorem modBob_firn (b : Nat) (f : Bobbin → Bobbin) : (modBob s b f).firn = s.firn := rfl
@[simp] theorem modBob_ltu (b : Nat) (f : Bobbin → Bobbin) : (modBob s b f).ltu = s.ltu := rfl
@[simp] theorem modBob_liu (b : Nat) (f : Bobbin → Bobbin) : (modBob s b f).liu = s.liu := rfl
@[simp] theorem modBob_ctxs (b : Nat) (f : Bobbin → Bobbin) : (modBob s b f).ctxs = s.ctxs := rfl
@[simp] theorem modBob_groups (b : Nat) (f : Bobbin → Bobbin) : (modBob s b f).groups = s.groups := rfl
@[simp] theorem modBob_pillows (b : Nat) (f : Bobbin → Bobbin) : (modBob s b f).pillows = s.pillows := rfl
@[simp] theorem modBob_images (b : Nat) (f : Bobbin → Bobbin) : (modBob s b f).images = s.images := rfl
@[simp] theorem modBob_slices (b : Nat) (f : Bobbin → Bobbin) : (modBob s b f).slices = s.slices := rfl
@[simp] theorem modBob_hostIf (b : Nat) (f : Bobbin → Bobbin) : (modBob s b f).hostIf = s.hostIf := rfl
@[simp] theorem modBob_fwl (b : Nat) (f : Bobbin → Bobbin) : (modBob s b f).fwl = s.fwl := rfl
@[simp] theorem modBob_pool (b : Nat) (f : Bobbin → Bobbin) : (modBob s b f).pool = s.pool := rfl
@[simp] theorem modBob_pair (b : Nat) (f : Bobbin → Bobbin) : (modBob s b f).pair = s.pair := rfl
@[simp] theorem modBob_captures (b : Nat) (f : Bobbin → Bobbin) : (modBob s b f).captures = s.captures := rfl
@[simp] theorem modBob_journal (b : Nat) (f : Bobbin → Bobbin) : (modBob s b f).journal = s.journal := rfl
@[simp] theorem modBob_durable (b : Nat) (f : Bobbin → Bobbin) : (modBob s b f).durable = s.durable := rfl
@[simp] theorem modBob_freeCtr (b : Nat) (f : Bobbin → Bobbin) : (modBob s b f).freeCtr = s.freeCtr := rfl
@[simp] theorem modBob_pending (b : Nat) (f : Bobbin → Bobbin) : (modBob s b f).pending = s.pending := rfl

/-! ### setPil changes pillows alone -/

@[simp] theorem setPil_pages (p : Nat) (x : Pillow) : (setPil s p x).pages = s.pages := rfl
@[simp] theorem setPil_regs (p : Nat) (x : Pillow) : (setPil s p x).regs = s.regs := rfl
@[simp] theorem setPil_msix (p : Nat) (x : Pillow) : (setPil s p x).msix = s.msix := rfl
@[simp] theorem setPil_mem (p : Nat) (x : Pillow) : (setPil s p x).mem = s.mem := rfl
@[simp] theorem setPil_boot (p : Nat) (x : Pillow) : (setPil s p x).boot = s.boot := rfl
@[simp] theorem setPil_lc (p : Nat) (x : Pillow) : (setPil s p x).lc = s.lc := rfl
@[simp] theorem setPil_pwc (p : Nat) (x : Pillow) : (setPil s p x).pwc = s.pwc := rfl
@[simp] theorem setPil_tamper (p : Nat) (x : Pillow) : (setPil s p x).tamper = s.tamper := rfl
@[simp] theorem setPil_rng (p : Nat) (x : Pillow) : (setPil s p x).rng = s.rng := rfl
@[simp] theorem setPil_stn (p : Nat) (x : Pillow) : (setPil s p x).stn = s.stn := rfl
@[simp] theorem setPil_mor (p : Nat) (x : Pillow) : (setPil s p x).mor = s.mor := rfl
@[simp] theorem setPil_ports (p : Nat) (x : Pillow) : (setPil s p x).ports = s.ports := rfl
@[simp] theorem setPil_pairNet (p : Nat) (x : Pillow) : (setPil s p x).pairNet = s.pairNet := rfl
@[simp] theorem setPil_cls (p : Nat) (x : Pillow) : (setPil s p x).cls = s.cls := rfl
@[simp] theorem setPil_ptp (p : Nat) (x : Pillow) : (setPil s p x).ptp = s.ptp := rfl
@[simp] theorem setPil_lanes (p : Nat) (x : Pillow) : (setPil s p x).lanes = s.lanes := rfl
@[simp] theorem setPil_firn (p : Nat) (x : Pillow) : (setPil s p x).firn = s.firn := rfl
@[simp] theorem setPil_ltu (p : Nat) (x : Pillow) : (setPil s p x).ltu = s.ltu := rfl
@[simp] theorem setPil_liu (p : Nat) (x : Pillow) : (setPil s p x).liu = s.liu := rfl
@[simp] theorem setPil_ctxs (p : Nat) (x : Pillow) : (setPil s p x).ctxs = s.ctxs := rfl
@[simp] theorem setPil_groups (p : Nat) (x : Pillow) : (setPil s p x).groups = s.groups := rfl
@[simp] theorem setPil_bobbins (p : Nat) (x : Pillow) : (setPil s p x).bobbins = s.bobbins := rfl
@[simp] theorem setPil_images (p : Nat) (x : Pillow) : (setPil s p x).images = s.images := rfl
@[simp] theorem setPil_slices (p : Nat) (x : Pillow) : (setPil s p x).slices = s.slices := rfl
@[simp] theorem setPil_hostIf (p : Nat) (x : Pillow) : (setPil s p x).hostIf = s.hostIf := rfl
@[simp] theorem setPil_fwl (p : Nat) (x : Pillow) : (setPil s p x).fwl = s.fwl := rfl
@[simp] theorem setPil_pool (p : Nat) (x : Pillow) : (setPil s p x).pool = s.pool := rfl
@[simp] theorem setPil_pair (p : Nat) (x : Pillow) : (setPil s p x).pair = s.pair := rfl
@[simp] theorem setPil_captures (p : Nat) (x : Pillow) : (setPil s p x).captures = s.captures := rfl
@[simp] theorem setPil_journal (p : Nat) (x : Pillow) : (setPil s p x).journal = s.journal := rfl
@[simp] theorem setPil_durable (p : Nat) (x : Pillow) : (setPil s p x).durable = s.durable := rfl
@[simp] theorem setPil_freeCtr (p : Nat) (x : Pillow) : (setPil s p x).freeCtr = s.freeCtr := rfl
@[simp] theorem setPil_pending (p : Nat) (x : Pillow) : (setPil s p x).pending = s.pending := rfl

/-! ### modPil changes pillows alone -/

@[simp] theorem modPil_pages (p : Nat) (f : Pillow → Pillow) : (modPil s p f).pages = s.pages := rfl
@[simp] theorem modPil_regs (p : Nat) (f : Pillow → Pillow) : (modPil s p f).regs = s.regs := rfl
@[simp] theorem modPil_msix (p : Nat) (f : Pillow → Pillow) : (modPil s p f).msix = s.msix := rfl
@[simp] theorem modPil_mem (p : Nat) (f : Pillow → Pillow) : (modPil s p f).mem = s.mem := rfl
@[simp] theorem modPil_boot (p : Nat) (f : Pillow → Pillow) : (modPil s p f).boot = s.boot := rfl
@[simp] theorem modPil_lc (p : Nat) (f : Pillow → Pillow) : (modPil s p f).lc = s.lc := rfl
@[simp] theorem modPil_pwc (p : Nat) (f : Pillow → Pillow) : (modPil s p f).pwc = s.pwc := rfl
@[simp] theorem modPil_tamper (p : Nat) (f : Pillow → Pillow) : (modPil s p f).tamper = s.tamper := rfl
@[simp] theorem modPil_rng (p : Nat) (f : Pillow → Pillow) : (modPil s p f).rng = s.rng := rfl
@[simp] theorem modPil_stn (p : Nat) (f : Pillow → Pillow) : (modPil s p f).stn = s.stn := rfl
@[simp] theorem modPil_mor (p : Nat) (f : Pillow → Pillow) : (modPil s p f).mor = s.mor := rfl
@[simp] theorem modPil_ports (p : Nat) (f : Pillow → Pillow) : (modPil s p f).ports = s.ports := rfl
@[simp] theorem modPil_pairNet (p : Nat) (f : Pillow → Pillow) : (modPil s p f).pairNet = s.pairNet := rfl
@[simp] theorem modPil_cls (p : Nat) (f : Pillow → Pillow) : (modPil s p f).cls = s.cls := rfl
@[simp] theorem modPil_ptp (p : Nat) (f : Pillow → Pillow) : (modPil s p f).ptp = s.ptp := rfl
@[simp] theorem modPil_lanes (p : Nat) (f : Pillow → Pillow) : (modPil s p f).lanes = s.lanes := rfl
@[simp] theorem modPil_firn (p : Nat) (f : Pillow → Pillow) : (modPil s p f).firn = s.firn := rfl
@[simp] theorem modPil_ltu (p : Nat) (f : Pillow → Pillow) : (modPil s p f).ltu = s.ltu := rfl
@[simp] theorem modPil_liu (p : Nat) (f : Pillow → Pillow) : (modPil s p f).liu = s.liu := rfl
@[simp] theorem modPil_ctxs (p : Nat) (f : Pillow → Pillow) : (modPil s p f).ctxs = s.ctxs := rfl
@[simp] theorem modPil_groups (p : Nat) (f : Pillow → Pillow) : (modPil s p f).groups = s.groups := rfl
@[simp] theorem modPil_bobbins (p : Nat) (f : Pillow → Pillow) : (modPil s p f).bobbins = s.bobbins := rfl
@[simp] theorem modPil_images (p : Nat) (f : Pillow → Pillow) : (modPil s p f).images = s.images := rfl
@[simp] theorem modPil_slices (p : Nat) (f : Pillow → Pillow) : (modPil s p f).slices = s.slices := rfl
@[simp] theorem modPil_hostIf (p : Nat) (f : Pillow → Pillow) : (modPil s p f).hostIf = s.hostIf := rfl
@[simp] theorem modPil_fwl (p : Nat) (f : Pillow → Pillow) : (modPil s p f).fwl = s.fwl := rfl
@[simp] theorem modPil_pool (p : Nat) (f : Pillow → Pillow) : (modPil s p f).pool = s.pool := rfl
@[simp] theorem modPil_pair (p : Nat) (f : Pillow → Pillow) : (modPil s p f).pair = s.pair := rfl
@[simp] theorem modPil_captures (p : Nat) (f : Pillow → Pillow) : (modPil s p f).captures = s.captures := rfl
@[simp] theorem modPil_journal (p : Nat) (f : Pillow → Pillow) : (modPil s p f).journal = s.journal := rfl
@[simp] theorem modPil_durable (p : Nat) (f : Pillow → Pillow) : (modPil s p f).durable = s.durable := rfl
@[simp] theorem modPil_freeCtr (p : Nat) (f : Pillow → Pillow) : (modPil s p f).freeCtr = s.freeCtr := rfl
@[simp] theorem modPil_pending (p : Nat) (f : Pillow → Pillow) : (modPil s p f).pending = s.pending := rfl

/-! ### setPort changes ports alone -/

@[simp] theorem setPort_pages (n : Nat) (x : PortSt) : (setPort s n x).pages = s.pages := rfl
@[simp] theorem setPort_regs (n : Nat) (x : PortSt) : (setPort s n x).regs = s.regs := rfl
@[simp] theorem setPort_msix (n : Nat) (x : PortSt) : (setPort s n x).msix = s.msix := rfl
@[simp] theorem setPort_mem (n : Nat) (x : PortSt) : (setPort s n x).mem = s.mem := rfl
@[simp] theorem setPort_boot (n : Nat) (x : PortSt) : (setPort s n x).boot = s.boot := rfl
@[simp] theorem setPort_lc (n : Nat) (x : PortSt) : (setPort s n x).lc = s.lc := rfl
@[simp] theorem setPort_pwc (n : Nat) (x : PortSt) : (setPort s n x).pwc = s.pwc := rfl
@[simp] theorem setPort_tamper (n : Nat) (x : PortSt) : (setPort s n x).tamper = s.tamper := rfl
@[simp] theorem setPort_rng (n : Nat) (x : PortSt) : (setPort s n x).rng = s.rng := rfl
@[simp] theorem setPort_stn (n : Nat) (x : PortSt) : (setPort s n x).stn = s.stn := rfl
@[simp] theorem setPort_mor (n : Nat) (x : PortSt) : (setPort s n x).mor = s.mor := rfl
@[simp] theorem setPort_pairNet (n : Nat) (x : PortSt) : (setPort s n x).pairNet = s.pairNet := rfl
@[simp] theorem setPort_cls (n : Nat) (x : PortSt) : (setPort s n x).cls = s.cls := rfl
@[simp] theorem setPort_ptp (n : Nat) (x : PortSt) : (setPort s n x).ptp = s.ptp := rfl
@[simp] theorem setPort_lanes (n : Nat) (x : PortSt) : (setPort s n x).lanes = s.lanes := rfl
@[simp] theorem setPort_firn (n : Nat) (x : PortSt) : (setPort s n x).firn = s.firn := rfl
@[simp] theorem setPort_ltu (n : Nat) (x : PortSt) : (setPort s n x).ltu = s.ltu := rfl
@[simp] theorem setPort_liu (n : Nat) (x : PortSt) : (setPort s n x).liu = s.liu := rfl
@[simp] theorem setPort_ctxs (n : Nat) (x : PortSt) : (setPort s n x).ctxs = s.ctxs := rfl
@[simp] theorem setPort_groups (n : Nat) (x : PortSt) : (setPort s n x).groups = s.groups := rfl
@[simp] theorem setPort_pillows (n : Nat) (x : PortSt) : (setPort s n x).pillows = s.pillows := rfl
@[simp] theorem setPort_bobbins (n : Nat) (x : PortSt) : (setPort s n x).bobbins = s.bobbins := rfl
@[simp] theorem setPort_images (n : Nat) (x : PortSt) : (setPort s n x).images = s.images := rfl
@[simp] theorem setPort_slices (n : Nat) (x : PortSt) : (setPort s n x).slices = s.slices := rfl
@[simp] theorem setPort_hostIf (n : Nat) (x : PortSt) : (setPort s n x).hostIf = s.hostIf := rfl
@[simp] theorem setPort_fwl (n : Nat) (x : PortSt) : (setPort s n x).fwl = s.fwl := rfl
@[simp] theorem setPort_pool (n : Nat) (x : PortSt) : (setPort s n x).pool = s.pool := rfl
@[simp] theorem setPort_pair (n : Nat) (x : PortSt) : (setPort s n x).pair = s.pair := rfl
@[simp] theorem setPort_captures (n : Nat) (x : PortSt) : (setPort s n x).captures = s.captures := rfl
@[simp] theorem setPort_journal (n : Nat) (x : PortSt) : (setPort s n x).journal = s.journal := rfl
@[simp] theorem setPort_durable (n : Nat) (x : PortSt) : (setPort s n x).durable = s.durable := rfl
@[simp] theorem setPort_freeCtr (n : Nat) (x : PortSt) : (setPort s n x).freeCtr = s.freeCtr := rfl
@[simp] theorem setPort_pending (n : Nat) (x : PortSt) : (setPort s n x).pending = s.pending := rfl

/-! ### modPort changes ports alone -/

@[simp] theorem modPort_pages (n : Nat) (f : PortSt → PortSt) : (modPort s n f).pages = s.pages := rfl
@[simp] theorem modPort_regs (n : Nat) (f : PortSt → PortSt) : (modPort s n f).regs = s.regs := rfl
@[simp] theorem modPort_msix (n : Nat) (f : PortSt → PortSt) : (modPort s n f).msix = s.msix := rfl
@[simp] theorem modPort_mem (n : Nat) (f : PortSt → PortSt) : (modPort s n f).mem = s.mem := rfl
@[simp] theorem modPort_boot (n : Nat) (f : PortSt → PortSt) : (modPort s n f).boot = s.boot := rfl
@[simp] theorem modPort_lc (n : Nat) (f : PortSt → PortSt) : (modPort s n f).lc = s.lc := rfl
@[simp] theorem modPort_pwc (n : Nat) (f : PortSt → PortSt) : (modPort s n f).pwc = s.pwc := rfl
@[simp] theorem modPort_tamper (n : Nat) (f : PortSt → PortSt) : (modPort s n f).tamper = s.tamper := rfl
@[simp] theorem modPort_rng (n : Nat) (f : PortSt → PortSt) : (modPort s n f).rng = s.rng := rfl
@[simp] theorem modPort_stn (n : Nat) (f : PortSt → PortSt) : (modPort s n f).stn = s.stn := rfl
@[simp] theorem modPort_mor (n : Nat) (f : PortSt → PortSt) : (modPort s n f).mor = s.mor := rfl
@[simp] theorem modPort_pairNet (n : Nat) (f : PortSt → PortSt) : (modPort s n f).pairNet = s.pairNet := rfl
@[simp] theorem modPort_cls (n : Nat) (f : PortSt → PortSt) : (modPort s n f).cls = s.cls := rfl
@[simp] theorem modPort_ptp (n : Nat) (f : PortSt → PortSt) : (modPort s n f).ptp = s.ptp := rfl
@[simp] theorem modPort_lanes (n : Nat) (f : PortSt → PortSt) : (modPort s n f).lanes = s.lanes := rfl
@[simp] theorem modPort_firn (n : Nat) (f : PortSt → PortSt) : (modPort s n f).firn = s.firn := rfl
@[simp] theorem modPort_ltu (n : Nat) (f : PortSt → PortSt) : (modPort s n f).ltu = s.ltu := rfl
@[simp] theorem modPort_liu (n : Nat) (f : PortSt → PortSt) : (modPort s n f).liu = s.liu := rfl
@[simp] theorem modPort_ctxs (n : Nat) (f : PortSt → PortSt) : (modPort s n f).ctxs = s.ctxs := rfl
@[simp] theorem modPort_groups (n : Nat) (f : PortSt → PortSt) : (modPort s n f).groups = s.groups := rfl
@[simp] theorem modPort_pillows (n : Nat) (f : PortSt → PortSt) : (modPort s n f).pillows = s.pillows := rfl
@[simp] theorem modPort_bobbins (n : Nat) (f : PortSt → PortSt) : (modPort s n f).bobbins = s.bobbins := rfl
@[simp] theorem modPort_images (n : Nat) (f : PortSt → PortSt) : (modPort s n f).images = s.images := rfl
@[simp] theorem modPort_slices (n : Nat) (f : PortSt → PortSt) : (modPort s n f).slices = s.slices := rfl
@[simp] theorem modPort_hostIf (n : Nat) (f : PortSt → PortSt) : (modPort s n f).hostIf = s.hostIf := rfl
@[simp] theorem modPort_fwl (n : Nat) (f : PortSt → PortSt) : (modPort s n f).fwl = s.fwl := rfl
@[simp] theorem modPort_pool (n : Nat) (f : PortSt → PortSt) : (modPort s n f).pool = s.pool := rfl
@[simp] theorem modPort_pair (n : Nat) (f : PortSt → PortSt) : (modPort s n f).pair = s.pair := rfl
@[simp] theorem modPort_captures (n : Nat) (f : PortSt → PortSt) : (modPort s n f).captures = s.captures := rfl
@[simp] theorem modPort_journal (n : Nat) (f : PortSt → PortSt) : (modPort s n f).journal = s.journal := rfl
@[simp] theorem modPort_durable (n : Nat) (f : PortSt → PortSt) : (modPort s n f).durable = s.durable := rfl
@[simp] theorem modPort_freeCtr (n : Nat) (f : PortSt → PortSt) : (modPort s n f).freeCtr = s.freeCtr := rfl
@[simp] theorem modPort_pending (n : Nat) (f : PortSt → PortSt) : (modPort s n f).pending = s.pending := rfl

/-! ### setGroup changes groups alone -/

@[simp] theorem setGroup_pages (g : Nat) (x : Option Group) : (setGroup s g x).pages = s.pages := rfl
@[simp] theorem setGroup_regs (g : Nat) (x : Option Group) : (setGroup s g x).regs = s.regs := rfl
@[simp] theorem setGroup_msix (g : Nat) (x : Option Group) : (setGroup s g x).msix = s.msix := rfl
@[simp] theorem setGroup_mem (g : Nat) (x : Option Group) : (setGroup s g x).mem = s.mem := rfl
@[simp] theorem setGroup_boot (g : Nat) (x : Option Group) : (setGroup s g x).boot = s.boot := rfl
@[simp] theorem setGroup_lc (g : Nat) (x : Option Group) : (setGroup s g x).lc = s.lc := rfl
@[simp] theorem setGroup_pwc (g : Nat) (x : Option Group) : (setGroup s g x).pwc = s.pwc := rfl
@[simp] theorem setGroup_tamper (g : Nat) (x : Option Group) : (setGroup s g x).tamper = s.tamper := rfl
@[simp] theorem setGroup_rng (g : Nat) (x : Option Group) : (setGroup s g x).rng = s.rng := rfl
@[simp] theorem setGroup_stn (g : Nat) (x : Option Group) : (setGroup s g x).stn = s.stn := rfl
@[simp] theorem setGroup_mor (g : Nat) (x : Option Group) : (setGroup s g x).mor = s.mor := rfl
@[simp] theorem setGroup_ports (g : Nat) (x : Option Group) : (setGroup s g x).ports = s.ports := rfl
@[simp] theorem setGroup_pairNet (g : Nat) (x : Option Group) : (setGroup s g x).pairNet = s.pairNet := rfl
@[simp] theorem setGroup_cls (g : Nat) (x : Option Group) : (setGroup s g x).cls = s.cls := rfl
@[simp] theorem setGroup_ptp (g : Nat) (x : Option Group) : (setGroup s g x).ptp = s.ptp := rfl
@[simp] theorem setGroup_lanes (g : Nat) (x : Option Group) : (setGroup s g x).lanes = s.lanes := rfl
@[simp] theorem setGroup_firn (g : Nat) (x : Option Group) : (setGroup s g x).firn = s.firn := rfl
@[simp] theorem setGroup_ltu (g : Nat) (x : Option Group) : (setGroup s g x).ltu = s.ltu := rfl
@[simp] theorem setGroup_liu (g : Nat) (x : Option Group) : (setGroup s g x).liu = s.liu := rfl
@[simp] theorem setGroup_ctxs (g : Nat) (x : Option Group) : (setGroup s g x).ctxs = s.ctxs := rfl
@[simp] theorem setGroup_pillows (g : Nat) (x : Option Group) : (setGroup s g x).pillows = s.pillows := rfl
@[simp] theorem setGroup_bobbins (g : Nat) (x : Option Group) : (setGroup s g x).bobbins = s.bobbins := rfl
@[simp] theorem setGroup_images (g : Nat) (x : Option Group) : (setGroup s g x).images = s.images := rfl
@[simp] theorem setGroup_slices (g : Nat) (x : Option Group) : (setGroup s g x).slices = s.slices := rfl
@[simp] theorem setGroup_hostIf (g : Nat) (x : Option Group) : (setGroup s g x).hostIf = s.hostIf := rfl
@[simp] theorem setGroup_fwl (g : Nat) (x : Option Group) : (setGroup s g x).fwl = s.fwl := rfl
@[simp] theorem setGroup_pool (g : Nat) (x : Option Group) : (setGroup s g x).pool = s.pool := rfl
@[simp] theorem setGroup_pair (g : Nat) (x : Option Group) : (setGroup s g x).pair = s.pair := rfl
@[simp] theorem setGroup_captures (g : Nat) (x : Option Group) : (setGroup s g x).captures = s.captures := rfl
@[simp] theorem setGroup_journal (g : Nat) (x : Option Group) : (setGroup s g x).journal = s.journal := rfl
@[simp] theorem setGroup_durable (g : Nat) (x : Option Group) : (setGroup s g x).durable = s.durable := rfl
@[simp] theorem setGroup_freeCtr (g : Nat) (x : Option Group) : (setGroup s g x).freeCtr = s.freeCtr := rfl
@[simp] theorem setGroup_pending (g : Nat) (x : Option Group) : (setGroup s g x).pending = s.pending := rfl

/-! ### setPairNet changes pairNet alone -/

@[simp] theorem setPairNet_pages (k : Nat) (x : PairNet) : (setPairNet s k x).pages = s.pages := rfl
@[simp] theorem setPairNet_regs (k : Nat) (x : PairNet) : (setPairNet s k x).regs = s.regs := rfl
@[simp] theorem setPairNet_msix (k : Nat) (x : PairNet) : (setPairNet s k x).msix = s.msix := rfl
@[simp] theorem setPairNet_mem (k : Nat) (x : PairNet) : (setPairNet s k x).mem = s.mem := rfl
@[simp] theorem setPairNet_boot (k : Nat) (x : PairNet) : (setPairNet s k x).boot = s.boot := rfl
@[simp] theorem setPairNet_lc (k : Nat) (x : PairNet) : (setPairNet s k x).lc = s.lc := rfl
@[simp] theorem setPairNet_pwc (k : Nat) (x : PairNet) : (setPairNet s k x).pwc = s.pwc := rfl
@[simp] theorem setPairNet_tamper (k : Nat) (x : PairNet) : (setPairNet s k x).tamper = s.tamper := rfl
@[simp] theorem setPairNet_rng (k : Nat) (x : PairNet) : (setPairNet s k x).rng = s.rng := rfl
@[simp] theorem setPairNet_stn (k : Nat) (x : PairNet) : (setPairNet s k x).stn = s.stn := rfl
@[simp] theorem setPairNet_mor (k : Nat) (x : PairNet) : (setPairNet s k x).mor = s.mor := rfl
@[simp] theorem setPairNet_ports (k : Nat) (x : PairNet) : (setPairNet s k x).ports = s.ports := rfl
@[simp] theorem setPairNet_cls (k : Nat) (x : PairNet) : (setPairNet s k x).cls = s.cls := rfl
@[simp] theorem setPairNet_ptp (k : Nat) (x : PairNet) : (setPairNet s k x).ptp = s.ptp := rfl
@[simp] theorem setPairNet_lanes (k : Nat) (x : PairNet) : (setPairNet s k x).lanes = s.lanes := rfl
@[simp] theorem setPairNet_firn (k : Nat) (x : PairNet) : (setPairNet s k x).firn = s.firn := rfl
@[simp] theorem setPairNet_ltu (k : Nat) (x : PairNet) : (setPairNet s k x).ltu = s.ltu := rfl
@[simp] theorem setPairNet_liu (k : Nat) (x : PairNet) : (setPairNet s k x).liu = s.liu := rfl
@[simp] theorem setPairNet_ctxs (k : Nat) (x : PairNet) : (setPairNet s k x).ctxs = s.ctxs := rfl
@[simp] theorem setPairNet_groups (k : Nat) (x : PairNet) : (setPairNet s k x).groups = s.groups := rfl
@[simp] theorem setPairNet_pillows (k : Nat) (x : PairNet) : (setPairNet s k x).pillows = s.pillows := rfl
@[simp] theorem setPairNet_bobbins (k : Nat) (x : PairNet) : (setPairNet s k x).bobbins = s.bobbins := rfl
@[simp] theorem setPairNet_images (k : Nat) (x : PairNet) : (setPairNet s k x).images = s.images := rfl
@[simp] theorem setPairNet_slices (k : Nat) (x : PairNet) : (setPairNet s k x).slices = s.slices := rfl
@[simp] theorem setPairNet_hostIf (k : Nat) (x : PairNet) : (setPairNet s k x).hostIf = s.hostIf := rfl
@[simp] theorem setPairNet_fwl (k : Nat) (x : PairNet) : (setPairNet s k x).fwl = s.fwl := rfl
@[simp] theorem setPairNet_pool (k : Nat) (x : PairNet) : (setPairNet s k x).pool = s.pool := rfl
@[simp] theorem setPairNet_pair (k : Nat) (x : PairNet) : (setPairNet s k x).pair = s.pair := rfl
@[simp] theorem setPairNet_captures (k : Nat) (x : PairNet) : (setPairNet s k x).captures = s.captures := rfl
@[simp] theorem setPairNet_journal (k : Nat) (x : PairNet) : (setPairNet s k x).journal = s.journal := rfl
@[simp] theorem setPairNet_durable (k : Nat) (x : PairNet) : (setPairNet s k x).durable = s.durable := rfl
@[simp] theorem setPairNet_freeCtr (k : Nat) (x : PairNet) : (setPairNet s k x).freeCtr = s.freeCtr := rfl
@[simp] theorem setPairNet_pending (k : Nat) (x : PairNet) : (setPairNet s k x).pending = s.pending := rfl

/-! ### setSlice changes slices alone -/

@[simp] theorem setSlice_pages (i : Nat) (x : Slice) : (setSlice s i x).pages = s.pages := rfl
@[simp] theorem setSlice_regs (i : Nat) (x : Slice) : (setSlice s i x).regs = s.regs := rfl
@[simp] theorem setSlice_msix (i : Nat) (x : Slice) : (setSlice s i x).msix = s.msix := rfl
@[simp] theorem setSlice_mem (i : Nat) (x : Slice) : (setSlice s i x).mem = s.mem := rfl
@[simp] theorem setSlice_boot (i : Nat) (x : Slice) : (setSlice s i x).boot = s.boot := rfl
@[simp] theorem setSlice_lc (i : Nat) (x : Slice) : (setSlice s i x).lc = s.lc := rfl
@[simp] theorem setSlice_pwc (i : Nat) (x : Slice) : (setSlice s i x).pwc = s.pwc := rfl
@[simp] theorem setSlice_tamper (i : Nat) (x : Slice) : (setSlice s i x).tamper = s.tamper := rfl
@[simp] theorem setSlice_rng (i : Nat) (x : Slice) : (setSlice s i x).rng = s.rng := rfl
@[simp] theorem setSlice_stn (i : Nat) (x : Slice) : (setSlice s i x).stn = s.stn := rfl
@[simp] theorem setSlice_mor (i : Nat) (x : Slice) : (setSlice s i x).mor = s.mor := rfl
@[simp] theorem setSlice_ports (i : Nat) (x : Slice) : (setSlice s i x).ports = s.ports := rfl
@[simp] theorem setSlice_pairNet (i : Nat) (x : Slice) : (setSlice s i x).pairNet = s.pairNet := rfl
@[simp] theorem setSlice_cls (i : Nat) (x : Slice) : (setSlice s i x).cls = s.cls := rfl
@[simp] theorem setSlice_ptp (i : Nat) (x : Slice) : (setSlice s i x).ptp = s.ptp := rfl
@[simp] theorem setSlice_lanes (i : Nat) (x : Slice) : (setSlice s i x).lanes = s.lanes := rfl
@[simp] theorem setSlice_firn (i : Nat) (x : Slice) : (setSlice s i x).firn = s.firn := rfl
@[simp] theorem setSlice_ltu (i : Nat) (x : Slice) : (setSlice s i x).ltu = s.ltu := rfl
@[simp] theorem setSlice_liu (i : Nat) (x : Slice) : (setSlice s i x).liu = s.liu := rfl
@[simp] theorem setSlice_ctxs (i : Nat) (x : Slice) : (setSlice s i x).ctxs = s.ctxs := rfl
@[simp] theorem setSlice_groups (i : Nat) (x : Slice) : (setSlice s i x).groups = s.groups := rfl
@[simp] theorem setSlice_pillows (i : Nat) (x : Slice) : (setSlice s i x).pillows = s.pillows := rfl
@[simp] theorem setSlice_bobbins (i : Nat) (x : Slice) : (setSlice s i x).bobbins = s.bobbins := rfl
@[simp] theorem setSlice_images (i : Nat) (x : Slice) : (setSlice s i x).images = s.images := rfl
@[simp] theorem setSlice_hostIf (i : Nat) (x : Slice) : (setSlice s i x).hostIf = s.hostIf := rfl
@[simp] theorem setSlice_fwl (i : Nat) (x : Slice) : (setSlice s i x).fwl = s.fwl := rfl
@[simp] theorem setSlice_pool (i : Nat) (x : Slice) : (setSlice s i x).pool = s.pool := rfl
@[simp] theorem setSlice_pair (i : Nat) (x : Slice) : (setSlice s i x).pair = s.pair := rfl
@[simp] theorem setSlice_captures (i : Nat) (x : Slice) : (setSlice s i x).captures = s.captures := rfl
@[simp] theorem setSlice_journal (i : Nat) (x : Slice) : (setSlice s i x).journal = s.journal := rfl
@[simp] theorem setSlice_durable (i : Nat) (x : Slice) : (setSlice s i x).durable = s.durable := rfl
@[simp] theorem setSlice_freeCtr (i : Nat) (x : Slice) : (setSlice s i x).freeCtr = s.freeCtr := rfl
@[simp] theorem setSlice_pending (i : Nat) (x : Slice) : (setSlice s i x).pending = s.pending := rfl

/-! ### modSlice changes slices alone -/

@[simp] theorem modSlice_pages (i : Nat) (f : Slice → Slice) : (modSlice s i f).pages = s.pages := rfl
@[simp] theorem modSlice_regs (i : Nat) (f : Slice → Slice) : (modSlice s i f).regs = s.regs := rfl
@[simp] theorem modSlice_msix (i : Nat) (f : Slice → Slice) : (modSlice s i f).msix = s.msix := rfl
@[simp] theorem modSlice_mem (i : Nat) (f : Slice → Slice) : (modSlice s i f).mem = s.mem := rfl
@[simp] theorem modSlice_boot (i : Nat) (f : Slice → Slice) : (modSlice s i f).boot = s.boot := rfl
@[simp] theorem modSlice_lc (i : Nat) (f : Slice → Slice) : (modSlice s i f).lc = s.lc := rfl
@[simp] theorem modSlice_pwc (i : Nat) (f : Slice → Slice) : (modSlice s i f).pwc = s.pwc := rfl
@[simp] theorem modSlice_tamper (i : Nat) (f : Slice → Slice) : (modSlice s i f).tamper = s.tamper := rfl
@[simp] theorem modSlice_rng (i : Nat) (f : Slice → Slice) : (modSlice s i f).rng = s.rng := rfl
@[simp] theorem modSlice_stn (i : Nat) (f : Slice → Slice) : (modSlice s i f).stn = s.stn := rfl
@[simp] theorem modSlice_mor (i : Nat) (f : Slice → Slice) : (modSlice s i f).mor = s.mor := rfl
@[simp] theorem modSlice_ports (i : Nat) (f : Slice → Slice) : (modSlice s i f).ports = s.ports := rfl
@[simp] theorem modSlice_pairNet (i : Nat) (f : Slice → Slice) : (modSlice s i f).pairNet = s.pairNet := rfl
@[simp] theorem modSlice_cls (i : Nat) (f : Slice → Slice) : (modSlice s i f).cls = s.cls := rfl
@[simp] theorem modSlice_ptp (i : Nat) (f : Slice → Slice) : (modSlice s i f).ptp = s.ptp := rfl
@[simp] theorem modSlice_lanes (i : Nat) (f : Slice → Slice) : (modSlice s i f).lanes = s.lanes := rfl
@[simp] theorem modSlice_firn (i : Nat) (f : Slice → Slice) : (modSlice s i f).firn = s.firn := rfl
@[simp] theorem modSlice_ltu (i : Nat) (f : Slice → Slice) : (modSlice s i f).ltu = s.ltu := rfl
@[simp] theorem modSlice_liu (i : Nat) (f : Slice → Slice) : (modSlice s i f).liu = s.liu := rfl
@[simp] theorem modSlice_ctxs (i : Nat) (f : Slice → Slice) : (modSlice s i f).ctxs = s.ctxs := rfl
@[simp] theorem modSlice_groups (i : Nat) (f : Slice → Slice) : (modSlice s i f).groups = s.groups := rfl
@[simp] theorem modSlice_pillows (i : Nat) (f : Slice → Slice) : (modSlice s i f).pillows = s.pillows := rfl
@[simp] theorem modSlice_bobbins (i : Nat) (f : Slice → Slice) : (modSlice s i f).bobbins = s.bobbins := rfl
@[simp] theorem modSlice_images (i : Nat) (f : Slice → Slice) : (modSlice s i f).images = s.images := rfl
@[simp] theorem modSlice_hostIf (i : Nat) (f : Slice → Slice) : (modSlice s i f).hostIf = s.hostIf := rfl
@[simp] theorem modSlice_fwl (i : Nat) (f : Slice → Slice) : (modSlice s i f).fwl = s.fwl := rfl
@[simp] theorem modSlice_pool (i : Nat) (f : Slice → Slice) : (modSlice s i f).pool = s.pool := rfl
@[simp] theorem modSlice_pair (i : Nat) (f : Slice → Slice) : (modSlice s i f).pair = s.pair := rfl
@[simp] theorem modSlice_captures (i : Nat) (f : Slice → Slice) : (modSlice s i f).captures = s.captures := rfl
@[simp] theorem modSlice_journal (i : Nat) (f : Slice → Slice) : (modSlice s i f).journal = s.journal := rfl
@[simp] theorem modSlice_durable (i : Nat) (f : Slice → Slice) : (modSlice s i f).durable = s.durable := rfl
@[simp] theorem modSlice_freeCtr (i : Nat) (f : Slice → Slice) : (modSlice s i f).freeCtr = s.freeCtr := rfl
@[simp] theorem modSlice_pending (i : Nat) (f : Slice → Slice) : (modSlice s i f).pending = s.pending := rfl

/-! ### setMring changes hostIf alone -/

@[simp] theorem setMring_pages (n : Nat) (r : RingIx) : (setMring s n r).pages = s.pages := rfl
@[simp] theorem setMring_regs (n : Nat) (r : RingIx) : (setMring s n r).regs = s.regs := rfl
@[simp] theorem setMring_msix (n : Nat) (r : RingIx) : (setMring s n r).msix = s.msix := rfl
@[simp] theorem setMring_mem (n : Nat) (r : RingIx) : (setMring s n r).mem = s.mem := rfl
@[simp] theorem setMring_boot (n : Nat) (r : RingIx) : (setMring s n r).boot = s.boot := rfl
@[simp] theorem setMring_lc (n : Nat) (r : RingIx) : (setMring s n r).lc = s.lc := rfl
@[simp] theorem setMring_pwc (n : Nat) (r : RingIx) : (setMring s n r).pwc = s.pwc := rfl
@[simp] theorem setMring_tamper (n : Nat) (r : RingIx) : (setMring s n r).tamper = s.tamper := rfl
@[simp] theorem setMring_rng (n : Nat) (r : RingIx) : (setMring s n r).rng = s.rng := rfl
@[simp] theorem setMring_stn (n : Nat) (r : RingIx) : (setMring s n r).stn = s.stn := rfl
@[simp] theorem setMring_mor (n : Nat) (r : RingIx) : (setMring s n r).mor = s.mor := rfl
@[simp] theorem setMring_ports (n : Nat) (r : RingIx) : (setMring s n r).ports = s.ports := rfl
@[simp] theorem setMring_pairNet (n : Nat) (r : RingIx) : (setMring s n r).pairNet = s.pairNet := rfl
@[simp] theorem setMring_cls (n : Nat) (r : RingIx) : (setMring s n r).cls = s.cls := rfl
@[simp] theorem setMring_ptp (n : Nat) (r : RingIx) : (setMring s n r).ptp = s.ptp := rfl
@[simp] theorem setMring_lanes (n : Nat) (r : RingIx) : (setMring s n r).lanes = s.lanes := rfl
@[simp] theorem setMring_firn (n : Nat) (r : RingIx) : (setMring s n r).firn = s.firn := rfl
@[simp] theorem setMring_ltu (n : Nat) (r : RingIx) : (setMring s n r).ltu = s.ltu := rfl
@[simp] theorem setMring_liu (n : Nat) (r : RingIx) : (setMring s n r).liu = s.liu := rfl
@[simp] theorem setMring_ctxs (n : Nat) (r : RingIx) : (setMring s n r).ctxs = s.ctxs := rfl
@[simp] theorem setMring_groups (n : Nat) (r : RingIx) : (setMring s n r).groups = s.groups := rfl
@[simp] theorem setMring_pillows (n : Nat) (r : RingIx) : (setMring s n r).pillows = s.pillows := rfl
@[simp] theorem setMring_bobbins (n : Nat) (r : RingIx) : (setMring s n r).bobbins = s.bobbins := rfl
@[simp] theorem setMring_images (n : Nat) (r : RingIx) : (setMring s n r).images = s.images := rfl
@[simp] theorem setMring_slices (n : Nat) (r : RingIx) : (setMring s n r).slices = s.slices := rfl
@[simp] theorem setMring_fwl (n : Nat) (r : RingIx) : (setMring s n r).fwl = s.fwl := rfl
@[simp] theorem setMring_pool (n : Nat) (r : RingIx) : (setMring s n r).pool = s.pool := rfl
@[simp] theorem setMring_pair (n : Nat) (r : RingIx) : (setMring s n r).pair = s.pair := rfl
@[simp] theorem setMring_captures (n : Nat) (r : RingIx) : (setMring s n r).captures = s.captures := rfl
@[simp] theorem setMring_journal (n : Nat) (r : RingIx) : (setMring s n r).journal = s.journal := rfl
@[simp] theorem setMring_durable (n : Nat) (r : RingIx) : (setMring s n r).durable = s.durable := rfl
@[simp] theorem setMring_freeCtr (n : Nat) (r : RingIx) : (setMring s n r).freeCtr = s.freeCtr := rfl
@[simp] theorem setMring_pending (n : Nat) (r : RingIx) : (setMring s n r).pending = s.pending := rfl

/-! ### setLane changes lanes alone -/

@[simp] theorem setLane_pages (n : Nat) (x : LaneSt) : (setLane s n x).pages = s.pages := rfl
@[simp] theorem setLane_regs (n : Nat) (x : LaneSt) : (setLane s n x).regs = s.regs := rfl
@[simp] theorem setLane_msix (n : Nat) (x : LaneSt) : (setLane s n x).msix = s.msix := rfl
@[simp] theorem setLane_mem (n : Nat) (x : LaneSt) : (setLane s n x).mem = s.mem := rfl
@[simp] theorem setLane_boot (n : Nat) (x : LaneSt) : (setLane s n x).boot = s.boot := rfl
@[simp] theorem setLane_lc (n : Nat) (x : LaneSt) : (setLane s n x).lc = s.lc := rfl
@[simp] theorem setLane_pwc (n : Nat) (x : LaneSt) : (setLane s n x).pwc = s.pwc := rfl
@[simp] theorem setLane_tamper (n : Nat) (x : LaneSt) : (setLane s n x).tamper = s.tamper := rfl
@[simp] theorem setLane_rng (n : Nat) (x : LaneSt) : (setLane s n x).rng = s.rng := rfl
@[simp] theorem setLane_stn (n : Nat) (x : LaneSt) : (setLane s n x).stn = s.stn := rfl
@[simp] theorem setLane_mor (n : Nat) (x : LaneSt) : (setLane s n x).mor = s.mor := rfl
@[simp] theorem setLane_ports (n : Nat) (x : LaneSt) : (setLane s n x).ports = s.ports := rfl
@[simp] theorem setLane_pairNet (n : Nat) (x : LaneSt) : (setLane s n x).pairNet = s.pairNet := rfl
@[simp] theorem setLane_cls (n : Nat) (x : LaneSt) : (setLane s n x).cls = s.cls := rfl
@[simp] theorem setLane_ptp (n : Nat) (x : LaneSt) : (setLane s n x).ptp = s.ptp := rfl
@[simp] theorem setLane_firn (n : Nat) (x : LaneSt) : (setLane s n x).firn = s.firn := rfl
@[simp] theorem setLane_ltu (n : Nat) (x : LaneSt) : (setLane s n x).ltu = s.ltu := rfl
@[simp] theorem setLane_liu (n : Nat) (x : LaneSt) : (setLane s n x).liu = s.liu := rfl
@[simp] theorem setLane_ctxs (n : Nat) (x : LaneSt) : (setLane s n x).ctxs = s.ctxs := rfl
@[simp] theorem setLane_groups (n : Nat) (x : LaneSt) : (setLane s n x).groups = s.groups := rfl
@[simp] theorem setLane_pillows (n : Nat) (x : LaneSt) : (setLane s n x).pillows = s.pillows := rfl
@[simp] theorem setLane_bobbins (n : Nat) (x : LaneSt) : (setLane s n x).bobbins = s.bobbins := rfl
@[simp] theorem setLane_images (n : Nat) (x : LaneSt) : (setLane s n x).images = s.images := rfl
@[simp] theorem setLane_slices (n : Nat) (x : LaneSt) : (setLane s n x).slices = s.slices := rfl
@[simp] theorem setLane_hostIf (n : Nat) (x : LaneSt) : (setLane s n x).hostIf = s.hostIf := rfl
@[simp] theorem setLane_fwl (n : Nat) (x : LaneSt) : (setLane s n x).fwl = s.fwl := rfl
@[simp] theorem setLane_pool (n : Nat) (x : LaneSt) : (setLane s n x).pool = s.pool := rfl
@[simp] theorem setLane_pair (n : Nat) (x : LaneSt) : (setLane s n x).pair = s.pair := rfl
@[simp] theorem setLane_captures (n : Nat) (x : LaneSt) : (setLane s n x).captures = s.captures := rfl
@[simp] theorem setLane_journal (n : Nat) (x : LaneSt) : (setLane s n x).journal = s.journal := rfl
@[simp] theorem setLane_durable (n : Nat) (x : LaneSt) : (setLane s n x).durable = s.durable := rfl
@[simp] theorem setLane_freeCtr (n : Nat) (x : LaneSt) : (setLane s n x).freeCtr = s.freeCtr := rfl
@[simp] theorem setLane_pending (n : Nat) (x : LaneSt) : (setLane s n x).pending = s.pending := rfl

/-! ### modLane changes lanes alone -/

@[simp] theorem modLane_pages (n : Nat) (f : LaneSt → LaneSt) : (modLane s n f).pages = s.pages := rfl
@[simp] theorem modLane_regs (n : Nat) (f : LaneSt → LaneSt) : (modLane s n f).regs = s.regs := rfl
@[simp] theorem modLane_msix (n : Nat) (f : LaneSt → LaneSt) : (modLane s n f).msix = s.msix := rfl
@[simp] theorem modLane_mem (n : Nat) (f : LaneSt → LaneSt) : (modLane s n f).mem = s.mem := rfl
@[simp] theorem modLane_boot (n : Nat) (f : LaneSt → LaneSt) : (modLane s n f).boot = s.boot := rfl
@[simp] theorem modLane_lc (n : Nat) (f : LaneSt → LaneSt) : (modLane s n f).lc = s.lc := rfl
@[simp] theorem modLane_pwc (n : Nat) (f : LaneSt → LaneSt) : (modLane s n f).pwc = s.pwc := rfl
@[simp] theorem modLane_tamper (n : Nat) (f : LaneSt → LaneSt) : (modLane s n f).tamper = s.tamper := rfl
@[simp] theorem modLane_rng (n : Nat) (f : LaneSt → LaneSt) : (modLane s n f).rng = s.rng := rfl
@[simp] theorem modLane_stn (n : Nat) (f : LaneSt → LaneSt) : (modLane s n f).stn = s.stn := rfl
@[simp] theorem modLane_mor (n : Nat) (f : LaneSt → LaneSt) : (modLane s n f).mor = s.mor := rfl
@[simp] theorem modLane_ports (n : Nat) (f : LaneSt → LaneSt) : (modLane s n f).ports = s.ports := rfl
@[simp] theorem modLane_pairNet (n : Nat) (f : LaneSt → LaneSt) : (modLane s n f).pairNet = s.pairNet := rfl
@[simp] theorem modLane_cls (n : Nat) (f : LaneSt → LaneSt) : (modLane s n f).cls = s.cls := rfl
@[simp] theorem modLane_ptp (n : Nat) (f : LaneSt → LaneSt) : (modLane s n f).ptp = s.ptp := rfl
@[simp] theorem modLane_firn (n : Nat) (f : LaneSt → LaneSt) : (modLane s n f).firn = s.firn := rfl
@[simp] theorem modLane_ltu (n : Nat) (f : LaneSt → LaneSt) : (modLane s n f).ltu = s.ltu := rfl
@[simp] theorem modLane_liu (n : Nat) (f : LaneSt → LaneSt) : (modLane s n f).liu = s.liu := rfl
@[simp] theorem modLane_ctxs (n : Nat) (f : LaneSt → LaneSt) : (modLane s n f).ctxs = s.ctxs := rfl
@[simp] theorem modLane_groups (n : Nat) (f : LaneSt → LaneSt) : (modLane s n f).groups = s.groups := rfl
@[simp] theorem modLane_pillows (n : Nat) (f : LaneSt → LaneSt) : (modLane s n f).pillows = s.pillows := rfl
@[simp] theorem modLane_bobbins (n : Nat) (f : LaneSt → LaneSt) : (modLane s n f).bobbins = s.bobbins := rfl
@[simp] theorem modLane_images (n : Nat) (f : LaneSt → LaneSt) : (modLane s n f).images = s.images := rfl
@[simp] theorem modLane_slices (n : Nat) (f : LaneSt → LaneSt) : (modLane s n f).slices = s.slices := rfl
@[simp] theorem modLane_hostIf (n : Nat) (f : LaneSt → LaneSt) : (modLane s n f).hostIf = s.hostIf := rfl
@[simp] theorem modLane_fwl (n : Nat) (f : LaneSt → LaneSt) : (modLane s n f).fwl = s.fwl := rfl
@[simp] theorem modLane_pool (n : Nat) (f : LaneSt → LaneSt) : (modLane s n f).pool = s.pool := rfl
@[simp] theorem modLane_pair (n : Nat) (f : LaneSt → LaneSt) : (modLane s n f).pair = s.pair := rfl
@[simp] theorem modLane_captures (n : Nat) (f : LaneSt → LaneSt) : (modLane s n f).captures = s.captures := rfl
@[simp] theorem modLane_journal (n : Nat) (f : LaneSt → LaneSt) : (modLane s n f).journal = s.journal := rfl
@[simp] theorem modLane_durable (n : Nat) (f : LaneSt → LaneSt) : (modLane s n f).durable = s.durable := rfl
@[simp] theorem modLane_freeCtr (n : Nat) (f : LaneSt → LaneSt) : (modLane s n f).freeCtr = s.freeCtr := rfl
@[simp] theorem modLane_pending (n : Nat) (f : LaneSt → LaneSt) : (modLane s n f).pending = s.pending := rfl

/-! ### setBlob changes firn alone -/

@[simp] theorem setBlob_pages (i : Nat) (b : Option Blob) : (setBlob s i b).pages = s.pages := rfl
@[simp] theorem setBlob_regs (i : Nat) (b : Option Blob) : (setBlob s i b).regs = s.regs := rfl
@[simp] theorem setBlob_msix (i : Nat) (b : Option Blob) : (setBlob s i b).msix = s.msix := rfl
@[simp] theorem setBlob_mem (i : Nat) (b : Option Blob) : (setBlob s i b).mem = s.mem := rfl
@[simp] theorem setBlob_boot (i : Nat) (b : Option Blob) : (setBlob s i b).boot = s.boot := rfl
@[simp] theorem setBlob_lc (i : Nat) (b : Option Blob) : (setBlob s i b).lc = s.lc := rfl
@[simp] theorem setBlob_pwc (i : Nat) (b : Option Blob) : (setBlob s i b).pwc = s.pwc := rfl
@[simp] theorem setBlob_tamper (i : Nat) (b : Option Blob) : (setBlob s i b).tamper = s.tamper := rfl
@[simp] theorem setBlob_rng (i : Nat) (b : Option Blob) : (setBlob s i b).rng = s.rng := rfl
@[simp] theorem setBlob_stn (i : Nat) (b : Option Blob) : (setBlob s i b).stn = s.stn := rfl
@[simp] theorem setBlob_mor (i : Nat) (b : Option Blob) : (setBlob s i b).mor = s.mor := rfl
@[simp] theorem setBlob_ports (i : Nat) (b : Option Blob) : (setBlob s i b).ports = s.ports := rfl
@[simp] theorem setBlob_pairNet (i : Nat) (b : Option Blob) : (setBlob s i b).pairNet = s.pairNet := rfl
@[simp] theorem setBlob_cls (i : Nat) (b : Option Blob) : (setBlob s i b).cls = s.cls := rfl
@[simp] theorem setBlob_ptp (i : Nat) (b : Option Blob) : (setBlob s i b).ptp = s.ptp := rfl
@[simp] theorem setBlob_lanes (i : Nat) (b : Option Blob) : (setBlob s i b).lanes = s.lanes := rfl
@[simp] theorem setBlob_ltu (i : Nat) (b : Option Blob) : (setBlob s i b).ltu = s.ltu := rfl
@[simp] theorem setBlob_liu (i : Nat) (b : Option Blob) : (setBlob s i b).liu = s.liu := rfl
@[simp] theorem setBlob_ctxs (i : Nat) (b : Option Blob) : (setBlob s i b).ctxs = s.ctxs := rfl
@[simp] theorem setBlob_groups (i : Nat) (b : Option Blob) : (setBlob s i b).groups = s.groups := rfl
@[simp] theorem setBlob_pillows (i : Nat) (b : Option Blob) : (setBlob s i b).pillows = s.pillows := rfl
@[simp] theorem setBlob_bobbins (i : Nat) (b : Option Blob) : (setBlob s i b).bobbins = s.bobbins := rfl
@[simp] theorem setBlob_images (i : Nat) (b : Option Blob) : (setBlob s i b).images = s.images := rfl
@[simp] theorem setBlob_slices (i : Nat) (b : Option Blob) : (setBlob s i b).slices = s.slices := rfl
@[simp] theorem setBlob_hostIf (i : Nat) (b : Option Blob) : (setBlob s i b).hostIf = s.hostIf := rfl
@[simp] theorem setBlob_fwl (i : Nat) (b : Option Blob) : (setBlob s i b).fwl = s.fwl := rfl
@[simp] theorem setBlob_pool (i : Nat) (b : Option Blob) : (setBlob s i b).pool = s.pool := rfl
@[simp] theorem setBlob_pair (i : Nat) (b : Option Blob) : (setBlob s i b).pair = s.pair := rfl
@[simp] theorem setBlob_captures (i : Nat) (b : Option Blob) : (setBlob s i b).captures = s.captures := rfl
@[simp] theorem setBlob_journal (i : Nat) (b : Option Blob) : (setBlob s i b).journal = s.journal := rfl
@[simp] theorem setBlob_durable (i : Nat) (b : Option Blob) : (setBlob s i b).durable = s.durable := rfl
@[simp] theorem setBlob_freeCtr (i : Nat) (b : Option Blob) : (setBlob s i b).freeCtr = s.freeCtr := rfl
@[simp] theorem setBlob_pending (i : Nat) (b : Option Blob) : (setBlob s i b).pending = s.pending := rfl

/-! ### setSlot changes firn alone -/

@[simp] theorem setSlot_pages (n : Nat) (x : Option SlotSt) : (setSlot s n x).pages = s.pages := rfl
@[simp] theorem setSlot_regs (n : Nat) (x : Option SlotSt) : (setSlot s n x).regs = s.regs := rfl
@[simp] theorem setSlot_msix (n : Nat) (x : Option SlotSt) : (setSlot s n x).msix = s.msix := rfl
@[simp] theorem setSlot_mem (n : Nat) (x : Option SlotSt) : (setSlot s n x).mem = s.mem := rfl
@[simp] theorem setSlot_boot (n : Nat) (x : Option SlotSt) : (setSlot s n x).boot = s.boot := rfl
@[simp] theorem setSlot_lc (n : Nat) (x : Option SlotSt) : (setSlot s n x).lc = s.lc := rfl
@[simp] theorem setSlot_pwc (n : Nat) (x : Option SlotSt) : (setSlot s n x).pwc = s.pwc := rfl
@[simp] theorem setSlot_tamper (n : Nat) (x : Option SlotSt) : (setSlot s n x).tamper = s.tamper := rfl
@[simp] theorem setSlot_rng (n : Nat) (x : Option SlotSt) : (setSlot s n x).rng = s.rng := rfl
@[simp] theorem setSlot_stn (n : Nat) (x : Option SlotSt) : (setSlot s n x).stn = s.stn := rfl
@[simp] theorem setSlot_mor (n : Nat) (x : Option SlotSt) : (setSlot s n x).mor = s.mor := rfl
@[simp] theorem setSlot_ports (n : Nat) (x : Option SlotSt) : (setSlot s n x).ports = s.ports := rfl
@[simp] theorem setSlot_pairNet (n : Nat) (x : Option SlotSt) : (setSlot s n x).pairNet = s.pairNet := rfl
@[simp] theorem setSlot_cls (n : Nat) (x : Option SlotSt) : (setSlot s n x).cls = s.cls := rfl
@[simp] theorem setSlot_ptp (n : Nat) (x : Option SlotSt) : (setSlot s n x).ptp = s.ptp := rfl
@[simp] theorem setSlot_lanes (n : Nat) (x : Option SlotSt) : (setSlot s n x).lanes = s.lanes := rfl
@[simp] theorem setSlot_ltu (n : Nat) (x : Option SlotSt) : (setSlot s n x).ltu = s.ltu := rfl
@[simp] theorem setSlot_liu (n : Nat) (x : Option SlotSt) : (setSlot s n x).liu = s.liu := rfl
@[simp] theorem setSlot_ctxs (n : Nat) (x : Option SlotSt) : (setSlot s n x).ctxs = s.ctxs := rfl
@[simp] theorem setSlot_groups (n : Nat) (x : Option SlotSt) : (setSlot s n x).groups = s.groups := rfl
@[simp] theorem setSlot_pillows (n : Nat) (x : Option SlotSt) : (setSlot s n x).pillows = s.pillows := rfl
@[simp] theorem setSlot_bobbins (n : Nat) (x : Option SlotSt) : (setSlot s n x).bobbins = s.bobbins := rfl
@[simp] theorem setSlot_images (n : Nat) (x : Option SlotSt) : (setSlot s n x).images = s.images := rfl
@[simp] theorem setSlot_slices (n : Nat) (x : Option SlotSt) : (setSlot s n x).slices = s.slices := rfl
@[simp] theorem setSlot_hostIf (n : Nat) (x : Option SlotSt) : (setSlot s n x).hostIf = s.hostIf := rfl
@[simp] theorem setSlot_fwl (n : Nat) (x : Option SlotSt) : (setSlot s n x).fwl = s.fwl := rfl
@[simp] theorem setSlot_pool (n : Nat) (x : Option SlotSt) : (setSlot s n x).pool = s.pool := rfl
@[simp] theorem setSlot_pair (n : Nat) (x : Option SlotSt) : (setSlot s n x).pair = s.pair := rfl
@[simp] theorem setSlot_captures (n : Nat) (x : Option SlotSt) : (setSlot s n x).captures = s.captures := rfl
@[simp] theorem setSlot_journal (n : Nat) (x : Option SlotSt) : (setSlot s n x).journal = s.journal := rfl
@[simp] theorem setSlot_durable (n : Nat) (x : Option SlotSt) : (setSlot s n x).durable = s.durable := rfl
@[simp] theorem setSlot_freeCtr (n : Nat) (x : Option SlotSt) : (setSlot s n x).freeCtr = s.freeCtr := rfl
@[simp] theorem setSlot_pending (n : Nat) (x : Option SlotSt) : (setSlot s n x).pending = s.pending := rfl

/-! ### setBucket changes mor alone -/

@[simp] theorem setBucket_pages (c : Nat) (b : Bucket) : (setBucket s c b).pages = s.pages := rfl
@[simp] theorem setBucket_regs (c : Nat) (b : Bucket) : (setBucket s c b).regs = s.regs := rfl
@[simp] theorem setBucket_msix (c : Nat) (b : Bucket) : (setBucket s c b).msix = s.msix := rfl
@[simp] theorem setBucket_mem (c : Nat) (b : Bucket) : (setBucket s c b).mem = s.mem := rfl
@[simp] theorem setBucket_boot (c : Nat) (b : Bucket) : (setBucket s c b).boot = s.boot := rfl
@[simp] theorem setBucket_lc (c : Nat) (b : Bucket) : (setBucket s c b).lc = s.lc := rfl
@[simp] theorem setBucket_pwc (c : Nat) (b : Bucket) : (setBucket s c b).pwc = s.pwc := rfl
@[simp] theorem setBucket_tamper (c : Nat) (b : Bucket) : (setBucket s c b).tamper = s.tamper := rfl
@[simp] theorem setBucket_rng (c : Nat) (b : Bucket) : (setBucket s c b).rng = s.rng := rfl
@[simp] theorem setBucket_stn (c : Nat) (b : Bucket) : (setBucket s c b).stn = s.stn := rfl
@[simp] theorem setBucket_ports (c : Nat) (b : Bucket) : (setBucket s c b).ports = s.ports := rfl
@[simp] theorem setBucket_pairNet (c : Nat) (b : Bucket) : (setBucket s c b).pairNet = s.pairNet := rfl
@[simp] theorem setBucket_cls (c : Nat) (b : Bucket) : (setBucket s c b).cls = s.cls := rfl
@[simp] theorem setBucket_ptp (c : Nat) (b : Bucket) : (setBucket s c b).ptp = s.ptp := rfl
@[simp] theorem setBucket_lanes (c : Nat) (b : Bucket) : (setBucket s c b).lanes = s.lanes := rfl
@[simp] theorem setBucket_firn (c : Nat) (b : Bucket) : (setBucket s c b).firn = s.firn := rfl
@[simp] theorem setBucket_ltu (c : Nat) (b : Bucket) : (setBucket s c b).ltu = s.ltu := rfl
@[simp] theorem setBucket_liu (c : Nat) (b : Bucket) : (setBucket s c b).liu = s.liu := rfl
@[simp] theorem setBucket_ctxs (c : Nat) (b : Bucket) : (setBucket s c b).ctxs = s.ctxs := rfl
@[simp] theorem setBucket_groups (c : Nat) (b : Bucket) : (setBucket s c b).groups = s.groups := rfl
@[simp] theorem setBucket_pillows (c : Nat) (b : Bucket) : (setBucket s c b).pillows = s.pillows := rfl
@[simp] theorem setBucket_bobbins (c : Nat) (b : Bucket) : (setBucket s c b).bobbins = s.bobbins := rfl
@[simp] theorem setBucket_images (c : Nat) (b : Bucket) : (setBucket s c b).images = s.images := rfl
@[simp] theorem setBucket_slices (c : Nat) (b : Bucket) : (setBucket s c b).slices = s.slices := rfl
@[simp] theorem setBucket_hostIf (c : Nat) (b : Bucket) : (setBucket s c b).hostIf = s.hostIf := rfl
@[simp] theorem setBucket_fwl (c : Nat) (b : Bucket) : (setBucket s c b).fwl = s.fwl := rfl
@[simp] theorem setBucket_pool (c : Nat) (b : Bucket) : (setBucket s c b).pool = s.pool := rfl
@[simp] theorem setBucket_pair (c : Nat) (b : Bucket) : (setBucket s c b).pair = s.pair := rfl
@[simp] theorem setBucket_captures (c : Nat) (b : Bucket) : (setBucket s c b).captures = s.captures := rfl
@[simp] theorem setBucket_journal (c : Nat) (b : Bucket) : (setBucket s c b).journal = s.journal := rfl
@[simp] theorem setBucket_durable (c : Nat) (b : Bucket) : (setBucket s c b).durable = s.durable := rfl
@[simp] theorem setBucket_freeCtr (c : Nat) (b : Bucket) : (setBucket s c b).freeCtr = s.freeCtr := rfl
@[simp] theorem setBucket_pending (c : Nat) (b : Bucket) : (setBucket s c b).pending = s.pending := rfl

/-! ### setCapt changes captures alone -/

@[simp] theorem setCapt_pages (p : Nat) (x : CaptSt) : (setCapt s p x).pages = s.pages := rfl
@[simp] theorem setCapt_regs (p : Nat) (x : CaptSt) : (setCapt s p x).regs = s.regs := rfl
@[simp] theorem setCapt_msix (p : Nat) (x : CaptSt) : (setCapt s p x).msix = s.msix := rfl
@[simp] theorem setCapt_mem (p : Nat) (x : CaptSt) : (setCapt s p x).mem = s.mem := rfl
@[simp] theorem setCapt_boot (p : Nat) (x : CaptSt) : (setCapt s p x).boot = s.boot := rfl
@[simp] theorem setCapt_lc (p : Nat) (x : CaptSt) : (setCapt s p x).lc = s.lc := rfl
@[simp] theorem setCapt_pwc (p : Nat) (x : CaptSt) : (setCapt s p x).pwc = s.pwc := rfl
@[simp] theorem setCapt_tamper (p : Nat) (x : CaptSt) : (setCapt s p x).tamper = s.tamper := rfl
@[simp] theorem setCapt_rng (p : Nat) (x : CaptSt) : (setCapt s p x).rng = s.rng := rfl
@[simp] theorem setCapt_stn (p : Nat) (x : CaptSt) : (setCapt s p x).stn = s.stn := rfl
@[simp] theorem setCapt_mor (p : Nat) (x : CaptSt) : (setCapt s p x).mor = s.mor := rfl
@[simp] theorem setCapt_ports (p : Nat) (x : CaptSt) : (setCapt s p x).ports = s.ports := rfl
@[simp] theorem setCapt_pairNet (p : Nat) (x : CaptSt) : (setCapt s p x).pairNet = s.pairNet := rfl
@[simp] theorem setCapt_cls (p : Nat) (x : CaptSt) : (setCapt s p x).cls = s.cls := rfl
@[simp] theorem setCapt_ptp (p : Nat) (x : CaptSt) : (setCapt s p x).ptp = s.ptp := rfl
@[simp] theorem setCapt_lanes (p : Nat) (x : CaptSt) : (setCapt s p x).lanes = s.lanes := rfl
@[simp] theorem setCapt_firn (p : Nat) (x : CaptSt) : (setCapt s p x).firn = s.firn := rfl
@[simp] theorem setCapt_ltu (p : Nat) (x : CaptSt) : (setCapt s p x).ltu = s.ltu := rfl
@[simp] theorem setCapt_liu (p : Nat) (x : CaptSt) : (setCapt s p x).liu = s.liu := rfl
@[simp] theorem setCapt_ctxs (p : Nat) (x : CaptSt) : (setCapt s p x).ctxs = s.ctxs := rfl
@[simp] theorem setCapt_groups (p : Nat) (x : CaptSt) : (setCapt s p x).groups = s.groups := rfl
@[simp] theorem setCapt_pillows (p : Nat) (x : CaptSt) : (setCapt s p x).pillows = s.pillows := rfl
@[simp] theorem setCapt_bobbins (p : Nat) (x : CaptSt) : (setCapt s p x).bobbins = s.bobbins := rfl
@[simp] theorem setCapt_images (p : Nat) (x : CaptSt) : (setCapt s p x).images = s.images := rfl
@[simp] theorem setCapt_slices (p : Nat) (x : CaptSt) : (setCapt s p x).slices = s.slices := rfl
@[simp] theorem setCapt_hostIf (p : Nat) (x : CaptSt) : (setCapt s p x).hostIf = s.hostIf := rfl
@[simp] theorem setCapt_fwl (p : Nat) (x : CaptSt) : (setCapt s p x).fwl = s.fwl := rfl
@[simp] theorem setCapt_pool (p : Nat) (x : CaptSt) : (setCapt s p x).pool = s.pool := rfl
@[simp] theorem setCapt_pair (p : Nat) (x : CaptSt) : (setCapt s p x).pair = s.pair := rfl
@[simp] theorem setCapt_journal (p : Nat) (x : CaptSt) : (setCapt s p x).journal = s.journal := rfl
@[simp] theorem setCapt_durable (p : Nat) (x : CaptSt) : (setCapt s p x).durable = s.durable := rfl
@[simp] theorem setCapt_freeCtr (p : Nat) (x : CaptSt) : (setCapt s p x).freeCtr = s.freeCtr := rfl
@[simp] theorem setCapt_pending (p : Nat) (x : CaptSt) : (setCapt s p x).pending = s.pending := rfl

/-! ### setSource changes rng alone -/

@[simp] theorem setSource_pages (i : Nat) (x : RngSource) : (setSource s i x).pages = s.pages := rfl
@[simp] theorem setSource_regs (i : Nat) (x : RngSource) : (setSource s i x).regs = s.regs := rfl
@[simp] theorem setSource_msix (i : Nat) (x : RngSource) : (setSource s i x).msix = s.msix := rfl
@[simp] theorem setSource_mem (i : Nat) (x : RngSource) : (setSource s i x).mem = s.mem := rfl
@[simp] theorem setSource_boot (i : Nat) (x : RngSource) : (setSource s i x).boot = s.boot := rfl
@[simp] theorem setSource_lc (i : Nat) (x : RngSource) : (setSource s i x).lc = s.lc := rfl
@[simp] theorem setSource_pwc (i : Nat) (x : RngSource) : (setSource s i x).pwc = s.pwc := rfl
@[simp] theorem setSource_tamper (i : Nat) (x : RngSource) : (setSource s i x).tamper = s.tamper := rfl
@[simp] theorem setSource_stn (i : Nat) (x : RngSource) : (setSource s i x).stn = s.stn := rfl
@[simp] theorem setSource_mor (i : Nat) (x : RngSource) : (setSource s i x).mor = s.mor := rfl
@[simp] theorem setSource_ports (i : Nat) (x : RngSource) : (setSource s i x).ports = s.ports := rfl
@[simp] theorem setSource_pairNet (i : Nat) (x : RngSource) : (setSource s i x).pairNet = s.pairNet := rfl
@[simp] theorem setSource_cls (i : Nat) (x : RngSource) : (setSource s i x).cls = s.cls := rfl
@[simp] theorem setSource_ptp (i : Nat) (x : RngSource) : (setSource s i x).ptp = s.ptp := rfl
@[simp] theorem setSource_lanes (i : Nat) (x : RngSource) : (setSource s i x).lanes = s.lanes := rfl
@[simp] theorem setSource_firn (i : Nat) (x : RngSource) : (setSource s i x).firn = s.firn := rfl
@[simp] theorem setSource_ltu (i : Nat) (x : RngSource) : (setSource s i x).ltu = s.ltu := rfl
@[simp] theorem setSource_liu (i : Nat) (x : RngSource) : (setSource s i x).liu = s.liu := rfl
@[simp] theorem setSource_ctxs (i : Nat) (x : RngSource) : (setSource s i x).ctxs = s.ctxs := rfl
@[simp] theorem setSource_groups (i : Nat) (x : RngSource) : (setSource s i x).groups = s.groups := rfl
@[simp] theorem setSource_pillows (i : Nat) (x : RngSource) : (setSource s i x).pillows = s.pillows := rfl
@[simp] theorem setSource_bobbins (i : Nat) (x : RngSource) : (setSource s i x).bobbins = s.bobbins := rfl
@[simp] theorem setSource_images (i : Nat) (x : RngSource) : (setSource s i x).images = s.images := rfl
@[simp] theorem setSource_slices (i : Nat) (x : RngSource) : (setSource s i x).slices = s.slices := rfl
@[simp] theorem setSource_hostIf (i : Nat) (x : RngSource) : (setSource s i x).hostIf = s.hostIf := rfl
@[simp] theorem setSource_fwl (i : Nat) (x : RngSource) : (setSource s i x).fwl = s.fwl := rfl
@[simp] theorem setSource_pool (i : Nat) (x : RngSource) : (setSource s i x).pool = s.pool := rfl
@[simp] theorem setSource_pair (i : Nat) (x : RngSource) : (setSource s i x).pair = s.pair := rfl
@[simp] theorem setSource_captures (i : Nat) (x : RngSource) : (setSource s i x).captures = s.captures := rfl
@[simp] theorem setSource_journal (i : Nat) (x : RngSource) : (setSource s i x).journal = s.journal := rfl
@[simp] theorem setSource_durable (i : Nat) (x : RngSource) : (setSource s i x).durable = s.durable := rfl
@[simp] theorem setSource_freeCtr (i : Nat) (x : RngSource) : (setSource s i x).freeCtr = s.freeCtr := rfl
@[simp] theorem setSource_pending (i : Nat) (x : RngSource) : (setSource s i x).pending = s.pending := rfl

/-! ### Reading what another update wrote -/

@[simp] theorem getReg_setPage (p : Nat) (g : PageSt) (k : Nat) : getReg (setPage s p g) k = getReg s k := rfl
@[simp] theorem getReg_modPage (p : Nat) (f : PageSt → PageSt) (k : Nat) : getReg (modPage s p f) k = getReg s k := rfl
@[simp] theorem getReg_sendMsix (v : Nat) (k : Nat) : getReg (sendMsix s v) k = getReg s k := rfl
@[simp] theorem getReg_writeByte (a : Nat) (b : Byte) (k : Nat) : getReg (writeByte s a b) k = getReg s k := rfl
@[simp] theorem getReg_setCtx (i : Nat) (c : Option Ctx) (k : Nat) : getReg (setCtx s i c) k = getReg s k := rfl
@[simp] theorem getReg_setFrame (h : Nat) (f : Option FrameRec) (k : Nat) : getReg (setFrame s h f) k = getReg s k := rfl
@[simp] theorem getReg_setBob (b : Nat) (x : Bobbin) (k : Nat) : getReg (setBob s b x) k = getReg s k := rfl
@[simp] theorem getReg_modBob (b : Nat) (f : Bobbin → Bobbin) (k : Nat) : getReg (modBob s b f) k = getReg s k := rfl
@[simp] theorem getReg_setPil (p : Nat) (x : Pillow) (k : Nat) : getReg (setPil s p x) k = getReg s k := rfl
@[simp] theorem getReg_modPil (p : Nat) (f : Pillow → Pillow) (k : Nat) : getReg (modPil s p f) k = getReg s k := rfl
@[simp] theorem getReg_setPort (n : Nat) (x : PortSt) (k : Nat) : getReg (setPort s n x) k = getReg s k := rfl
@[simp] theorem getReg_modPort (n : Nat) (f : PortSt → PortSt) (k : Nat) : getReg (modPort s n f) k = getReg s k := rfl
@[simp] theorem getReg_setGroup (g : Nat) (x : Option Group) (k : Nat) : getReg (setGroup s g x) k = getReg s k := rfl
@[simp] theorem getReg_setPairNet (k : Nat) (x : PairNet) (k : Nat) : getReg (setPairNet s k x) k = getReg s k := rfl
@[simp] theorem getReg_setSlice (i : Nat) (x : Slice) (k : Nat) : getReg (setSlice s i x) k = getReg s k := rfl
@[simp] theorem getReg_modSlice (i : Nat) (f : Slice → Slice) (k : Nat) : getReg (modSlice s i f) k = getReg s k := rfl
@[simp] theorem getReg_setMring (n : Nat) (r : RingIx) (k : Nat) : getReg (setMring s n r) k = getReg s k := rfl
@[simp] theorem getReg_setLane (n : Nat) (x : LaneSt) (k : Nat) : getReg (setLane s n x) k = getReg s k := rfl
@[simp] theorem getReg_modLane (n : Nat) (f : LaneSt → LaneSt) (k : Nat) : getReg (modLane s n f) k = getReg s k := rfl
@[simp] theorem getReg_setBlob (i : Nat) (b : Option Blob) (k : Nat) : getReg (setBlob s i b) k = getReg s k := rfl
@[simp] theorem getReg_setSlot (n : Nat) (x : Option SlotSt) (k : Nat) : getReg (setSlot s n x) k = getReg s k := rfl
@[simp] theorem getReg_setBucket (c : Nat) (b : Bucket) (k : Nat) : getReg (setBucket s c b) k = getReg s k := rfl
@[simp] theorem getReg_setCapt (p : Nat) (x : CaptSt) (k : Nat) : getReg (setCapt s p x) k = getReg s k := rfl
@[simp] theorem getReg_setSource (i : Nat) (x : RngSource) (k : Nat) : getReg (setSource s i x) k = getReg s k := rfl
@[simp] theorem getPage_setReg (a : Nat) (v : Word) (k : Nat) : getPage (setReg s a v) k = getPage s k := rfl
@[simp] theorem getPage_incReg (a : Nat) (k : Nat) : getPage (incReg s a) k = getPage s k := rfl
@[simp] theorem getPage_addReg (a n : Nat) (k : Nat) : getPage (addReg s a n) k = getPage s k := rfl
@[simp] theorem getPage_sendMsix (v : Nat) (k : Nat) : getPage (sendMsix s v) k = getPage s k := rfl
@[simp] theorem getPage_writeByte (a : Nat) (b : Byte) (k : Nat) : getPage (writeByte s a b) k = getPage s k := rfl
@[simp] theorem getPage_setCtx (i : Nat) (c : Option Ctx) (k : Nat) : getPage (setCtx s i c) k = getPage s k := rfl
@[simp] theorem getPage_setFrame (h : Nat) (f : Option FrameRec) (k : Nat) : getPage (setFrame s h f) k = getPage s k := rfl
@[simp] theorem getPage_setBob (b : Nat) (x : Bobbin) (k : Nat) : getPage (setBob s b x) k = getPage s k := rfl
@[simp] theorem getPage_modBob (b : Nat) (f : Bobbin → Bobbin) (k : Nat) : getPage (modBob s b f) k = getPage s k := rfl
@[simp] theorem getPage_setPil (p : Nat) (x : Pillow) (k : Nat) : getPage (setPil s p x) k = getPage s k := rfl
@[simp] theorem getPage_modPil (p : Nat) (f : Pillow → Pillow) (k : Nat) : getPage (modPil s p f) k = getPage s k := rfl
@[simp] theorem getPage_setPort (n : Nat) (x : PortSt) (k : Nat) : getPage (setPort s n x) k = getPage s k := rfl
@[simp] theorem getPage_modPort (n : Nat) (f : PortSt → PortSt) (k : Nat) : getPage (modPort s n f) k = getPage s k := rfl
@[simp] theorem getPage_setGroup (g : Nat) (x : Option Group) (k : Nat) : getPage (setGroup s g x) k = getPage s k := rfl
@[simp] theorem getPage_setPairNet (k : Nat) (x : PairNet) (k : Nat) : getPage (setPairNet s k x) k = getPage s k := rfl
@[simp] theorem getPage_setSlice (i : Nat) (x : Slice) (k : Nat) : getPage (setSlice s i x) k = getPage s k := rfl
@[simp] theorem getPage_modSlice (i : Nat) (f : Slice → Slice) (k : Nat) : getPage (modSlice s i f) k = getPage s k := rfl
@[simp] theorem getPage_setMring (n : Nat) (r : RingIx) (k : Nat) : getPage (setMring s n r) k = getPage s k := rfl
@[simp] theorem getPage_setLane (n : Nat) (x : LaneSt) (k : Nat) : getPage (setLane s n x) k = getPage s k := rfl
@[simp] theorem getPage_modLane (n : Nat) (f : LaneSt → LaneSt) (k : Nat) : getPage (modLane s n f) k = getPage s k := rfl
@[simp] theorem getPage_setBlob (i : Nat) (b : Option Blob) (k : Nat) : getPage (setBlob s i b) k = getPage s k := rfl
@[simp] theorem getPage_setSlot (n : Nat) (x : Option SlotSt) (k : Nat) : getPage (setSlot s n x) k = getPage s k := rfl
@[simp] theorem getPage_setBucket (c : Nat) (b : Bucket) (k : Nat) : getPage (setBucket s c b) k = getPage s k := rfl
@[simp] theorem getPage_setCapt (p : Nat) (x : CaptSt) (k : Nat) : getPage (setCapt s p x) k = getPage s k := rfl
@[simp] theorem getPage_setSource (i : Nat) (x : RngSource) (k : Nat) : getPage (setSource s i x) k = getPage s k := rfl
@[simp] theorem readByte_setReg (a : Nat) (v : Word) (k : Nat) : readByte (setReg s a v) k = readByte s k := rfl
@[simp] theorem readByte_incReg (a : Nat) (k : Nat) : readByte (incReg s a) k = readByte s k := rfl
@[simp] theorem readByte_addReg (a n : Nat) (k : Nat) : readByte (addReg s a n) k = readByte s k := rfl
@[simp] theorem readByte_setPage (p : Nat) (g : PageSt) (k : Nat) : readByte (setPage s p g) k = readByte s k := rfl
@[simp] theorem readByte_modPage (p : Nat) (f : PageSt → PageSt) (k : Nat) : readByte (modPage s p f) k = readByte s k := rfl
@[simp] theorem readByte_sendMsix (v : Nat) (k : Nat) : readByte (sendMsix s v) k = readByte s k := rfl
@[simp] theorem readByte_setCtx (i : Nat) (c : Option Ctx) (k : Nat) : readByte (setCtx s i c) k = readByte s k := rfl
@[simp] theorem readByte_setFrame (h : Nat) (f : Option FrameRec) (k : Nat) : readByte (setFrame s h f) k = readByte s k := rfl
@[simp] theorem readByte_setBob (b : Nat) (x : Bobbin) (k : Nat) : readByte (setBob s b x) k = readByte s k := rfl
@[simp] theorem readByte_modBob (b : Nat) (f : Bobbin → Bobbin) (k : Nat) : readByte (modBob s b f) k = readByte s k := rfl
@[simp] theorem readByte_setPil (p : Nat) (x : Pillow) (k : Nat) : readByte (setPil s p x) k = readByte s k := rfl
@[simp] theorem readByte_modPil (p : Nat) (f : Pillow → Pillow) (k : Nat) : readByte (modPil s p f) k = readByte s k := rfl
@[simp] theorem readByte_setPort (n : Nat) (x : PortSt) (k : Nat) : readByte (setPort s n x) k = readByte s k := rfl
@[simp] theorem readByte_modPort (n : Nat) (f : PortSt → PortSt) (k : Nat) : readByte (modPort s n f) k = readByte s k := rfl
@[simp] theorem readByte_setGroup (g : Nat) (x : Option Group) (k : Nat) : readByte (setGroup s g x) k = readByte s k := rfl
@[simp] theorem readByte_setPairNet (k : Nat) (x : PairNet) (k : Nat) : readByte (setPairNet s k x) k = readByte s k := rfl
@[simp] theorem readByte_setSlice (i : Nat) (x : Slice) (k : Nat) : readByte (setSlice s i x) k = readByte s k := rfl
@[simp] theorem readByte_modSlice (i : Nat) (f : Slice → Slice) (k : Nat) : readByte (modSlice s i f) k = readByte s k := rfl
@[simp] theorem readByte_setMring (n : Nat) (r : RingIx) (k : Nat) : readByte (setMring s n r) k = readByte s k := rfl
@[simp] theorem readByte_setLane (n : Nat) (x : LaneSt) (k : Nat) : readByte (setLane s n x) k = readByte s k := rfl
@[simp] theorem readByte_modLane (n : Nat) (f : LaneSt → LaneSt) (k : Nat) : readByte (modLane s n f) k = readByte s k := rfl
@[simp] theorem readByte_setBlob (i : Nat) (b : Option Blob) (k : Nat) : readByte (setBlob s i b) k = readByte s k := rfl
@[simp] theorem readByte_setSlot (n : Nat) (x : Option SlotSt) (k : Nat) : readByte (setSlot s n x) k = readByte s k := rfl
@[simp] theorem readByte_setBucket (c : Nat) (b : Bucket) (k : Nat) : readByte (setBucket s c b) k = readByte s k := rfl
@[simp] theorem readByte_setCapt (p : Nat) (x : CaptSt) (k : Nat) : readByte (setCapt s p x) k = readByte s k := rfl
@[simp] theorem readByte_setSource (i : Nat) (x : RngSource) (k : Nat) : readByte (setSource s i x) k = readByte s k := rfl
@[simp] theorem getCtx_setReg (a : Nat) (v : Word) (k : Nat) : getCtx (setReg s a v) k = getCtx s k := rfl
@[simp] theorem getCtx_incReg (a : Nat) (k : Nat) : getCtx (incReg s a) k = getCtx s k := rfl
@[simp] theorem getCtx_addReg (a n : Nat) (k : Nat) : getCtx (addReg s a n) k = getCtx s k := rfl
@[simp] theorem getCtx_setPage (p : Nat) (g : PageSt) (k : Nat) : getCtx (setPage s p g) k = getCtx s k := rfl
@[simp] theorem getCtx_modPage (p : Nat) (f : PageSt → PageSt) (k : Nat) : getCtx (modPage s p f) k = getCtx s k := rfl
@[simp] theorem getCtx_sendMsix (v : Nat) (k : Nat) : getCtx (sendMsix s v) k = getCtx s k := rfl
@[simp] theorem getCtx_writeByte (a : Nat) (b : Byte) (k : Nat) : getCtx (writeByte s a b) k = getCtx s k := rfl
@[simp] theorem getCtx_setFrame (h : Nat) (f : Option FrameRec) (k : Nat) : getCtx (setFrame s h f) k = getCtx s k := rfl
@[simp] theorem getCtx_setBob (b : Nat) (x : Bobbin) (k : Nat) : getCtx (setBob s b x) k = getCtx s k := rfl
@[simp] theorem getCtx_modBob (b : Nat) (f : Bobbin → Bobbin) (k : Nat) : getCtx (modBob s b f) k = getCtx s k := rfl
@[simp] theorem getCtx_setPil (p : Nat) (x : Pillow) (k : Nat) : getCtx (setPil s p x) k = getCtx s k := rfl
@[simp] theorem getCtx_modPil (p : Nat) (f : Pillow → Pillow) (k : Nat) : getCtx (modPil s p f) k = getCtx s k := rfl
@[simp] theorem getCtx_setPort (n : Nat) (x : PortSt) (k : Nat) : getCtx (setPort s n x) k = getCtx s k := rfl
@[simp] theorem getCtx_modPort (n : Nat) (f : PortSt → PortSt) (k : Nat) : getCtx (modPort s n f) k = getCtx s k := rfl
@[simp] theorem getCtx_setGroup (g : Nat) (x : Option Group) (k : Nat) : getCtx (setGroup s g x) k = getCtx s k := rfl
@[simp] theorem getCtx_setPairNet (k : Nat) (x : PairNet) (k : Nat) : getCtx (setPairNet s k x) k = getCtx s k := rfl
@[simp] theorem getCtx_setSlice (i : Nat) (x : Slice) (k : Nat) : getCtx (setSlice s i x) k = getCtx s k := rfl
@[simp] theorem getCtx_modSlice (i : Nat) (f : Slice → Slice) (k : Nat) : getCtx (modSlice s i f) k = getCtx s k := rfl
@[simp] theorem getCtx_setMring (n : Nat) (r : RingIx) (k : Nat) : getCtx (setMring s n r) k = getCtx s k := rfl
@[simp] theorem getCtx_setLane (n : Nat) (x : LaneSt) (k : Nat) : getCtx (setLane s n x) k = getCtx s k := rfl
@[simp] theorem getCtx_modLane (n : Nat) (f : LaneSt → LaneSt) (k : Nat) : getCtx (modLane s n f) k = getCtx s k := rfl
@[simp] theorem getCtx_setBlob (i : Nat) (b : Option Blob) (k : Nat) : getCtx (setBlob s i b) k = getCtx s k := rfl
@[simp] theorem getCtx_setSlot (n : Nat) (x : Option SlotSt) (k : Nat) : getCtx (setSlot s n x) k = getCtx s k := rfl
@[simp] theorem getCtx_setBucket (c : Nat) (b : Bucket) (k : Nat) : getCtx (setBucket s c b) k = getCtx s k := rfl
@[simp] theorem getCtx_setCapt (p : Nat) (x : CaptSt) (k : Nat) : getCtx (setCapt s p x) k = getCtx s k := rfl
@[simp] theorem getCtx_setSource (i : Nat) (x : RngSource) (k : Nat) : getCtx (setSource s i x) k = getCtx s k := rfl
@[simp] theorem getFrame_setReg (a : Nat) (v : Word) (k : Nat) : getFrame (setReg s a v) k = getFrame s k := rfl
@[simp] theorem getFrame_incReg (a : Nat) (k : Nat) : getFrame (incReg s a) k = getFrame s k := rfl
@[simp] theorem getFrame_addReg (a n : Nat) (k : Nat) : getFrame (addReg s a n) k = getFrame s k := rfl
@[simp] theorem getFrame_setPage (p : Nat) (g : PageSt) (k : Nat) : getFrame (setPage s p g) k = getFrame s k := rfl
@[simp] theorem getFrame_modPage (p : Nat) (f : PageSt → PageSt) (k : Nat) : getFrame (modPage s p f) k = getFrame s k := rfl
@[simp] theorem getFrame_sendMsix (v : Nat) (k : Nat) : getFrame (sendMsix s v) k = getFrame s k := rfl
@[simp] theorem getFrame_writeByte (a : Nat) (b : Byte) (k : Nat) : getFrame (writeByte s a b) k = getFrame s k := rfl
@[simp] theorem getFrame_setCtx (i : Nat) (c : Option Ctx) (k : Nat) : getFrame (setCtx s i c) k = getFrame s k := rfl
@[simp] theorem getFrame_setBob (b : Nat) (x : Bobbin) (k : Nat) : getFrame (setBob s b x) k = getFrame s k := rfl
@[simp] theorem getFrame_modBob (b : Nat) (f : Bobbin → Bobbin) (k : Nat) : getFrame (modBob s b f) k = getFrame s k := rfl
@[simp] theorem getFrame_setPil (p : Nat) (x : Pillow) (k : Nat) : getFrame (setPil s p x) k = getFrame s k := rfl
@[simp] theorem getFrame_modPil (p : Nat) (f : Pillow → Pillow) (k : Nat) : getFrame (modPil s p f) k = getFrame s k := rfl
@[simp] theorem getFrame_setPort (n : Nat) (x : PortSt) (k : Nat) : getFrame (setPort s n x) k = getFrame s k := rfl
@[simp] theorem getFrame_modPort (n : Nat) (f : PortSt → PortSt) (k : Nat) : getFrame (modPort s n f) k = getFrame s k := rfl
@[simp] theorem getFrame_setGroup (g : Nat) (x : Option Group) (k : Nat) : getFrame (setGroup s g x) k = getFrame s k := rfl
@[simp] theorem getFrame_setPairNet (k : Nat) (x : PairNet) (k : Nat) : getFrame (setPairNet s k x) k = getFrame s k := rfl
@[simp] theorem getFrame_setSlice (i : Nat) (x : Slice) (k : Nat) : getFrame (setSlice s i x) k = getFrame s k := rfl
@[simp] theorem getFrame_modSlice (i : Nat) (f : Slice → Slice) (k : Nat) : getFrame (modSlice s i f) k = getFrame s k := rfl
@[simp] theorem getFrame_setMring (n : Nat) (r : RingIx) (k : Nat) : getFrame (setMring s n r) k = getFrame s k := rfl
@[simp] theorem getFrame_setLane (n : Nat) (x : LaneSt) (k : Nat) : getFrame (setLane s n x) k = getFrame s k := rfl
@[simp] theorem getFrame_modLane (n : Nat) (f : LaneSt → LaneSt) (k : Nat) : getFrame (modLane s n f) k = getFrame s k := rfl
@[simp] theorem getFrame_setBlob (i : Nat) (b : Option Blob) (k : Nat) : getFrame (setBlob s i b) k = getFrame s k := rfl
@[simp] theorem getFrame_setSlot (n : Nat) (x : Option SlotSt) (k : Nat) : getFrame (setSlot s n x) k = getFrame s k := rfl
@[simp] theorem getFrame_setBucket (c : Nat) (b : Bucket) (k : Nat) : getFrame (setBucket s c b) k = getFrame s k := rfl
@[simp] theorem getFrame_setCapt (p : Nat) (x : CaptSt) (k : Nat) : getFrame (setCapt s p x) k = getFrame s k := rfl
@[simp] theorem getFrame_setSource (i : Nat) (x : RngSource) (k : Nat) : getFrame (setSource s i x) k = getFrame s k := rfl
@[simp] theorem getBob_setReg (a : Nat) (v : Word) (k : Nat) : getBob (setReg s a v) k = getBob s k := rfl
@[simp] theorem getBob_incReg (a : Nat) (k : Nat) : getBob (incReg s a) k = getBob s k := rfl
@[simp] theorem getBob_addReg (a n : Nat) (k : Nat) : getBob (addReg s a n) k = getBob s k := rfl
@[simp] theorem getBob_setPage (p : Nat) (g : PageSt) (k : Nat) : getBob (setPage s p g) k = getBob s k := rfl
@[simp] theorem getBob_modPage (p : Nat) (f : PageSt → PageSt) (k : Nat) : getBob (modPage s p f) k = getBob s k := rfl
@[simp] theorem getBob_sendMsix (v : Nat) (k : Nat) : getBob (sendMsix s v) k = getBob s k := rfl
@[simp] theorem getBob_writeByte (a : Nat) (b : Byte) (k : Nat) : getBob (writeByte s a b) k = getBob s k := rfl
@[simp] theorem getBob_setCtx (i : Nat) (c : Option Ctx) (k : Nat) : getBob (setCtx s i c) k = getBob s k := rfl
@[simp] theorem getBob_setFrame (h : Nat) (f : Option FrameRec) (k : Nat) : getBob (setFrame s h f) k = getBob s k := rfl
@[simp] theorem getBob_setPil (p : Nat) (x : Pillow) (k : Nat) : getBob (setPil s p x) k = getBob s k := rfl
@[simp] theorem getBob_modPil (p : Nat) (f : Pillow → Pillow) (k : Nat) : getBob (modPil s p f) k = getBob s k := rfl
@[simp] theorem getBob_setPort (n : Nat) (x : PortSt) (k : Nat) : getBob (setPort s n x) k = getBob s k := rfl
@[simp] theorem getBob_modPort (n : Nat) (f : PortSt → PortSt) (k : Nat) : getBob (modPort s n f) k = getBob s k := rfl
@[simp] theorem getBob_setGroup (g : Nat) (x : Option Group) (k : Nat) : getBob (setGroup s g x) k = getBob s k := rfl
@[simp] theorem getBob_setPairNet (k : Nat) (x : PairNet) (k : Nat) : getBob (setPairNet s k x) k = getBob s k := rfl
@[simp] theorem getBob_setSlice (i : Nat) (x : Slice) (k : Nat) : getBob (setSlice s i x) k = getBob s k := rfl
@[simp] theorem getBob_modSlice (i : Nat) (f : Slice → Slice) (k : Nat) : getBob (modSlice s i f) k = getBob s k := rfl
@[simp] theorem getBob_setMring (n : Nat) (r : RingIx) (k : Nat) : getBob (setMring s n r) k = getBob s k := rfl
@[simp] theorem getBob_setLane (n : Nat) (x : LaneSt) (k : Nat) : getBob (setLane s n x) k = getBob s k := rfl
@[simp] theorem getBob_modLane (n : Nat) (f : LaneSt → LaneSt) (k : Nat) : getBob (modLane s n f) k = getBob s k := rfl
@[simp] theorem getBob_setBlob (i : Nat) (b : Option Blob) (k : Nat) : getBob (setBlob s i b) k = getBob s k := rfl
@[simp] theorem getBob_setSlot (n : Nat) (x : Option SlotSt) (k : Nat) : getBob (setSlot s n x) k = getBob s k := rfl
@[simp] theorem getBob_setBucket (c : Nat) (b : Bucket) (k : Nat) : getBob (setBucket s c b) k = getBob s k := rfl
@[simp] theorem getBob_setCapt (p : Nat) (x : CaptSt) (k : Nat) : getBob (setCapt s p x) k = getBob s k := rfl
@[simp] theorem getBob_setSource (i : Nat) (x : RngSource) (k : Nat) : getBob (setSource s i x) k = getBob s k := rfl
@[simp] theorem getPil_setReg (a : Nat) (v : Word) (k : Nat) : getPil (setReg s a v) k = getPil s k := rfl
@[simp] theorem getPil_incReg (a : Nat) (k : Nat) : getPil (incReg s a) k = getPil s k := rfl
@[simp] theorem getPil_addReg (a n : Nat) (k : Nat) : getPil (addReg s a n) k = getPil s k := rfl
@[simp] theorem getPil_setPage (p : Nat) (g : PageSt) (k : Nat) : getPil (setPage s p g) k = getPil s k := rfl
@[simp] theorem getPil_modPage (p : Nat) (f : PageSt → PageSt) (k : Nat) : getPil (modPage s p f) k = getPil s k := rfl
@[simp] theorem getPil_sendMsix (v : Nat) (k : Nat) : getPil (sendMsix s v) k = getPil s k := rfl
@[simp] theorem getPil_writeByte (a : Nat) (b : Byte) (k : Nat) : getPil (writeByte s a b) k = getPil s k := rfl
@[simp] theorem getPil_setCtx (i : Nat) (c : Option Ctx) (k : Nat) : getPil (setCtx s i c) k = getPil s k := rfl
@[simp] theorem getPil_setFrame (h : Nat) (f : Option FrameRec) (k : Nat) : getPil (setFrame s h f) k = getPil s k := rfl
@[simp] theorem getPil_setBob (b : Nat) (x : Bobbin) (k : Nat) : getPil (setBob s b x) k = getPil s k := rfl
@[simp] theorem getPil_modBob (b : Nat) (f : Bobbin → Bobbin) (k : Nat) : getPil (modBob s b f) k = getPil s k := rfl
@[simp] theorem getPil_setPort (n : Nat) (x : PortSt) (k : Nat) : getPil (setPort s n x) k = getPil s k := rfl
@[simp] theorem getPil_modPort (n : Nat) (f : PortSt → PortSt) (k : Nat) : getPil (modPort s n f) k = getPil s k := rfl
@[simp] theorem getPil_setGroup (g : Nat) (x : Option Group) (k : Nat) : getPil (setGroup s g x) k = getPil s k := rfl
@[simp] theorem getPil_setPairNet (k : Nat) (x : PairNet) (k : Nat) : getPil (setPairNet s k x) k = getPil s k := rfl
@[simp] theorem getPil_setSlice (i : Nat) (x : Slice) (k : Nat) : getPil (setSlice s i x) k = getPil s k := rfl
@[simp] theorem getPil_modSlice (i : Nat) (f : Slice → Slice) (k : Nat) : getPil (modSlice s i f) k = getPil s k := rfl
@[simp] theorem getPil_setMring (n : Nat) (r : RingIx) (k : Nat) : getPil (setMring s n r) k = getPil s k := rfl
@[simp] theorem getPil_setLane (n : Nat) (x : LaneSt) (k : Nat) : getPil (setLane s n x) k = getPil s k := rfl
@[simp] theorem getPil_modLane (n : Nat) (f : LaneSt → LaneSt) (k : Nat) : getPil (modLane s n f) k = getPil s k := rfl
@[simp] theorem getPil_setBlob (i : Nat) (b : Option Blob) (k : Nat) : getPil (setBlob s i b) k = getPil s k := rfl
@[simp] theorem getPil_setSlot (n : Nat) (x : Option SlotSt) (k : Nat) : getPil (setSlot s n x) k = getPil s k := rfl
@[simp] theorem getPil_setBucket (c : Nat) (b : Bucket) (k : Nat) : getPil (setBucket s c b) k = getPil s k := rfl
@[simp] theorem getPil_setCapt (p : Nat) (x : CaptSt) (k : Nat) : getPil (setCapt s p x) k = getPil s k := rfl
@[simp] theorem getPil_setSource (i : Nat) (x : RngSource) (k : Nat) : getPil (setSource s i x) k = getPil s k := rfl
@[simp] theorem getPort_setReg (a : Nat) (v : Word) (k : Nat) : getPort (setReg s a v) k = getPort s k := rfl
@[simp] theorem getPort_incReg (a : Nat) (k : Nat) : getPort (incReg s a) k = getPort s k := rfl
@[simp] theorem getPort_addReg (a n : Nat) (k : Nat) : getPort (addReg s a n) k = getPort s k := rfl
@[simp] theorem getPort_setPage (p : Nat) (g : PageSt) (k : Nat) : getPort (setPage s p g) k = getPort s k := rfl
@[simp] theorem getPort_modPage (p : Nat) (f : PageSt → PageSt) (k : Nat) : getPort (modPage s p f) k = getPort s k := rfl
@[simp] theorem getPort_sendMsix (v : Nat) (k : Nat) : getPort (sendMsix s v) k = getPort s k := rfl
@[simp] theorem getPort_writeByte (a : Nat) (b : Byte) (k : Nat) : getPort (writeByte s a b) k = getPort s k := rfl
@[simp] theorem getPort_setCtx (i : Nat) (c : Option Ctx) (k : Nat) : getPort (setCtx s i c) k = getPort s k := rfl
@[simp] theorem getPort_setFrame (h : Nat) (f : Option FrameRec) (k : Nat) : getPort (setFrame s h f) k = getPort s k := rfl
@[simp] theorem getPort_setBob (b : Nat) (x : Bobbin) (k : Nat) : getPort (setBob s b x) k = getPort s k := rfl
@[simp] theorem getPort_modBob (b : Nat) (f : Bobbin → Bobbin) (k : Nat) : getPort (modBob s b f) k = getPort s k := rfl
@[simp] theorem getPort_setPil (p : Nat) (x : Pillow) (k : Nat) : getPort (setPil s p x) k = getPort s k := rfl
@[simp] theorem getPort_modPil (p : Nat) (f : Pillow → Pillow) (k : Nat) : getPort (modPil s p f) k = getPort s k := rfl
@[simp] theorem getPort_setGroup (g : Nat) (x : Option Group) (k : Nat) : getPort (setGroup s g x) k = getPort s k := rfl
@[simp] theorem getPort_setPairNet (k : Nat) (x : PairNet) (k : Nat) : getPort (setPairNet s k x) k = getPort s k := rfl
@[simp] theorem getPort_setSlice (i : Nat) (x : Slice) (k : Nat) : getPort (setSlice s i x) k = getPort s k := rfl
@[simp] theorem getPort_modSlice (i : Nat) (f : Slice → Slice) (k : Nat) : getPort (modSlice s i f) k = getPort s k := rfl
@[simp] theorem getPort_setMring (n : Nat) (r : RingIx) (k : Nat) : getPort (setMring s n r) k = getPort s k := rfl
@[simp] theorem getPort_setLane (n : Nat) (x : LaneSt) (k : Nat) : getPort (setLane s n x) k = getPort s k := rfl
@[simp] theorem getPort_modLane (n : Nat) (f : LaneSt → LaneSt) (k : Nat) : getPort (modLane s n f) k = getPort s k := rfl
@[simp] theorem getPort_setBlob (i : Nat) (b : Option Blob) (k : Nat) : getPort (setBlob s i b) k = getPort s k := rfl
@[simp] theorem getPort_setSlot (n : Nat) (x : Option SlotSt) (k : Nat) : getPort (setSlot s n x) k = getPort s k := rfl
@[simp] theorem getPort_setBucket (c : Nat) (b : Bucket) (k : Nat) : getPort (setBucket s c b) k = getPort s k := rfl
@[simp] theorem getPort_setCapt (p : Nat) (x : CaptSt) (k : Nat) : getPort (setCapt s p x) k = getPort s k := rfl
@[simp] theorem getPort_setSource (i : Nat) (x : RngSource) (k : Nat) : getPort (setSource s i x) k = getPort s k := rfl
@[simp] theorem getGroup_setReg (a : Nat) (v : Word) (k : Nat) : getGroup (setReg s a v) k = getGroup s k := rfl
@[simp] theorem getGroup_incReg (a : Nat) (k : Nat) : getGroup (incReg s a) k = getGroup s k := rfl
@[simp] theorem getGroup_addReg (a n : Nat) (k : Nat) : getGroup (addReg s a n) k = getGroup s k := rfl
@[simp] theorem getGroup_setPage (p : Nat) (g : PageSt) (k : Nat) : getGroup (setPage s p g) k = getGroup s k := rfl
@[simp] theorem getGroup_modPage (p : Nat) (f : PageSt → PageSt) (k : Nat) : getGroup (modPage s p f) k = getGroup s k := rfl
@[simp] theorem getGroup_sendMsix (v : Nat) (k : Nat) : getGroup (sendMsix s v) k = getGroup s k := rfl
@[simp] theorem getGroup_writeByte (a : Nat) (b : Byte) (k : Nat) : getGroup (writeByte s a b) k = getGroup s k := rfl
@[simp] theorem getGroup_setCtx (i : Nat) (c : Option Ctx) (k : Nat) : getGroup (setCtx s i c) k = getGroup s k := rfl
@[simp] theorem getGroup_setFrame (h : Nat) (f : Option FrameRec) (k : Nat) : getGroup (setFrame s h f) k = getGroup s k := rfl
@[simp] theorem getGroup_setBob (b : Nat) (x : Bobbin) (k : Nat) : getGroup (setBob s b x) k = getGroup s k := rfl
@[simp] theorem getGroup_modBob (b : Nat) (f : Bobbin → Bobbin) (k : Nat) : getGroup (modBob s b f) k = getGroup s k := rfl
@[simp] theorem getGroup_setPil (p : Nat) (x : Pillow) (k : Nat) : getGroup (setPil s p x) k = getGroup s k := rfl
@[simp] theorem getGroup_modPil (p : Nat) (f : Pillow → Pillow) (k : Nat) : getGroup (modPil s p f) k = getGroup s k := rfl
@[simp] theorem getGroup_setPort (n : Nat) (x : PortSt) (k : Nat) : getGroup (setPort s n x) k = getGroup s k := rfl
@[simp] theorem getGroup_modPort (n : Nat) (f : PortSt → PortSt) (k : Nat) : getGroup (modPort s n f) k = getGroup s k := rfl
@[simp] theorem getGroup_setPairNet (k : Nat) (x : PairNet) (k : Nat) : getGroup (setPairNet s k x) k = getGroup s k := rfl
@[simp] theorem getGroup_setSlice (i : Nat) (x : Slice) (k : Nat) : getGroup (setSlice s i x) k = getGroup s k := rfl
@[simp] theorem getGroup_modSlice (i : Nat) (f : Slice → Slice) (k : Nat) : getGroup (modSlice s i f) k = getGroup s k := rfl
@[simp] theorem getGroup_setMring (n : Nat) (r : RingIx) (k : Nat) : getGroup (setMring s n r) k = getGroup s k := rfl
@[simp] theorem getGroup_setLane (n : Nat) (x : LaneSt) (k : Nat) : getGroup (setLane s n x) k = getGroup s k := rfl
@[simp] theorem getGroup_modLane (n : Nat) (f : LaneSt → LaneSt) (k : Nat) : getGroup (modLane s n f) k = getGroup s k := rfl
@[simp] theorem getGroup_setBlob (i : Nat) (b : Option Blob) (k : Nat) : getGroup (setBlob s i b) k = getGroup s k := rfl
@[simp] theorem getGroup_setSlot (n : Nat) (x : Option SlotSt) (k : Nat) : getGroup (setSlot s n x) k = getGroup s k := rfl
@[simp] theorem getGroup_setBucket (c : Nat) (b : Bucket) (k : Nat) : getGroup (setBucket s c b) k = getGroup s k := rfl
@[simp] theorem getGroup_setCapt (p : Nat) (x : CaptSt) (k : Nat) : getGroup (setCapt s p x) k = getGroup s k := rfl
@[simp] theorem getGroup_setSource (i : Nat) (x : RngSource) (k : Nat) : getGroup (setSource s i x) k = getGroup s k := rfl
@[simp] theorem getPairNet_setReg (a : Nat) (v : Word) (k : Nat) : getPairNet (setReg s a v) k = getPairNet s k := rfl
@[simp] theorem getPairNet_incReg (a : Nat) (k : Nat) : getPairNet (incReg s a) k = getPairNet s k := rfl
@[simp] theorem getPairNet_addReg (a n : Nat) (k : Nat) : getPairNet (addReg s a n) k = getPairNet s k := rfl
@[simp] theorem getPairNet_setPage (p : Nat) (g : PageSt) (k : Nat) : getPairNet (setPage s p g) k = getPairNet s k := rfl
@[simp] theorem getPairNet_modPage (p : Nat) (f : PageSt → PageSt) (k : Nat) : getPairNet (modPage s p f) k = getPairNet s k := rfl
@[simp] theorem getPairNet_sendMsix (v : Nat) (k : Nat) : getPairNet (sendMsix s v) k = getPairNet s k := rfl
@[simp] theorem getPairNet_writeByte (a : Nat) (b : Byte) (k : Nat) : getPairNet (writeByte s a b) k = getPairNet s k := rfl
@[simp] theorem getPairNet_setCtx (i : Nat) (c : Option Ctx) (k : Nat) : getPairNet (setCtx s i c) k = getPairNet s k := rfl
@[simp] theorem getPairNet_setFrame (h : Nat) (f : Option FrameRec) (k : Nat) : getPairNet (setFrame s h f) k = getPairNet s k := rfl
@[simp] theorem getPairNet_setBob (b : Nat) (x : Bobbin) (k : Nat) : getPairNet (setBob s b x) k = getPairNet s k := rfl
@[simp] theorem getPairNet_modBob (b : Nat) (f : Bobbin → Bobbin) (k : Nat) : getPairNet (modBob s b f) k = getPairNet s k := rfl
@[simp] theorem getPairNet_setPil (p : Nat) (x : Pillow) (k : Nat) : getPairNet (setPil s p x) k = getPairNet s k := rfl
@[simp] theorem getPairNet_modPil (p : Nat) (f : Pillow → Pillow) (k : Nat) : getPairNet (modPil s p f) k = getPairNet s k := rfl
@[simp] theorem getPairNet_setPort (n : Nat) (x : PortSt) (k : Nat) : getPairNet (setPort s n x) k = getPairNet s k := rfl
@[simp] theorem getPairNet_modPort (n : Nat) (f : PortSt → PortSt) (k : Nat) : getPairNet (modPort s n f) k = getPairNet s k := rfl
@[simp] theorem getPairNet_setGroup (g : Nat) (x : Option Group) (k : Nat) : getPairNet (setGroup s g x) k = getPairNet s k := rfl
@[simp] theorem getPairNet_setSlice (i : Nat) (x : Slice) (k : Nat) : getPairNet (setSlice s i x) k = getPairNet s k := rfl
@[simp] theorem getPairNet_modSlice (i : Nat) (f : Slice → Slice) (k : Nat) : getPairNet (modSlice s i f) k = getPairNet s k := rfl
@[simp] theorem getPairNet_setMring (n : Nat) (r : RingIx) (k : Nat) : getPairNet (setMring s n r) k = getPairNet s k := rfl
@[simp] theorem getPairNet_setLane (n : Nat) (x : LaneSt) (k : Nat) : getPairNet (setLane s n x) k = getPairNet s k := rfl
@[simp] theorem getPairNet_modLane (n : Nat) (f : LaneSt → LaneSt) (k : Nat) : getPairNet (modLane s n f) k = getPairNet s k := rfl
@[simp] theorem getPairNet_setBlob (i : Nat) (b : Option Blob) (k : Nat) : getPairNet (setBlob s i b) k = getPairNet s k := rfl
@[simp] theorem getPairNet_setSlot (n : Nat) (x : Option SlotSt) (k : Nat) : getPairNet (setSlot s n x) k = getPairNet s k := rfl
@[simp] theorem getPairNet_setBucket (c : Nat) (b : Bucket) (k : Nat) : getPairNet (setBucket s c b) k = getPairNet s k := rfl
@[simp] theorem getPairNet_setCapt (p : Nat) (x : CaptSt) (k : Nat) : getPairNet (setCapt s p x) k = getPairNet s k := rfl
@[simp] theorem getPairNet_setSource (i : Nat) (x : RngSource) (k : Nat) : getPairNet (setSource s i x) k = getPairNet s k := rfl
@[simp] theorem getSlice_setReg (a : Nat) (v : Word) (k : Nat) : getSlice (setReg s a v) k = getSlice s k := rfl
@[simp] theorem getSlice_incReg (a : Nat) (k : Nat) : getSlice (incReg s a) k = getSlice s k := rfl
@[simp] theorem getSlice_addReg (a n : Nat) (k : Nat) : getSlice (addReg s a n) k = getSlice s k := rfl
@[simp] theorem getSlice_setPage (p : Nat) (g : PageSt) (k : Nat) : getSlice (setPage s p g) k = getSlice s k := rfl
@[simp] theorem getSlice_modPage (p : Nat) (f : PageSt → PageSt) (k : Nat) : getSlice (modPage s p f) k = getSlice s k := rfl
@[simp] theorem getSlice_sendMsix (v : Nat) (k : Nat) : getSlice (sendMsix s v) k = getSlice s k := rfl
@[simp] theorem getSlice_writeByte (a : Nat) (b : Byte) (k : Nat) : getSlice (writeByte s a b) k = getSlice s k := rfl
@[simp] theorem getSlice_setCtx (i : Nat) (c : Option Ctx) (k : Nat) : getSlice (setCtx s i c) k = getSlice s k := rfl
@[simp] theorem getSlice_setFrame (h : Nat) (f : Option FrameRec) (k : Nat) : getSlice (setFrame s h f) k = getSlice s k := rfl
@[simp] theorem getSlice_setBob (b : Nat) (x : Bobbin) (k : Nat) : getSlice (setBob s b x) k = getSlice s k := rfl
@[simp] theorem getSlice_modBob (b : Nat) (f : Bobbin → Bobbin) (k : Nat) : getSlice (modBob s b f) k = getSlice s k := rfl
@[simp] theorem getSlice_setPil (p : Nat) (x : Pillow) (k : Nat) : getSlice (setPil s p x) k = getSlice s k := rfl
@[simp] theorem getSlice_modPil (p : Nat) (f : Pillow → Pillow) (k : Nat) : getSlice (modPil s p f) k = getSlice s k := rfl
@[simp] theorem getSlice_setPort (n : Nat) (x : PortSt) (k : Nat) : getSlice (setPort s n x) k = getSlice s k := rfl
@[simp] theorem getSlice_modPort (n : Nat) (f : PortSt → PortSt) (k : Nat) : getSlice (modPort s n f) k = getSlice s k := rfl
@[simp] theorem getSlice_setGroup (g : Nat) (x : Option Group) (k : Nat) : getSlice (setGroup s g x) k = getSlice s k := rfl
@[simp] theorem getSlice_setPairNet (k : Nat) (x : PairNet) (k : Nat) : getSlice (setPairNet s k x) k = getSlice s k := rfl
@[simp] theorem getSlice_setMring (n : Nat) (r : RingIx) (k : Nat) : getSlice (setMring s n r) k = getSlice s k := rfl
@[simp] theorem getSlice_setLane (n : Nat) (x : LaneSt) (k : Nat) : getSlice (setLane s n x) k = getSlice s k := rfl
@[simp] theorem getSlice_modLane (n : Nat) (f : LaneSt → LaneSt) (k : Nat) : getSlice (modLane s n f) k = getSlice s k := rfl
@[simp] theorem getSlice_setBlob (i : Nat) (b : Option Blob) (k : Nat) : getSlice (setBlob s i b) k = getSlice s k := rfl
@[simp] theorem getSlice_setSlot (n : Nat) (x : Option SlotSt) (k : Nat) : getSlice (setSlot s n x) k = getSlice s k := rfl
@[simp] theorem getSlice_setBucket (c : Nat) (b : Bucket) (k : Nat) : getSlice (setBucket s c b) k = getSlice s k := rfl
@[simp] theorem getSlice_setCapt (p : Nat) (x : CaptSt) (k : Nat) : getSlice (setCapt s p x) k = getSlice s k := rfl
@[simp] theorem getSlice_setSource (i : Nat) (x : RngSource) (k : Nat) : getSlice (setSource s i x) k = getSlice s k := rfl
@[simp] theorem getMring_setReg (a : Nat) (v : Word) (k : Nat) : getMring (setReg s a v) k = getMring s k := rfl
@[simp] theorem getMring_incReg (a : Nat) (k : Nat) : getMring (incReg s a) k = getMring s k := rfl
@[simp] theorem getMring_addReg (a n : Nat) (k : Nat) : getMring (addReg s a n) k = getMring s k := rfl
@[simp] theorem getMring_setPage (p : Nat) (g : PageSt) (k : Nat) : getMring (setPage s p g) k = getMring s k := rfl
@[simp] theorem getMring_modPage (p : Nat) (f : PageSt → PageSt) (k : Nat) : getMring (modPage s p f) k = getMring s k := rfl
@[simp] theorem getMring_sendMsix (v : Nat) (k : Nat) : getMring (sendMsix s v) k = getMring s k := rfl
@[simp] theorem getMring_writeByte (a : Nat) (b : Byte) (k : Nat) : getMring (writeByte s a b) k = getMring s k := rfl
@[simp] theorem getMring_setCtx (i : Nat) (c : Option Ctx) (k : Nat) : getMring (setCtx s i c) k = getMring s k := rfl
@[simp] theorem getMring_setFrame (h : Nat) (f : Option FrameRec) (k : Nat) : getMring (setFrame s h f) k = getMring s k := rfl
@[simp] theorem getMring_setBob (b : Nat) (x : Bobbin) (k : Nat) : getMring (setBob s b x) k = getMring s k := rfl
@[simp] theorem getMring_modBob (b : Nat) (f : Bobbin → Bobbin) (k : Nat) : getMring (modBob s b f) k = getMring s k := rfl
@[simp] theorem getMring_setPil (p : Nat) (x : Pillow) (k : Nat) : getMring (setPil s p x) k = getMring s k := rfl
@[simp] theorem getMring_modPil (p : Nat) (f : Pillow → Pillow) (k : Nat) : getMring (modPil s p f) k = getMring s k := rfl
@[simp] theorem getMring_setPort (n : Nat) (x : PortSt) (k : Nat) : getMring (setPort s n x) k = getMring s k := rfl
@[simp] theorem getMring_modPort (n : Nat) (f : PortSt → PortSt) (k : Nat) : getMring (modPort s n f) k = getMring s k := rfl
@[simp] theorem getMring_setGroup (g : Nat) (x : Option Group) (k : Nat) : getMring (setGroup s g x) k = getMring s k := rfl
@[simp] theorem getMring_setPairNet (k : Nat) (x : PairNet) (k : Nat) : getMring (setPairNet s k x) k = getMring s k := rfl
@[simp] theorem getMring_setSlice (i : Nat) (x : Slice) (k : Nat) : getMring (setSlice s i x) k = getMring s k := rfl
@[simp] theorem getMring_modSlice (i : Nat) (f : Slice → Slice) (k : Nat) : getMring (modSlice s i f) k = getMring s k := rfl
@[simp] theorem getMring_setLane (n : Nat) (x : LaneSt) (k : Nat) : getMring (setLane s n x) k = getMring s k := rfl
@[simp] theorem getMring_modLane (n : Nat) (f : LaneSt → LaneSt) (k : Nat) : getMring (modLane s n f) k = getMring s k := rfl
@[simp] theorem getMring_setBlob (i : Nat) (b : Option Blob) (k : Nat) : getMring (setBlob s i b) k = getMring s k := rfl
@[simp] theorem getMring_setSlot (n : Nat) (x : Option SlotSt) (k : Nat) : getMring (setSlot s n x) k = getMring s k := rfl
@[simp] theorem getMring_setBucket (c : Nat) (b : Bucket) (k : Nat) : getMring (setBucket s c b) k = getMring s k := rfl
@[simp] theorem getMring_setCapt (p : Nat) (x : CaptSt) (k : Nat) : getMring (setCapt s p x) k = getMring s k := rfl
@[simp] theorem getMring_setSource (i : Nat) (x : RngSource) (k : Nat) : getMring (setSource s i x) k = getMring s k := rfl
@[simp] theorem getLane_setReg (a : Nat) (v : Word) (k : Nat) : getLane (setReg s a v) k = getLane s k := rfl
@[simp] theorem getLane_incReg (a : Nat) (k : Nat) : getLane (incReg s a) k = getLane s k := rfl
@[simp] theorem getLane_addReg (a n : Nat) (k : Nat) : getLane (addReg s a n) k = getLane s k := rfl
@[simp] theorem getLane_setPage (p : Nat) (g : PageSt) (k : Nat) : getLane (setPage s p g) k = getLane s k := rfl
@[simp] theorem getLane_modPage (p : Nat) (f : PageSt → PageSt) (k : Nat) : getLane (modPage s p f) k = getLane s k := rfl
@[simp] theorem getLane_sendMsix (v : Nat) (k : Nat) : getLane (sendMsix s v) k = getLane s k := rfl
@[simp] theorem getLane_writeByte (a : Nat) (b : Byte) (k : Nat) : getLane (writeByte s a b) k = getLane s k := rfl
@[simp] theorem getLane_setCtx (i : Nat) (c : Option Ctx) (k : Nat) : getLane (setCtx s i c) k = getLane s k := rfl
@[simp] theorem getLane_setFrame (h : Nat) (f : Option FrameRec) (k : Nat) : getLane (setFrame s h f) k = getLane s k := rfl
@[simp] theorem getLane_setBob (b : Nat) (x : Bobbin) (k : Nat) : getLane (setBob s b x) k = getLane s k := rfl
@[simp] theorem getLane_modBob (b : Nat) (f : Bobbin → Bobbin) (k : Nat) : getLane (modBob s b f) k = getLane s k := rfl
@[simp] theorem getLane_setPil (p : Nat) (x : Pillow) (k : Nat) : getLane (setPil s p x) k = getLane s k := rfl
@[simp] theorem getLane_modPil (p : Nat) (f : Pillow → Pillow) (k : Nat) : getLane (modPil s p f) k = getLane s k := rfl
@[simp] theorem getLane_setPort (n : Nat) (x : PortSt) (k : Nat) : getLane (setPort s n x) k = getLane s k := rfl
@[simp] theorem getLane_modPort (n : Nat) (f : PortSt → PortSt) (k : Nat) : getLane (modPort s n f) k = getLane s k := rfl
@[simp] theorem getLane_setGroup (g : Nat) (x : Option Group) (k : Nat) : getLane (setGroup s g x) k = getLane s k := rfl
@[simp] theorem getLane_setPairNet (k : Nat) (x : PairNet) (k : Nat) : getLane (setPairNet s k x) k = getLane s k := rfl
@[simp] theorem getLane_setSlice (i : Nat) (x : Slice) (k : Nat) : getLane (setSlice s i x) k = getLane s k := rfl
@[simp] theorem getLane_modSlice (i : Nat) (f : Slice → Slice) (k : Nat) : getLane (modSlice s i f) k = getLane s k := rfl
@[simp] theorem getLane_setMring (n : Nat) (r : RingIx) (k : Nat) : getLane (setMring s n r) k = getLane s k := rfl
@[simp] theorem getLane_setBlob (i : Nat) (b : Option Blob) (k : Nat) : getLane (setBlob s i b) k = getLane s k := rfl
@[simp] theorem getLane_setSlot (n : Nat) (x : Option SlotSt) (k : Nat) : getLane (setSlot s n x) k = getLane s k := rfl
@[simp] theorem getLane_setBucket (c : Nat) (b : Bucket) (k : Nat) : getLane (setBucket s c b) k = getLane s k := rfl
@[simp] theorem getLane_setCapt (p : Nat) (x : CaptSt) (k : Nat) : getLane (setCapt s p x) k = getLane s k := rfl
@[simp] theorem getLane_setSource (i : Nat) (x : RngSource) (k : Nat) : getLane (setSource s i x) k = getLane s k := rfl
@[simp] theorem getBlob_setReg (a : Nat) (v : Word) (k : Nat) : getBlob (setReg s a v) k = getBlob s k := rfl
@[simp] theorem getBlob_incReg (a : Nat) (k : Nat) : getBlob (incReg s a) k = getBlob s k := rfl
@[simp] theorem getBlob_addReg (a n : Nat) (k : Nat) : getBlob (addReg s a n) k = getBlob s k := rfl
@[simp] theorem getBlob_setPage (p : Nat) (g : PageSt) (k : Nat) : getBlob (setPage s p g) k = getBlob s k := rfl
@[simp] theorem getBlob_modPage (p : Nat) (f : PageSt → PageSt) (k : Nat) : getBlob (modPage s p f) k = getBlob s k := rfl
@[simp] theorem getBlob_sendMsix (v : Nat) (k : Nat) : getBlob (sendMsix s v) k = getBlob s k := rfl
@[simp] theorem getBlob_writeByte (a : Nat) (b : Byte) (k : Nat) : getBlob (writeByte s a b) k = getBlob s k := rfl
@[simp] theorem getBlob_setCtx (i : Nat) (c : Option Ctx) (k : Nat) : getBlob (setCtx s i c) k = getBlob s k := rfl
@[simp] theorem getBlob_setFrame (h : Nat) (f : Option FrameRec) (k : Nat) : getBlob (setFrame s h f) k = getBlob s k := rfl
@[simp] theorem getBlob_setBob (b : Nat) (x : Bobbin) (k : Nat) : getBlob (setBob s b x) k = getBlob s k := rfl
@[simp] theorem getBlob_modBob (b : Nat) (f : Bobbin → Bobbin) (k : Nat) : getBlob (modBob s b f) k = getBlob s k := rfl
@[simp] theorem getBlob_setPil (p : Nat) (x : Pillow) (k : Nat) : getBlob (setPil s p x) k = getBlob s k := rfl
@[simp] theorem getBlob_modPil (p : Nat) (f : Pillow → Pillow) (k : Nat) : getBlob (modPil s p f) k = getBlob s k := rfl
@[simp] theorem getBlob_setPort (n : Nat) (x : PortSt) (k : Nat) : getBlob (setPort s n x) k = getBlob s k := rfl
@[simp] theorem getBlob_modPort (n : Nat) (f : PortSt → PortSt) (k : Nat) : getBlob (modPort s n f) k = getBlob s k := rfl
@[simp] theorem getBlob_setGroup (g : Nat) (x : Option Group) (k : Nat) : getBlob (setGroup s g x) k = getBlob s k := rfl
@[simp] theorem getBlob_setPairNet (k : Nat) (x : PairNet) (k : Nat) : getBlob (setPairNet s k x) k = getBlob s k := rfl
@[simp] theorem getBlob_setSlice (i : Nat) (x : Slice) (k : Nat) : getBlob (setSlice s i x) k = getBlob s k := rfl
@[simp] theorem getBlob_modSlice (i : Nat) (f : Slice → Slice) (k : Nat) : getBlob (modSlice s i f) k = getBlob s k := rfl
@[simp] theorem getBlob_setMring (n : Nat) (r : RingIx) (k : Nat) : getBlob (setMring s n r) k = getBlob s k := rfl
@[simp] theorem getBlob_setLane (n : Nat) (x : LaneSt) (k : Nat) : getBlob (setLane s n x) k = getBlob s k := rfl
@[simp] theorem getBlob_modLane (n : Nat) (f : LaneSt → LaneSt) (k : Nat) : getBlob (modLane s n f) k = getBlob s k := rfl
@[simp] theorem getBlob_setBucket (c : Nat) (b : Bucket) (k : Nat) : getBlob (setBucket s c b) k = getBlob s k := rfl
@[simp] theorem getBlob_setCapt (p : Nat) (x : CaptSt) (k : Nat) : getBlob (setCapt s p x) k = getBlob s k := rfl
@[simp] theorem getBlob_setSource (i : Nat) (x : RngSource) (k : Nat) : getBlob (setSource s i x) k = getBlob s k := rfl
@[simp] theorem getSlot_setReg (a : Nat) (v : Word) (k : Nat) : getSlot (setReg s a v) k = getSlot s k := rfl
@[simp] theorem getSlot_incReg (a : Nat) (k : Nat) : getSlot (incReg s a) k = getSlot s k := rfl
@[simp] theorem getSlot_addReg (a n : Nat) (k : Nat) : getSlot (addReg s a n) k = getSlot s k := rfl
@[simp] theorem getSlot_setPage (p : Nat) (g : PageSt) (k : Nat) : getSlot (setPage s p g) k = getSlot s k := rfl
@[simp] theorem getSlot_modPage (p : Nat) (f : PageSt → PageSt) (k : Nat) : getSlot (modPage s p f) k = getSlot s k := rfl
@[simp] theorem getSlot_sendMsix (v : Nat) (k : Nat) : getSlot (sendMsix s v) k = getSlot s k := rfl
@[simp] theorem getSlot_writeByte (a : Nat) (b : Byte) (k : Nat) : getSlot (writeByte s a b) k = getSlot s k := rfl
@[simp] theorem getSlot_setCtx (i : Nat) (c : Option Ctx) (k : Nat) : getSlot (setCtx s i c) k = getSlot s k := rfl
@[simp] theorem getSlot_setFrame (h : Nat) (f : Option FrameRec) (k : Nat) : getSlot (setFrame s h f) k = getSlot s k := rfl
@[simp] theorem getSlot_setBob (b : Nat) (x : Bobbin) (k : Nat) : getSlot (setBob s b x) k = getSlot s k := rfl
@[simp] theorem getSlot_modBob (b : Nat) (f : Bobbin → Bobbin) (k : Nat) : getSlot (modBob s b f) k = getSlot s k := rfl
@[simp] theorem getSlot_setPil (p : Nat) (x : Pillow) (k : Nat) : getSlot (setPil s p x) k = getSlot s k := rfl
@[simp] theorem getSlot_modPil (p : Nat) (f : Pillow → Pillow) (k : Nat) : getSlot (modPil s p f) k = getSlot s k := rfl
@[simp] theorem getSlot_setPort (n : Nat) (x : PortSt) (k : Nat) : getSlot (setPort s n x) k = getSlot s k := rfl
@[simp] theorem getSlot_modPort (n : Nat) (f : PortSt → PortSt) (k : Nat) : getSlot (modPort s n f) k = getSlot s k := rfl
@[simp] theorem getSlot_setGroup (g : Nat) (x : Option Group) (k : Nat) : getSlot (setGroup s g x) k = getSlot s k := rfl
@[simp] theorem getSlot_setPairNet (k : Nat) (x : PairNet) (k : Nat) : getSlot (setPairNet s k x) k = getSlot s k := rfl
@[simp] theorem getSlot_setSlice (i : Nat) (x : Slice) (k : Nat) : getSlot (setSlice s i x) k = getSlot s k := rfl
@[simp] theorem getSlot_modSlice (i : Nat) (f : Slice → Slice) (k : Nat) : getSlot (modSlice s i f) k = getSlot s k := rfl
@[simp] theorem getSlot_setMring (n : Nat) (r : RingIx) (k : Nat) : getSlot (setMring s n r) k = getSlot s k := rfl
@[simp] theorem getSlot_setLane (n : Nat) (x : LaneSt) (k : Nat) : getSlot (setLane s n x) k = getSlot s k := rfl
@[simp] theorem getSlot_modLane (n : Nat) (f : LaneSt → LaneSt) (k : Nat) : getSlot (modLane s n f) k = getSlot s k := rfl
@[simp] theorem getSlot_setBucket (c : Nat) (b : Bucket) (k : Nat) : getSlot (setBucket s c b) k = getSlot s k := rfl
@[simp] theorem getSlot_setCapt (p : Nat) (x : CaptSt) (k : Nat) : getSlot (setCapt s p x) k = getSlot s k := rfl
@[simp] theorem getSlot_setSource (i : Nat) (x : RngSource) (k : Nat) : getSlot (setSource s i x) k = getSlot s k := rfl
@[simp] theorem getBucket_setReg (a : Nat) (v : Word) (k : Nat) : getBucket (setReg s a v) k = getBucket s k := rfl
@[simp] theorem getBucket_incReg (a : Nat) (k : Nat) : getBucket (incReg s a) k = getBucket s k := rfl
@[simp] theorem getBucket_addReg (a n : Nat) (k : Nat) : getBucket (addReg s a n) k = getBucket s k := rfl
@[simp] theorem getBucket_setPage (p : Nat) (g : PageSt) (k : Nat) : getBucket (setPage s p g) k = getBucket s k := rfl
@[simp] theorem getBucket_modPage (p : Nat) (f : PageSt → PageSt) (k : Nat) : getBucket (modPage s p f) k = getBucket s k := rfl
@[simp] theorem getBucket_sendMsix (v : Nat) (k : Nat) : getBucket (sendMsix s v) k = getBucket s k := rfl
@[simp] theorem getBucket_writeByte (a : Nat) (b : Byte) (k : Nat) : getBucket (writeByte s a b) k = getBucket s k := rfl
@[simp] theorem getBucket_setCtx (i : Nat) (c : Option Ctx) (k : Nat) : getBucket (setCtx s i c) k = getBucket s k := rfl
@[simp] theorem getBucket_setFrame (h : Nat) (f : Option FrameRec) (k : Nat) : getBucket (setFrame s h f) k = getBucket s k := rfl
@[simp] theorem getBucket_setBob (b : Nat) (x : Bobbin) (k : Nat) : getBucket (setBob s b x) k = getBucket s k := rfl
@[simp] theorem getBucket_modBob (b : Nat) (f : Bobbin → Bobbin) (k : Nat) : getBucket (modBob s b f) k = getBucket s k := rfl
@[simp] theorem getBucket_setPil (p : Nat) (x : Pillow) (k : Nat) : getBucket (setPil s p x) k = getBucket s k := rfl
@[simp] theorem getBucket_modPil (p : Nat) (f : Pillow → Pillow) (k : Nat) : getBucket (modPil s p f) k = getBucket s k := rfl
@[simp] theorem getBucket_setPort (n : Nat) (x : PortSt) (k : Nat) : getBucket (setPort s n x) k = getBucket s k := rfl
@[simp] theorem getBucket_modPort (n : Nat) (f : PortSt → PortSt) (k : Nat) : getBucket (modPort s n f) k = getBucket s k := rfl
@[simp] theorem getBucket_setGroup (g : Nat) (x : Option Group) (k : Nat) : getBucket (setGroup s g x) k = getBucket s k := rfl
@[simp] theorem getBucket_setPairNet (k : Nat) (x : PairNet) (k : Nat) : getBucket (setPairNet s k x) k = getBucket s k := rfl
@[simp] theorem getBucket_setSlice (i : Nat) (x : Slice) (k : Nat) : getBucket (setSlice s i x) k = getBucket s k := rfl
@[simp] theorem getBucket_modSlice (i : Nat) (f : Slice → Slice) (k : Nat) : getBucket (modSlice s i f) k = getBucket s k := rfl
@[simp] theorem getBucket_setMring (n : Nat) (r : RingIx) (k : Nat) : getBucket (setMring s n r) k = getBucket s k := rfl
@[simp] theorem getBucket_setLane (n : Nat) (x : LaneSt) (k : Nat) : getBucket (setLane s n x) k = getBucket s k := rfl
@[simp] theorem getBucket_modLane (n : Nat) (f : LaneSt → LaneSt) (k : Nat) : getBucket (modLane s n f) k = getBucket s k := rfl
@[simp] theorem getBucket_setBlob (i : Nat) (b : Option Blob) (k : Nat) : getBucket (setBlob s i b) k = getBucket s k := rfl
@[simp] theorem getBucket_setSlot (n : Nat) (x : Option SlotSt) (k : Nat) : getBucket (setSlot s n x) k = getBucket s k := rfl
@[simp] theorem getBucket_setCapt (p : Nat) (x : CaptSt) (k : Nat) : getBucket (setCapt s p x) k = getBucket s k := rfl
@[simp] theorem getBucket_setSource (i : Nat) (x : RngSource) (k : Nat) : getBucket (setSource s i x) k = getBucket s k := rfl
@[simp] theorem getCapt_setReg (a : Nat) (v : Word) (k : Nat) : getCapt (setReg s a v) k = getCapt s k := rfl
@[simp] theorem getCapt_incReg (a : Nat) (k : Nat) : getCapt (incReg s a) k = getCapt s k := rfl
@[simp] theorem getCapt_addReg (a n : Nat) (k : Nat) : getCapt (addReg s a n) k = getCapt s k := rfl
@[simp] theorem getCapt_setPage (p : Nat) (g : PageSt) (k : Nat) : getCapt (setPage s p g) k = getCapt s k := rfl
@[simp] theorem getCapt_modPage (p : Nat) (f : PageSt → PageSt) (k : Nat) : getCapt (modPage s p f) k = getCapt s k := rfl
@[simp] theorem getCapt_sendMsix (v : Nat) (k : Nat) : getCapt (sendMsix s v) k = getCapt s k := rfl
@[simp] theorem getCapt_writeByte (a : Nat) (b : Byte) (k : Nat) : getCapt (writeByte s a b) k = getCapt s k := rfl
@[simp] theorem getCapt_setCtx (i : Nat) (c : Option Ctx) (k : Nat) : getCapt (setCtx s i c) k = getCapt s k := rfl
@[simp] theorem getCapt_setFrame (h : Nat) (f : Option FrameRec) (k : Nat) : getCapt (setFrame s h f) k = getCapt s k := rfl
@[simp] theorem getCapt_setBob (b : Nat) (x : Bobbin) (k : Nat) : getCapt (setBob s b x) k = getCapt s k := rfl
@[simp] theorem getCapt_modBob (b : Nat) (f : Bobbin → Bobbin) (k : Nat) : getCapt (modBob s b f) k = getCapt s k := rfl
@[simp] theorem getCapt_setPil (p : Nat) (x : Pillow) (k : Nat) : getCapt (setPil s p x) k = getCapt s k := rfl
@[simp] theorem getCapt_modPil (p : Nat) (f : Pillow → Pillow) (k : Nat) : getCapt (modPil s p f) k = getCapt s k := rfl
@[simp] theorem getCapt_setPort (n : Nat) (x : PortSt) (k : Nat) : getCapt (setPort s n x) k = getCapt s k := rfl
@[simp] theorem getCapt_modPort (n : Nat) (f : PortSt → PortSt) (k : Nat) : getCapt (modPort s n f) k = getCapt s k := rfl
@[simp] theorem getCapt_setGroup (g : Nat) (x : Option Group) (k : Nat) : getCapt (setGroup s g x) k = getCapt s k := rfl
@[simp] theorem getCapt_setPairNet (k : Nat) (x : PairNet) (k : Nat) : getCapt (setPairNet s k x) k = getCapt s k := rfl
@[simp] theorem getCapt_setSlice (i : Nat) (x : Slice) (k : Nat) : getCapt (setSlice s i x) k = getCapt s k := rfl
@[simp] theorem getCapt_modSlice (i : Nat) (f : Slice → Slice) (k : Nat) : getCapt (modSlice s i f) k = getCapt s k := rfl
@[simp] theorem getCapt_setMring (n : Nat) (r : RingIx) (k : Nat) : getCapt (setMring s n r) k = getCapt s k := rfl
@[simp] theorem getCapt_setLane (n : Nat) (x : LaneSt) (k : Nat) : getCapt (setLane s n x) k = getCapt s k := rfl
@[simp] theorem getCapt_modLane (n : Nat) (f : LaneSt → LaneSt) (k : Nat) : getCapt (modLane s n f) k = getCapt s k := rfl
@[simp] theorem getCapt_setBlob (i : Nat) (b : Option Blob) (k : Nat) : getCapt (setBlob s i b) k = getCapt s k := rfl
@[simp] theorem getCapt_setSlot (n : Nat) (x : Option SlotSt) (k : Nat) : getCapt (setSlot s n x) k = getCapt s k := rfl
@[simp] theorem getCapt_setBucket (c : Nat) (b : Bucket) (k : Nat) : getCapt (setBucket s c b) k = getCapt s k := rfl
@[simp] theorem getCapt_setSource (i : Nat) (x : RngSource) (k : Nat) : getCapt (setSource s i x) k = getCapt s k := rfl

/-! ### Reading after writing -/

@[simp] theorem getReg_setReg_self (a : Nat) (v : Word) : getReg (setReg s a v) a = v := smapGet_set_self _ _ _ _
theorem getReg_setReg_ne (a : Nat) (v : Word) {j : Nat} (hj : j ≠ a) : getReg (setReg s a v) j = getReg s j := smapGet_set_ne _ _ _ hj
@[simp] theorem getPage_setPage_self (p : Nat) (g : PageSt) : getPage (setPage s p g) p = g := smapGet_set_self _ _ _ _
theorem getPage_setPage_ne (p : Nat) (g : PageSt) {j : Nat} (hj : j ≠ p) : getPage (setPage s p g) j = getPage s j := smapGet_set_ne _ _ _ hj
@[simp] theorem readByte_writeByte_self (a : Nat) (b : Byte) : readByte (writeByte s a b) a = b := smapGet_set_self _ _ _ _
theorem readByte_writeByte_ne (a : Nat) (b : Byte) {j : Nat} (hj : j ≠ a) : readByte (writeByte s a b) j = readByte s j := smapGet_set_ne _ _ _ hj
@[simp] theorem getCtx_setCtx_self (i : Nat) (c : Option Ctx) : getCtx (setCtx s i c) i = c := smapGet_set_self _ _ _ _
theorem getCtx_setCtx_ne (i : Nat) (c : Option Ctx) {j : Nat} (hj : j ≠ i) : getCtx (setCtx s i c) j = getCtx s j := smapGet_set_ne _ _ _ hj
@[simp] theorem getFrame_setFrame_self (h : Nat) (f : Option FrameRec) : getFrame (setFrame s h f) h = f := smapGet_set_self _ _ _ _
theorem getFrame_setFrame_ne (h : Nat) (f : Option FrameRec) {j : Nat} (hj : j ≠ h) : getFrame (setFrame s h f) j = getFrame s j := smapGet_set_ne _ _ _ hj
@[simp] theorem getBob_setBob_self (b : Nat) (x : Bobbin) : getBob (setBob s b x) b = x := smapGet_set_self _ _ _ _
theorem getBob_setBob_ne (b : Nat) (x : Bobbin) {j : Nat} (hj : j ≠ b) : getBob (setBob s b x) j = getBob s j := smapGet_set_ne _ _ _ hj
@[simp] theorem getPil_setPil_self (p : Nat) (x : Pillow) : getPil (setPil s p x) p = x := smapGet_set_self _ _ _ _
theorem getPil_setPil_ne (p : Nat) (x : Pillow) {j : Nat} (hj : j ≠ p) : getPil (setPil s p x) j = getPil s j := smapGet_set_ne _ _ _ hj
@[simp] theorem getPort_setPort_self (n : Nat) (x : PortSt) : getPort (setPort s n x) n = x := smapGet_set_self _ _ _ _
theorem getPort_setPort_ne (n : Nat) (x : PortSt) {j : Nat} (hj : j ≠ n) : getPort (setPort s n x) j = getPort s j := smapGet_set_ne _ _ _ hj
@[simp] theorem getGroup_setGroup_self (g : Nat) (x : Option Group) : getGroup (setGroup s g x) g = x := smapGet_set_self _ _ _ _
theorem getGroup_setGroup_ne (g : Nat) (x : Option Group) {j : Nat} (hj : j ≠ g) : getGroup (setGroup s g x) j = getGroup s j := smapGet_set_ne _ _ _ hj
@[simp] theorem getPairNet_setPairNet_self (k : Nat) (x : PairNet) : getPairNet (setPairNet s k x) k = x := smapGet_set_self _ _ _ _
theorem getPairNet_setPairNet_ne (k : Nat) (x : PairNet) {j : Nat} (hj : j ≠ k) : getPairNet (setPairNet s k x) j = getPairNet s j := smapGet_set_ne _ _ _ hj
@[simp] theorem getSlice_setSlice_self (i : Nat) (x : Slice) : getSlice (setSlice s i x) i = x := smapGet_set_self _ _ _ _
theorem getSlice_setSlice_ne (i : Nat) (x : Slice) {j : Nat} (hj : j ≠ i) : getSlice (setSlice s i x) j = getSlice s j := smapGet_set_ne _ _ _ hj
@[simp] theorem getMring_setMring_self (n : Nat) (r : RingIx) : getMring (setMring s n r) n = r := smapGet_set_self _ _ _ _
theorem getMring_setMring_ne (n : Nat) (r : RingIx) {j : Nat} (hj : j ≠ n) : getMring (setMring s n r) j = getMring s j := smapGet_set_ne _ _ _ hj
@[simp] theorem getLane_setLane_self (n : Nat) (x : LaneSt) : getLane (setLane s n x) n = x := smapGet_set_self _ _ _ _
theorem getLane_setLane_ne (n : Nat) (x : LaneSt) {j : Nat} (hj : j ≠ n) : getLane (setLane s n x) j = getLane s j := smapGet_set_ne _ _ _ hj
@[simp] theorem getBlob_setBlob_self (i : Nat) (b : Option Blob) : getBlob (setBlob s i b) i = b := smapGet_set_self _ _ _ _
theorem getBlob_setBlob_ne (i : Nat) (b : Option Blob) {j : Nat} (hj : j ≠ i) : getBlob (setBlob s i b) j = getBlob s j := smapGet_set_ne _ _ _ hj
@[simp] theorem getSlot_setSlot_self (n : Nat) (x : Option SlotSt) : getSlot (setSlot s n x) n = x := smapGet_set_self _ _ _ _
theorem getSlot_setSlot_ne (n : Nat) (x : Option SlotSt) {j : Nat} (hj : j ≠ n) : getSlot (setSlot s n x) j = getSlot s j := smapGet_set_ne _ _ _ hj
@[simp] theorem getBucket_setBucket_self (c : Nat) (b : Bucket) : getBucket (setBucket s c b) c = b := smapGet_set_self _ _ _ _
theorem getBucket_setBucket_ne (c : Nat) (b : Bucket) {j : Nat} (hj : j ≠ c) : getBucket (setBucket s c b) j = getBucket s j := smapGet_set_ne _ _ _ hj
@[simp] theorem getCapt_setCapt_self (p : Nat) (x : CaptSt) : getCapt (setCapt s p x) p = x := smapGet_set_self _ _ _ _
theorem getCapt_setCapt_ne (p : Nat) (x : CaptSt) {j : Nat} (hj : j ≠ p) : getCapt (setCapt s p x) j = getCapt s j := smapGet_set_ne _ _ _ hj
@[simp] theorem getPage_modPage_self (p : Nat) (f : PageSt → PageSt) : getPage (modPage s p f) p = f (getPage s p) := smapGet_set_self _ _ _ _
theorem getPage_modPage_ne (p : Nat) (f : PageSt → PageSt) {j : Nat} (hj : j ≠ p) : getPage (modPage s p f) j = getPage s j := smapGet_set_ne _ _ _ hj
@[simp] theorem getBob_modBob_self (b : Nat) (f : Bobbin → Bobbin) : getBob (modBob s b f) b = f (getBob s b) := smapGet_set_self _ _ _ _
theorem getBob_modBob_ne (b : Nat) (f : Bobbin → Bobbin) {j : Nat} (hj : j ≠ b) : getBob (modBob s b f) j = getBob s j := smapGet_set_ne _ _ _ hj
@[simp] theorem getPil_modPil_self (p : Nat) (f : Pillow → Pillow) : getPil (modPil s p f) p = f (getPil s p) := smapGet_set_self _ _ _ _
theorem getPil_modPil_ne (p : Nat) (f : Pillow → Pillow) {j : Nat} (hj : j ≠ p) : getPil (modPil s p f) j = getPil s j := smapGet_set_ne _ _ _ hj
@[simp] theorem getPort_modPort_self (n : Nat) (f : PortSt → PortSt) : getPort (modPort s n f) n = f (getPort s n) := smapGet_set_self _ _ _ _
theorem getPort_modPort_ne (n : Nat) (f : PortSt → PortSt) {j : Nat} (hj : j ≠ n) : getPort (modPort s n f) j = getPort s j := smapGet_set_ne _ _ _ hj
@[simp] theorem getSlice_modSlice_self (i : Nat) (f : Slice → Slice) : getSlice (modSlice s i f) i = f (getSlice s i) := smapGet_set_self _ _ _ _
theorem getSlice_modSlice_ne (i : Nat) (f : Slice → Slice) {j : Nat} (hj : j ≠ i) : getSlice (modSlice s i f) j = getSlice s j := smapGet_set_ne _ _ _ hj
@[simp] theorem getLane_modLane_self (n : Nat) (f : LaneSt → LaneSt) : getLane (modLane s n f) n = f (getLane s n) := smapGet_set_self _ _ _ _
theorem getLane_modLane_ne (n : Nat) (f : LaneSt → LaneSt) {j : Nat} (hj : j ≠ n) : getLane (modLane s n f) j = getLane s j := smapGet_set_ne _ _ _ hj
@[simp] theorem getReg_incReg_self (a : Nat) : getReg (incReg s a) a = satInc (getReg s a) := smapGet_set_self _ _ _ _
theorem getReg_incReg_ne (a : Nat) {j : Nat} (hj : j ≠ a) : getReg (incReg s a) j = getReg s j := smapGet_set_ne _ _ _ hj
@[simp] theorem getReg_addReg_self (a n : Nat) : getReg (addReg s a n) a = satAdd (getReg s a) n := smapGet_set_self _ _ _ _
theorem getReg_addReg_ne (a n : Nat) {j : Nat} (hj : j ≠ a) : getReg (addReg s a n) j = getReg s j := smapGet_set_ne _ _ _ hj

end Sys2Proof.Machine
end

