-- ==== Sys2Proof/Laws/Ops.lean ====
section
/-! SUPPORT. Laws/Ops.lean: what each shared operation can do: memory, events and records, register writes, and the mailbox. -/
namespace Sys2Proof.Machine

/-! ### Memory -/

theorem readByte_writeByte (s : State) (a : Nat) (b : Byte) (j : Nat) : readByte (writeByte s a b) j = if j = a then b else readByte s j := by
  by_cases h : j = a
  · subst h; simp
  · simp [h, readByte_writeByte_ne s a b h]

theorem memWf_writeByte (s : State) (a : Nat) (b : Byte) (w : memWf s = true) : memWf (writeByte s a b) = true := smapWf_set _ _ _ _ w

/-- A run of bytes is written to memory alone. -/
theorem writeBytes_eq (s : State) (a : Nat) (bs : List Byte) : writeBytes s a bs = { s with mem := (writeBytes s a bs).mem } := by
  induction bs generalizing s a with
  | nil => rfl
  | cons b bs ih => simp only [writeBytes]; rw [ih]; rfl

/-- A run of bytes keeps the canonical form. -/
theorem memWf_writeBytes (s : State) (a : Nat) (bs : List Byte) (w : memWf s = true) : memWf (writeBytes s a bs) = true := by
  induction bs generalizing s a with
  | nil => exact w
  | cons b bs ih => exact ih _ _ (memWf_writeByte s a b w)

/-- Bytes outside a run written read as before. -/
theorem readByte_writeBytes_out (s : State) (a : Nat) (bs : List Byte) (j : Nat) (h : j < a ∨ a + bs.length ≤ j) :
    readByte (writeBytes s a bs) j = readByte s j := by
  induction bs generalizing s a with
  | nil => rfl
  | cons b bs ih =>
    simp only [List.length_cons] at h
    rw [writeBytes, ih _ _ (by omega), readByte_writeByte, if_neg (by omega)]

/-- A byte inside a run written reads as the run has it. -/
theorem readByte_writeBytes_in (s : State) (a : Nat) (bs : List Byte) (k : Nat) (h : k < bs.length) :
    readByte (writeBytes s a bs) (a + k) = bs[k] := by
  induction bs generalizing s a k with
  | nil => simp at h
  | cons b bs ih =>
    simp only [writeBytes]
    cases k with
    | zero => rw [readByte_writeBytes_out _ _ _ _ (by omega), readByte_writeByte]; simp
    | succ k =>
      have hk : k < bs.length := by simpa using h
      have := ih (writeByte s a b) (a + 1) k hk
      rw [show a + (k + 1) = a + 1 + k by omega, this]; simp

/-- A run reads back as written. -/
theorem readBytes_writeBytes (s : State) (a : Nat) (bs : List Byte) : readBytes (writeBytes s a bs) a bs.length = bs := by
  apply List.ext_getElem
  · simp [readBytes]
  · intro k h1 h2
    simp [readBytes, readByte_writeBytes_in s a bs k h2]

/-- A clearing of addresses keeps the canonical form. -/
theorem memWf_filter (s t : State) (p : Nat × Byte → Bool) (h : t.mem = s.mem.filter p) (w : memWf s = true) : memWf t = true := by
  unfold memWf smapWf at *
  rw [h]
  exact smapWfFrom_filter _ _ p w

/-- Memory at reset lists nothing. -/
theorem memWf_reset : memWf State.reset = true := rfl

/-! ### Events, counters and records -/

/-- Registers, common words, messages and the log may differ; nothing else does. -/
def Logged (s t : State) : Prop := t = { s with mor := t.mor, regs := t.regs, pages := t.pages, msix := t.msix }

theorem Logged.refl (s : State) : Logged s s := rfl

theorem Logged.trans {s t u : State} (h : Logged s t) (k : Logged t u) : Logged s u := by
  unfold Logged at *
  rw [k, h]

theorem Logged.ite (c : Prop) [Decidable c] {s a b : State} (ha : Logged s a) (hb : Logged s b) : Logged s (if c then a else b) := by
  split <;> assumption

theorem setReg_logged (s : State) (a : Nat) (v : Word) : Logged s (setReg s a v) := rfl
theorem mor_logged (s : State) (m : MorSt) : Logged s { s with mor := m } := rfl
theorem incReg_logged (s : State) (a : Nat) : Logged s (incReg s a) := rfl
theorem setPage_logged (s : State) (p : Nat) (g : PageSt) : Logged s (setPage s p g) := rfl
theorem modPage_logged (s : State) (p : Nat) (f : PageSt → PageSt) : Logged s (modPage s p f) := rfl
theorem sendMsix_logged (s : State) (v : Nat) : Logged s (sendMsix s v) := rfl
theorem setBucket_logged (s : State) (c : Nat) (b : Bucket) : Logged s (setBucket s c b) := rfl

/-- A set event changes its page and at most one message count. -/
theorem setEvt_eq (s : State) (p b : Nat) : setEvt s p b = { s with pages := (setEvt s p b).pages, msix := (setEvt s p b).msix } := by
  unfold setEvt
  dsimp only
  split <;> rfl

theorem setEvt_logged (s : State) (p b : Nat) : Logged s (setEvt s p b) := by
  unfold setEvt
  dsimp only
  split <;> rfl

/-- The page of a set event has the event; every other page is as it was. -/
theorem getPage_setEvt_self (s : State) (p b : Nat) : getPage (setEvt s p b) p = (getPage s p).event b := by
  unfold setEvt
  dsimp only
  split <;> simp

theorem getPage_setEvt_ne (s : State) (p b : Nat) {j : Nat} (h : j ≠ p) : getPage (setEvt s p b) j = getPage s j := by
  unfold setEvt
  dsimp only
  split <;> simp [getPage_setPage_ne s p _ h]

theorem getReg_setEvt (s : State) (p b a : Nat) : getReg (setEvt s p b) a = getReg s a := by
  rw [setEvt_eq]; rfl

theorem condSet_logged (s : State) (p b : Nat) (on : Bool) : Logged s (condSet s p b on) := by
  unfold condSet
  dsimp only
  split
  · exact (setPage_logged s p _).trans (setEvt_logged _ p b)
  · exact setPage_logged s p _
  · exact Logged.refl s

theorem morWrite_logged (s : State) (code source sev rep : Nat) (payload : List Nat) : Logged s (morWrite s code source sev rep payload) := by
  unfold morWrite
  dsimp only
  split
  · exact (incReg_logged s _).trans (setEvt_logged _ _ _)
  · refine Logged.ite _ (Logged.trans ?_ (setEvt_logged _ _ _)) ?_ <;>
      exact Logged.ite _ (((mor_logged s _).trans (incReg_logged _ _)).trans (setEvt_logged _ _ _)) (mor_logged s _)

theorem morHandle_logged (s : State) (code source sev : Nat) (payload : List Nat) : Logged s (morHandle s code source sev payload) := by
  unfold morHandle
  dsimp only
  split
  · exact morWrite_logged _ _ _ _ _ _
  · split
    · split
      · exact (setBucket_logged s _ _).trans ((incReg_logged _ _).trans (setEvt_logged _ _ _))
      · exact (setBucket_logged s _ _).trans (morWrite_logged _ _ _ _ _ _)
    · split
      · split
        · rfl
        · exact morWrite_logged _ _ _ _ _ _
      · exact morWrite_logged _ _ _ _ _ _

theorem logBoot_logged (s : State) : Logged s (logBoot s) :=
  Logged.trans (t := { s with mor := { s.mor with seq := _, ring := [], fresh := false } }) rfl (morWrite_logged _ _ _ _ _ _)

theorem morSync_logged (s : State) : Logged s (morSync s) := by
  unfold morSync
  dsimp only
  split
  · exact Logged.refl s
  · exact Logged.trans (t := { s with mor := { s.mor.close with mode := _ } }) rfl (morHandle_logged _ _ _ _ _)

/-- A record changes the log, its registers and its pages alone. -/
theorem record_logged (s : State) (code block inst : Nat) (payload : List Nat) : Logged s (record s code block inst payload) := by
  unfold record
  split
  · exact Logged.refl s
  · have h : Logged s (if s.mor.fresh = true then logBoot s else s) := by
      split
      · exact logBoot_logged s
      · exact Logged.refl s
    exact h.trans ((morSync_logged _).trans (morHandle_logged _ _ _ _ _))

/-! ### Register accesses -/

/-- A refused access is counted, captured and recorded; nothing else happens (R53). -/
theorem refuseAccess_logged (s : State) (by_ : Party) (rd : Bool) (addr cause : Nat) : Logged s (refuseAccess s by_ rd addr cause) := by
  unfold refuseAccess
  dsimp only
  have h1 := Logged.ite ((pageBlock (addr / 0x1000)).isSome = true) (setEvt_logged s (addr / 0x1000) 22) (Logged.refl s)
  split <;> exact Logged.trans (Logged.ite _ (h1.trans (incReg_logged _ _))
    ((h1.trans (incReg_logged _ _)).trans ((setReg_logged _ _ _).trans (setEvt_logged _ _ _)))) (record_logged _ _ _ _ _)

/-- A refused write changes no more than its refusal and the arming of its page. -/
theorem barWrite_refused (s : State) (by_ : Party) (size addr : Nat) (v : Word) (effect : State → State)
    (h : writeCause s by_ size addr v ≠ 0) : Logged s (barWrite s by_ size addr v effect) := by
  unfold barWrite
  dsimp only
  split
  · exact refuseAccess_logged _ _ _ _ _
  · exact Logged.trans (Logged.ite _ (Logged.refl s) (modPage_logged _ _ _)) (refuseAccess_logged _ _ _ _ _)

/-- A write that nothing refuses, other than the key of BLK_UNLK, uses up the arming of its page and has its effect. -/
theorem barWrite_effect (s : State) (by_ : Party) (size addr : Nat) (v : Word) (effect : State → State) (d : RegDesc)
    (h : writeCause s by_ size addr v = 0) (hd : regDesc (addr / 0x1000) (addr % 0x1000) = some d) (hr : d.rw ≠ 0)
    (ho : ¬ (addr % 0x1000 = 0x10 ∧ v = 0x9E3721D4#32)) :
    barWrite s by_ size addr v effect = effect (modPage s (addr / 0x1000) (fun g => g.setArmed by_ false)) := by
  unfold barWrite
  simp [h, hd, hr, ho]

/-- A refused read changes no more than its refusal. -/
theorem barRead_refused (s : State) (by_ : Party) (addr : Nat) (effect : State → State) (h : accessCause s by_ 4 addr ≠ 0) :
    Logged s (barRead s by_ addr effect) := by
  unfold barRead
  dsimp only
  rw [if_pos h]
  exact refuseAccess_logged _ _ _ _ _

theorem barRead_effect (s : State) (by_ : Party) (addr : Nat) (effect : State → State) (h : accessCause s by_ 4 addr = 0) :
    barRead s by_ addr effect = effect s := by
  unfold barRead; simp [h]

/-- A register is stored under its RW mask, and nothing else changes. -/
theorem storeReg_eq (s : State) (addr : Nat) (v : Word) (d : RegDesc) (h : regDesc (addr / 0x1000) (addr % 0x1000) = some d) :
    storeReg s addr v = setReg s addr (v &&& w32 d.rw) := by
  unfold storeReg; rw [h]

/-! ### The mailbox -/

/-- A command in a slot that waits runs its body on the state with the slot taken (R324). -/
theorem mbxRun_runs (s : State) (sl : Slot) (code : Nat) (lp : Option Nat) (body : State → State × MbxRes)
    (h : mbxReady s = true) (hl : s.pwc.lpHold = false) (hb : lcBar s code = none) :
    mbxRun s sl code lp body = mbxFinish (body (mbxTake s)).1 sl code (body (mbxTake s)).2 := by
  have hl' : (mbxTake s).pwc.lpHold = false := hl
  have hb' : lcBar (mbxTake s) code = none := hb
  unfold mbxRun
  rw [if_pos h]
  dsimp only
  rw [hl', hb']

/-- A status command runs in the low-power hold too. -/
theorem mbxRun_status (s : State) (sl : Slot) (code : Nat) (body : State → State × MbxRes) (h : mbxReady s = true) (hb : lcBar s code = none) :
    mbxRun s sl code none body = mbxFinish (body (mbxTake s)).1 sl code (body (mbxTake s)).2 := by
  have hb' : lcBar (mbxTake s) code = none := hb
  unfold mbxRun
  rw [if_pos h]
  dsimp only
  rw [hb']
  cases (mbxTake s).pwc.lpHold <;> rfl

/-- Without a waiting slot a command does nothing (log entry 1). -/
theorem mbxRun_idle (s : State) (sl : Slot) (code : Nat) (lp : Option Nat) (body : State → State × MbxRes) (h : mbxReady s = false) :
    mbxRun s sl code lp body = s := by
  unfold mbxRun; simp [h]

/-- In the low-power hold a command that is no status command ends with its STATE (R438). -/
theorem mbxRun_held (s : State) (sl : Slot) (code st : Nat) (body : State → State × MbxRes) (h : mbxReady s = true) (hl : s.pwc.lpHold = true) :
    mbxRun s sl code (some st) body = mbxFinish (mbxTake s) sl code (MbxRes.refuse st) := by
  have hl' : (mbxTake s).pwc.lpHold = true := hl
  unfold mbxRun
  rw [if_pos h]
  dsimp only
  rw [hl']

/-- Memory, the host's indices, messages and the journal may differ; nothing else does. -/
def Posted (s t : State) : Prop := t = { s with mem := t.mem, hostIf := t.hostIf, msix := t.msix, journal := t.journal }

theorem Posted.refl (s : State) : Posted s s := rfl

theorem Posted.trans {s t u : State} (h : Posted s t) (k : Posted t u) : Posted s u := by
  unfold Posted at *
  rw [k, h]

theorem Posted.ite (c : Prop) [Decidable c] {s a b : State} (ha : Posted s a) (hb : Posted s b) : Posted s (if c then a else b) := by
  split <;> assumption

/-- Bytes written are of memory alone. -/
theorem writeBytes_posted (s : State) (a : Nat) (bs : List Byte) : Posted s (writeBytes s a bs) := by
  unfold Posted
  rw [writeBytes_eq]

theorem managerWrite_posted (s : State) (a : Nat) (bs : List Byte) : Posted s (managerWrite s a bs) := writeBytes_posted s _ bs

theorem hostIf_posted (s : State) (h : HostIfSt) : Posted s { s with hostIf := h } := rfl
theorem sendMsix_posted (s : State) (v : Nat) : Posted s (sendMsix s v) := rfl
theorem journal_posted (s : State) (l : List JRec) : Posted s { s with journal := l } := rfl

/-- A completion posted writes its entry, moves the ring's index and may send the vector. -/
theorem mbxPost_posted (s : State) (d : MbxDone) : Posted s (mbxPost s d) := by
  unfold mbxPost
  split
  · dsimp only
    have hu := managerWrite_posted s
      ((getReg s (regAddr 0x140 0x28)).toNat + 2 ^ 32 * (getReg s (regAddr 0x140 0x2C)).toNat + 16 * s.hostIf.ccTail) (mbxEntry d s.hostIf.ccPhase)
    revert hu
    generalize managerWrite s _ (mbxEntry d s.hostIf.ccPhase) = u
    intro hu
    split <;> exact hu.trans rfl
  · exact Posted.refl s

/-- A command's end writes its result bytes and its completion entry or its journal record, and nothing else. -/
theorem mbxFinish_posted (s : State) (sl : Slot) (code : Nat) (r : MbxRes) : Posted s (mbxFinish s sl code r) := by
  unfold mbxFinish
  refine Posted.ite _ (Posted.refl s) ?_
  refine Posted.ite _ ?_ ?_
  · exact Posted.trans (Posted.ite _ (Posted.refl s) (managerWrite_posted s _ _)) (mbxPost_posted _ _)
  · exact Posted.trans (Posted.ite _ (Posted.refl s) (managerWrite_posted s _ _)) (journal_posted _ _)

/-- The posting of completions keeps the canonical form. -/
theorem memWf_managerWrite (s : State) (a : Nat) (bs : List Byte) (w : memWf s = true) : memWf (managerWrite s a bs) = true :=
  memWf_writeBytes s _ bs w

theorem memWf_congr {s t : State} (h : t.mem = s.mem) : memWf t = memWf s := by
  unfold memWf
  rw [h]

/-- A completion posted: the memory that its entry leaves, or the memory as it was. -/
theorem mbxPost_mem (s : State) (d : MbxDone) : (mbxPost s d).mem = s.mem ∨ ∃ a bs, (mbxPost s d).mem = (managerWrite s a bs).mem := by
  unfold mbxPost
  split
  · dsimp only
    generalize (getReg s (regAddr 0x140 0x28)).toNat + 2 ^ 32 * (getReg s (regAddr 0x140 0x2C)).toNat + 16 * s.hostIf.ccTail = a
    generalize mbxEntry d s.hostIf.ccPhase = bs
    refine .inr ⟨a, bs, ?_⟩
    generalize managerWrite s a bs = u
    split
    · rw [sendMsix_mem]
    · rfl
  · exact .inl rfl

theorem memWf_mbxPost (s : State) (d : MbxDone) (w : memWf s = true) : memWf (mbxPost s d) = true := by
  obtain h | ⟨a, bs, h⟩ := mbxPost_mem s d
  · exact (memWf_congr h).trans w
  · exact (memWf_congr h).trans (memWf_managerWrite s a bs w)

theorem memWf_mbxFinish (s : State) (sl : Slot) (code : Nat) (r : MbxRes) (w : memWf s = true) : memWf (mbxFinish s sl code r) = true := by
  have h : memWf (if ((r.bytes.take sl.rlen).isEmpty || decide (2 ^ 16 ≤ sl.tag)) = true then s else managerWrite s sl.raddr (r.bytes.take sl.rlen)) = true := by
    split
    · exact w
    · exact memWf_managerWrite s _ _ w
  unfold mbxFinish
  dsimp only
  split
  · exact w
  · split
    · exact memWf_mbxPost _ _ h
    · exact h

end Sys2Proof.Machine
end

