-- ==== Sys2Proof/Laws/HostOps.lean ====
section
/-! SUPPORT. Laws/HostOps.lean: what completions, notices and drops of slices and of the manager's rings can do, and the levels of bobbins. -/
namespace Sys2Proof.Machine

/-- Memory, slices, messages and the host's indices may differ; nothing else does. -/
def HostWritten (s t : State) : Prop := t = { s with mem := t.mem, slices := t.slices, msix := t.msix, hostIf := t.hostIf }

theorem HostWritten.refl (s : State) : HostWritten s s := rfl

theorem HostWritten.trans {s t u : State} (h : HostWritten s t) (k : HostWritten t u) : HostWritten s u := by
  unfold HostWritten at *
  rw [k, h]

theorem HostWritten.ite (c : Prop) [Decidable c] {s a b : State} (ha : HostWritten s a) (hb : HostWritten s b) :
    HostWritten s (if c then a else b) := by
  split <;> assumption

theorem writeBytes_hostWritten (s : State) (a : Nat) (bs : List Byte) : HostWritten s (writeBytes s a bs) := by
  unfold HostWritten
  rw [writeBytes_eq]

theorem setSlice_hostWritten (s : State) (i : Nat) (x : Slice) : HostWritten s (setSlice s i x) := rfl
theorem modSlice_hostWritten (s : State) (i : Nat) (f : Slice → Slice) : HostWritten s (modSlice s i f) := rfl
theorem sendMsix_hostWritten (s : State) (v : Nat) : HostWritten s (sendMsix s v) := rfl

theorem sliceWrite_hostWritten (s : State) (i a : Nat) (bs : List Byte) : HostWritten s (sliceWrite s i a bs) :=
  (writeBytes_hostWritten s _ bs).trans (setSlice_hostWritten _ i _)

theorem sliceIrq_hostWritten (s : State) (i : Nat) : HostWritten s (sliceIrq s i) := by
  unfold sliceIrq
  refine HostWritten.ite _ (HostWritten.ite _ ?_ (setSlice_hostWritten s i _)) (HostWritten.refl s)
  exact (setSlice_hostWritten s i _).trans (sendMsix_hostWritten _ _)

/-- A completion entry of a slice (R316, R319). -/
theorem cqWrite_hostWritten (s : State) (i ts kind port ctx id code aux : Nat) : HostWritten s (cqWrite s i ts kind port ctx id code aux) := by
  unfold cqWrite
  exact ((sliceWrite_hostWritten s _ _ _).trans (modSlice_hostWritten _ i _)).trans (sliceIrq_hostWritten _ i)

theorem cqWriteReserved_hostWritten (s : State) (i ts kind port ctx id code aux : Nat) :
    HostWritten s (cqWriteReserved s i ts kind port ctx id code aux) :=
  (modSlice_hostWritten s i _).trans (cqWrite_hostWritten _ _ _ _ _ _ _ _ _)

/-- A notice (R317). -/
theorem notice_hostWritten (s : State) (i ctx code id : Nat) : HostWritten s (notice s i ctx code id) := by
  unfold notice
  dsimp only
  split
  · rfl
  · split
    · exact cqWrite_hostWritten _ _ _ _ _ _ _ _ _
    · rfl

theorem rxDrop_hostWritten (s : State) (i ctx : Nat) : HostWritten s (rxDrop s i ctx) := by
  unfold rxDrop
  dsimp only
  split
  · rfl
  · split
    · rfl
    · exact (setSlice_hostWritten s i _).trans (notice_hostWritten _ _ _ _ _)

theorem txDrop_hostWritten (s : State) (i : Nat) : HostWritten s (txDrop s i) := rfl

theorem managerIrq_hostWritten (s : State) : HostWritten s (managerIrq s) := by
  unfold managerIrq
  split <;> rfl

theorem mrAdvance_hostWritten (s : State) (n : Nat) : HostWritten s (mrAdvance s n) := rfl

/-- An entry of the manager completion queue (R323). -/
theorem mgrCq_hostWritten (s : State) (ts kind port ctx id code aux : Nat) : HostWritten s (mgrCq s ts kind port ctx id code aux) := by
  unfold mgrCq
  refine HostWritten.ite _ ?_ (HostWritten.refl s)
  exact ((writeBytes_hostWritten s _ _).trans (mrAdvance_hostWritten _ 4)).trans (managerIrq_hostWritten _)

/-- A transmit descriptor's end (R91, R317). -/
theorem txComplete_hostWritten (s : State) (src : FrameSrc) (ts port ctx code txstat : Nat) :
    HostWritten s (txComplete s src ts port ctx code txstat) := by
  unfold txComplete
  split
  · rfl
  · exact HostWritten.ite _ (HostWritten.refl s) (mgrCq_hostWritten _ _ _ _ _ _ _ _)
  · next i tag =>
    have h := HostWritten.ite (code = 0x01) (HostWritten.refl s) (txDrop_hostWritten s i)
    dsimp only
    revert h
    generalize (if code = 0x01 then s else txDrop s i) = u
    intro h
    refine HostWritten.ite _ h (HostWritten.ite _ (h.trans ?_) (h.trans (setSlice_hostWritten u i _)))
    exact cqWriteReserved_hostWritten u i ts 1 port ctx tag code txstat

/-! ### Levels of bobbins -/

/-- A level written reads back, and the other level is as it was. -/
@[simp] theorem level_setLevel_self (x : Bobbin) (fg : Bool) (l : Level) : (x.setLevel fg l).level fg = l := by
  cases fg <;> rfl

@[simp] theorem level_setLevel_other (x : Bobbin) (fg : Bool) (l : Level) : (x.setLevel fg l).level (!fg) = x.level (!fg) := by
  cases fg <;> rfl

/-- A level is written to its bobbin alone. -/
theorem putLevel_eq (s : State) (b : Nat) (fg : Bool) (l : Level) : putLevel s b fg l = { s with bobbins := (putLevel s b fg l).bobbins } := rfl

@[simp] theorem getBob_putLevel_self (s : State) (b : Nat) (fg : Bool) (l : Level) : getBob (putLevel s b fg l) b = (getBob s b).setLevel fg l :=
  smapGet_set_self _ _ _ _

theorem getBob_putLevel_ne (s : State) (b : Nat) (fg : Bool) (l : Level) {j : Nat} (hj : j ≠ b) : getBob (putLevel s b fg l) j = getBob s j :=
  smapGet_set_ne _ _ _ hj

/-- An open value drawn advances the model's counter alone. -/
theorem draw_eq (s : State) : draw s = (Config.freeValue s.freeCtr, { s with freeCtr := s.freeCtr + 1 }) := rfl

end Sys2Proof.Machine
end

