-- ==== Sys2Proof/Tests/Slice0.lean ====
section
/-! SUPPORT. Tests/Slice0.lean: for each statement a state and operands that meet the hypotheses of each of its clauses, with what the step
does there; an ill-formed term for each check of WellFormed; and numbers that the spec writes out. -/
open Sys2Proof Sys2Proof.Machine
namespace Sys2Proof
namespace Tests
set_option Elab.async false

/-- A module in service: out of reset, host access open, the ports released, the PCIe link up. -/
def up : State :=
  { State.reset with
    boot := { BootSt.reset with inReset := false, phase := .service, access := .full, portHold := false }
    hostIf := { HostIfSt.reset with linkUp := true }
    mor := { MorSt.reset with fresh := false, mode := 0 } }

/-- The same module in LC_FIELD. -/
def field : State := { up with lc := { LcSt.reset with lcw := 0xFFFFFF, st := .field, idKey := some 1, idPub := some 2, devFp := some 3, cert := true } }

/-- A sampled-values frame of one ASDU without a security extension. -/
def sv : Frame :=
  { form := .sv, dstMac := 0x010CCD040001, srcMac := 0x1, vlanTags := 1, vlanId := 5, appId := 0x4000, fragment := false, dstAddr := 0,
    srcAddr := 0, udpPort := 0, ident := [], smpCnts := [7], smpSynch := 2, samples := [[1, 2, 3, 4, 5, 6, 7, 8]], stNum := 0, sqNum := 0,
    tSec := 0, tFrac := 0, ttl := 0, simulation := false, quality := [0, 0, 0, 0, 0, 0, 0, 0], ext := none, redSeq := none,
    hsrTagged := false, bytes := List.replicate 64 0 }

/-- A port with its link up. -/
def port : PortSt := { PortSt.idle with up := true, speedAct := 3 }

/-- A slot of the mailbox that asks for no result. -/
def slot : Slot := ⟨1, 0, 0⟩

/-- What an outcome says of its next state; false on a stop. -/
def next (o : Host.Outcome State Fault Refusal) (p : State → Bool) : Bool :=
  match o with
  | .next t => p t
  | _ => false

/-- The words of a context: CTRL, KCUR, KNEXT, RATE (4,000 samples a second) and HOME with SLICE, the others 0. -/
def ctxWords (ctrl kcur knext home : Word) : List Word :=
  [ctrl, kcur, knext, 0, 0, 0, 0x0FA00000#32] ++ List.replicate 16 0 ++ [home]

/-- A context of pillow 0 and slice 0 without keys: a subscriber of sampled values, or with the DIR bit a publisher. -/
def ctx (ctrl : Word) (key : Option LookupKey) : Ctx :=
  { words := ctxWords ctrl 0xFFFFFFFF#32 0 0, key := key, lookup := key.isSome, pub := none, declRate := 4000, scrBase := 0, scrLen := 0,
    bgOwner := 0, deferred := 0, pendingEval := false, failHarm := false, failBal := false, overlap := 0, kcv := 0, lastTs := 0, ttl := 0,
    reserve := 0, ivNoted := false, bitwNoted := false, initDue := false, changes := [], moving := none, removing := none, origin := none, epoch := 0,
    epochNoted := false }

/-- A frame of the pool that waits for dispatch on pillow 0. -/
def fr (f : Frame) (ctx : Option Nat) : FrameRec := FrameRec.fresh f (.port 0) 0 ctx 0 12 0 false

/-- A lane request of a class without operands. -/
def req (op cls : Nat) : LaneReq :=
  { id := 5, op := op, cls := cls, bobbin := none, frame := none, block := [], key := none, slot := some 0, target := none, loadCtx := none,
    arg := [], left := 100, rest := 0, restore := 0, status := 0, out := [], val := 0, started := false, rd := 0, startAt := 0 }

/-- A Firn slot with a key of an attribute. -/
def key (attr : Nat) : SlotSt := ⟨.blob 0, attr, 0, 9, 77, false, 0, false⟩

/-! ### The queue, the state at reset, register pages -/

/-- A step exists with commands waiting, and with none; the reset memory is canonical. -/
theorem test_StepKeepsQueueOrder :
    next (step { up with pending := [.ppsOut, .holdoverExpiry] }) (fun t => t.pending == [.holdoverExpiry])
    ∧ [Instr.ppsOut, .holdoverExpiry].all Instr.wf = true ∧ memWf up = true ∧ next (step up) (fun t => memWf t) := by decide +kernel

theorem test_IdleStepIsOneNanosecond :
    (up.pending = [] ∧ up.ptp.st = .freerun ∧ up.ptp.ns < 999999999 ∧ up.ptp.sec < 2 ^ 48 ∧ brideSends up = false ∧ up.firn.kstate ≠ .changing)
    ∧ next (step up) (fun t => t.boot.now == 1 && t.ptp.ns == 1) := by decide +kernel

/-- A byte list with an index in it. -/
theorem test_ReadAfterWrite : (1 : Nat) < [1#8, 2#8].length ∧ readByte (writeBytes up 0xFFF [1#8, 2#8]) 0x1000 = 2#8 := by decide +kernel

theorem test_RegisterWrites :
    (0x1024 ∈ plainWords ∧ writeCause up .manager 4 0x1024 1#32 = 0 ∧ (regDesc 1 0x24).isSome = true)
    ∧ ((regDesc 0 0x24).map (·.rw) = some 0 ∧ accessCause up .manager 4 0x24 = 0)
    ∧ ((15 : Nat) < 16 ∧ accessCause up .cc 4 (regAddr 0x4F 0x100) = 0 ∧ (0x1740#32).toNat < 2 ^ 18 ∧ rsvdValue up 0x4F 0x100 0x1740#32 = false
        ∧ (getPage up 0x4F).armed .cc = false ∧ (getReg up (regAddr 0x4F 0x100)).toNat < 2 ^ 18 ∧ 0x1740#32 ≠ getReg up (regAddr 0x4F 0x100))
    ∧ writeCause up .cc 4 (regAddr 0x4F 0x100) 0x1740#32 = 3 := by decide +kernel

theorem test_RefusedAccessIsRecorded :
    writeCause up .manager 2 0x1024 0#32 = 6
    ∧ (accessCause up .manager 4 0x24FFC = 5 ∧ 0x24FFC % 0x1000 ≠ 0 ∧ 0x24FFC % 4 = 0)
    ∧ next (exec (.regWrite .manager 2 0x1024 0#32) up) (fun t => bit (getPage t 1).stat 22 && getReg t 0x24 == 1#32 && bit (getPage t 0).stat 0
        && getReg t 0x20 == werrWord .manager false 0x1024 6)
    ∧ ((2 : Nat) ≠ 4 ∧ (2 : Nat) ≠ 8) ∧ 0x1028 % 8 = 0 ∧ accessCause up .manager 4 0x1024 = 0
    ∧ next (exec (.refusedRead .manager 4 0x24FFC) up) (fun t => getReg t 0x20 == werrWord .manager true 0x24FFC 5)
    ∧ next (exec (.refusedRead .manager 2 0x1024) up) (fun t => getReg t 0x20 == werrWord .manager true 0x1024 6) := by decide +kernel

/-- A status bit set in the page of the first port. -/
def evt : State := setEvt up 0x10 1

theorem test_StatusClearNeedsMatchingSeq :
    ((0x10 : Nat) < 0x1000 ∧ accessCause evt .manager 4 (regAddr 0x10 0x0C) = 0 ∧ bit (getPage evt 0x10).stat 1 = true)
    ∧ next (exec (.blkStclr .manager 0x10 0x01000002#32) evt) (fun t => !bit (getPage t 0x10).stat 1 && !(getPage t 0x10).irq)
    ∧ next (exec (.blkStclr .manager 0x10 0x00000002#32) evt) (fun t => bit (getPage t 0x10).stat 1 && (getPage t 0x10).irq) := by decide +kernel

/-- A page whose reference is not the CRC of its words, and one held in a configuration pass. -/
def cfgBad : State := modPage up 0xA0 (fun g => { g with cfgRef := g.cfgRef + 1, safeEn := true })
def cfgHeld : State := modPage up 0xA0 (fun g => { g with hold := true })

theorem test_ArmingAndConfigurationChecks :
    (accessCause up .manager 4 (regAddr 0x10 0x10) = 0 ∧ Party.cc ≠ .manager)
    ∧ ((pageBlock 0xA0).isSome = true ∧ pageOn up 0xA0 = true ∧ (cfWords 0xA0).isEmpty = false)
    ∧ ((getPage up 0xA0).hold = false ∧ cfgCrcOf 0xA0 (fun o => wordAt up .cc 0xA0 o) = (getPage up 0xA0).cfgRef ∧ (getPage up 0xA0).leaving = false)
    ∧ ((getPage cfgBad 0xA0).hold = false ∧ cfgCrcOf 0xA0 (fun o => wordAt cfgBad .cc 0xA0 o) ≠ (getPage cfgBad 0xA0).cfgRef)
    ∧ ((getPage cfgHeld 0xA0).hold = true ∧ pageOn cfgHeld 0xA0 = true)
    ∧ next (exec (.blkUnlk .manager 0x10 0x9E3721D4#32) up) (fun t => (getPage t 0x10).armed .manager && !(getPage t 0x10).armed .cc)
    ∧ next (exec (.cfgCrcPass 0xA0) cfgBad) (fun t => bit (getPage t 0xA0).stat 23 && bit (getPage t 0xA0).stat 21)
    ∧ next (exec (.cfgholdTimeout 0xA0) cfgHeld) (fun t => bit (getPage t 0xA0).stat 20 && !(getPage t 0xA0).hold) := by decide +kernel

/-! ### The time unit -/

/-- The time unit in a clock state following a source, with every source enabled on every port, domain 0. -/
def timed (st : ClkSt) (src : Nat) : State :=
  setReg { up with ptp := { PtpSt.reset with st := st, src := src, ptpOk := src == 1, irigOk := src == 3 } } 0x120020 0x000F0F00#32

theorem test_TimeReadsLatch : accessCause up .manager 4 0x120028 = 0 ∧ accessCause up .cc 4 0x121040 = 0 := by decide +kernel

/-- LOCKED on IRIG-B with 1PPS, PTP disabled. -/
def ppsLocked : State :=
  setReg { up with ptp := { PtpSt.reset with st := .locked, src := 2, irigOk := true, ppsOk := true } } 0x120020 0x00000C00#32

/-- Announces on ports 1 and 3: with port 3 gone PTP goes on with port 1. -/
def twoPorts : State := { timed .locked 1 with ptp := { (timed .locked 1).ptp with ranks := [none, some 9, none, some 5], port := 3 } }

theorem test_ClockStateFollowsSources :
    ((timed .locked 1).ptp.irigOk = false ∧ bestPort (setAt (timed .locked 1).ptp.ranks 0 none) (fld (ptpCfg (timed .locked 1)) 19 16) = none)
    ∧ ((timed .acquiring 3).ptp.ptpOk = false ∧ (timed .acquiring 3).ptp.everLocked = false)
    ∧ (ppsLocked.ptp.st = .locked ∧ ppsLocked.ptp.src = 2 ∧ ptpEn ppsLocked = false ∧ irigEn ppsLocked = true ∧ ppsLocked.ptp.irigOk = true)
    ∧ ((timed .holdover 0).ptp.st = .holdover ∧ pageSafe (timed .holdover 0) 0x120 = false)
    ∧ next (exec (.sourceLoss (.ptp 3)) twoPorts) (fun t => t.ptp.st == .locked && t.ptp.ptpOk && t.ptp.port == 1)
    ∧ next (exec (.sourceLoss (.ptp 0)) (timed .locked 1)) (fun t => t.ptp.st == .holdover && bit (getPage t 0x120).stat 0)
    ∧ next (exec (.sourceLoss .irig) (timed .acquiring 3)) (fun t => t.ptp.st == .freerun)
    ∧ next (exec (.sourceLoss .pps) ppsLocked) (fun t => t.ptp.st == .locked && t.ptp.src == 3)
    ∧ next (exec .holdoverExpiry (timed .holdover 0)) (fun t => t.ptp.st == .freerun && t.ptp.estErr == 0xFFFFFF) := by decide +kernel

/-- The frame of the second 1,000 of the year 2026, and one with a bad digit. -/
def irig (ok : Bool) : IrigFrame := { wellFormed := ok, second := 1000, year := some 2026, taiUtc := none, offset := 40 }
def announce : PtpMsg := ⟨.announce, 0, true, 5, none, none, 0, []⟩
/-- IRIG-B frames alone enabled, LOCKED on PTP. -/
def irigOn : State := setReg { up with ptp := { PtpSt.reset with st := .locked, src := 1, ptpOk := true } } 0x120020 0x00000A00#32
/-- PTP and IRIG-B valid and 2,001 ns apart. -/
def apart : State := { irigOn with ptp := { irigOn.ptp with irigOk := true, irigOffset := 2001 } }

theorem test_PulseAndIrigInputs :
    (fld (getReg (timed .freerun 0) 0x120020) 10 10 = 1 ∧ pageSafe (timed .freerun 0) 0x120 = false ∧ (timed .freerun 0).ptp.irigOk = false
        ∧ ¬ ((timed .freerun 0).ptp.st = .locked ∧ (timed .freerun 0).ptp.src = 2 ∧ 1000000 < (5 : Int).natAbs))
    ∧ (fld (getReg irigOn 0x120020) 11 11 = 1 ∧ pageSafe irigOn 0x120 = false ∧ irigOn.ptp.substitute = false ∧ (irig true).wellFormed = true
        ∧ irigOn.ptp.irigPrev = none ∧ (irig true).year.isSome = true ∧ fld (getReg irigOn 0x120020) 10 10 = 0 ∧ irigOn.ptp.st = .locked
        ∧ irigOn.ptp.src = 1 ∧ (irig false).wellFormed = false)
    ∧ (apart.ptp.irigOk = true ∧ apart.ptp.rejected = false ∧ 2000 < (apart.ptp.irigOffset - apart.ptp.ptpOffset).natAbs)
    ∧ next (exec (.irigbFrame (irig false)) irigOn) (fun t => bit (getPage t 0x120).stat 3)
    ∧ next (exec .timeSourceCompare apart) (fun t => bit (getPage t 0x120).stat 2 && t.ptp == apart.ptp) := by decide +kernel

/-- The second 0 of 2026 in UTC is 1,767,225,600 s after the epoch. -/
theorem test_irigSecond : irigSecond irigOn { irig true with second := 0 } = 1767225600 := by decide +kernel

/-- Every port up, every source enabled, the clock in FREERUN. -/
def ptpUp : State := setPort (setPort (timed .freerun 0) 0 port) 3 port
def ranked : State := { ptpUp with ptp := { ptpUp.ptp with ranks := [none, none, none, some 5] } }

theorem test_PtpMessagesAreServed :
    ((getPort ptpUp 3).up = true ∧ announce.optionOk = true ∧ pairMode ptpUp 3 = 0 ∧ ptpEn ptpUp = true ∧ bit (fld (ptpCfg ptpUp) 19 16) 3 = true
        ∧ announce.domain = fld (ptpCfg ptpUp) 31 24 ∧ pageSafe ptpUp 0x120 = false ∧ portSends ptpUp 3 = true)
    ∧ (ranked.ptp.substitute = false ∧ bestPort ranked.ptp.ranks (fld (ptpCfg ranked) 19 16) = some 3 ∧ ranked.ptp.st = .freerun)
    ∧ next (exec (.ptpMessage 3 announce) ptpUp) (fun t => t.ptp.port == 3)
    ∧ next (exec (.ptpMessage 3 { announce with kind := .followUp, offset := some 20000 }) ranked) (fun t => t.ptp.st == .acquiring && t.ptp.port == 3)
    ∧ next (exec (.ptpMessage 3 { announce with kind := .pdelayResp, delay := some 77 }) ptpUp) (fun t => t.ptp.pdelay == [none, none, none, some 77])
    ∧ (announce.domain ≠ fld (ptpCfg (setReg ptpUp 0x120020 0x010F0F00#32)) 31 24)
    ∧ next (exec (.ptpMessage 0 { announce with optionOk := false }) ptpUp) (fun t => getReg t (pbpReg 0 0x3C) == 1#32) := by decide +kernel

/-! ### Ports and frames -/

/-- Port 0 up, with a frame in reception and where it goes. -/
def rxing (f : Frame) (to_ : RxTo) : State := setPort up 0 { port with rxFrame := some f, rx := to_ }
/-- A subscriber of the frame, in service, and the port up. -/
def subscribed : State :=
  { setPort up 0 port with ctxs := [(3, some (ctx 0 (keyOf 0 sv)))], cls := ⟨[(⟨0, false, 0, 0, 0x010CCD040001, 0, 5, 0x4000, 0⟩, 3)], [], 0⟩ }
/-- The same subscriber on a pillow that holds as many cells as NORMAL admission allows. -/
def subscribedFull : State := setPil subscribed 0 { Pillow.init with qcells := 0x1740 }

/-- A frame of 63 bytes with its FCS, and port 0 on SGMII with a receive latency of 700 ns. -/
def runt : Frame := { sv with bytes := List.replicate 59 0 }
def sgmii : State := setReg (setReg (setPort up 0 port) (pbpReg 0 0x20) 4#32) (pbpReg 0 0x2C) 0x000A02BC#32

theorem test_FrameArrivalAdmits :
    (1 ≤ sv.smpCnts.length ∧ sv.smpCnts.length ≤ 8 ∧ 60 ≤ sv.bytes.length ∧ sv.bytes.length ≤ 1518 ∧ runt.bytes.length + 4 < 64)
    ∧ ((getPort subscribed 0).up = true ∧ (getPort subscribed 0).rxFrame = none ∧ sv.form = .sv ∧ sv.hsrTagged = false ∧ sv.fragment = false
        ∧ sv.vlanTags ≤ 1 ∧ pairMode subscribed 0 = 0 ∧ (keyOf (segmentOf subscribed 0) sv).bind (lookup subscribed) = some 3
        ∧ getCtx subscribed 3 = some (ctx 0 (keyOf 0 sv)) ∧ (ctx 0 (keyOf 0 sv)).pubDir = false
        ∧ admitRefusal subscribed 3 (ctx 0 (keyOf 0 sv)) = none)
    ∧ (keyOf (segmentOf (setPort up 0 port) 0) sv).bind (lookup (setPort up 0 port)) = none
    ∧ admitRefusal subscribedFull 3 (ctx 0 (keyOf 0 sv)) = some 0 ∧ getCtx subscribedFull 3 = some (ctx 0 (keyOf 0 sv))
    ∧ next (exec (.frameArrival 0 sv) subscribed) (fun t => (getFrame t 0).map (·.cells) == some 12 && t.pool.free == 0x20000 - 12)
    ∧ next (exec (.frameArrival 0 sv) subscribedFull) (fun t => bit (getPage t 0x40).stat 0 && t.pool == up.pool)
    ∧ next (exec (.frameArrival 0 sv) (setPort up 0 port)) (fun t => bit (getPage t 0x20).stat 0)
    ∧ next (exec (.frameArrival 0 runt) (setPort up 0 port)) (fun t => !bit (getPage t 0x20).stat 0 && (getPort t 0).rxFrame == some runt)
    ∧ next (exec (.frameArrival 0 sv) { sgmii with ptp := { sgmii.ptp with ns := 1000 } }) (fun t => (getPort t 0).rxTs == 300) := by decide +kernel

def pooled : State := setFrame (rxing sv (.pool 0)) 0 (some (fr sv (some 3)))

theorem test_LastByteEndsReception :
    ((getPort (rxing sv .nowhere) 0).rxFrame = some sv ∧ (getPort (rxing sv .nowhere) 0).rx = .nowhere ∧ (getPort (rxing sv .nowhere) 0).rxCopy = none)
    ∧ ((getPort pooled 0).rx = .pool 0 ∧ pairMode pooled 0 = 0 ∧ getFrame pooled 0 = some (fr sv (some 3)) ∧ (fr sv (some 3)).stage = .ready)
    ∧ next (exec (.frameLastByte 0 63 true) (rxing sv .nowhere)) (fun t => getReg t (pbpReg 0 0x38) == 1#32)
    ∧ next (exec (.frameLastByte 0 1523 true) (rxing sv .nowhere)) (fun t => getReg t (pbpReg 0 0x38) == 1#32)
    ∧ next (exec (.frameLastByte 0 64 false) (rxing sv .nowhere)) (fun t => getReg t (pbpReg 0 0x34) == 1#32 && bit (getPage t 0x10).stat 1)
    ∧ next (exec (.frameLastByte 0 1522 true) pooled) (fun t => (getFrame t 0).map (·.cells) == some 12 && getReg t (pbpReg 0 0x30) == 1#32)
    ∧ next (exec (.frameLastByte 0 64 true) pooled) (fun t => (getFrame t 0).map (·.cells) == some 1) := by decide +kernel

/-- An HSR pair of ports 0 and 1, both up, with a frame in reception on port 0. -/
def hsr : State := setPort (setReg (rxing { sv with redSeq := some 1, hsrTagged := true } .nowhere) (pbpReg 0 0x24) 0x00640002#32) 1 port
/-- Port 0 at 1 Gb/s or as an SGMII port, its link down. -/
def speed (v : Word) : State := setReg up (pbpReg 0 0x20) v

/-- The ring frame is sent on, and its copy waits on the other port. -/
def passed : State := setFrame (setPort hsr 0 { getPort hsr 0 with rxPassed := true, rxCopy := some 9 }) 9 (some (fr sv none))

theorem test_RingRedundancy :
    ((getPort hsr 0).rxFrame = some { sv with redSeq := some 1, hsrTagged := true } ∧ pairMode hsr 0 = 2 ∧ (getPort hsr 0).rxPassed = false
        ∧ ownSource hsr { sv with redSeq := some 1, hsrTagged := true } = false ∧ dupSeen hsr 0 { sv with redSeq := some 1, hsrTagged := true } = false
        ∧ sv.form ≠ .ptp ∧ portSends hsr (otherPort 0) = true)
    ∧ ((getPort passed 0).rxFrame.isSome = true ∧ (getPort passed 0).rxPassed = true)
    ∧ ((getPort passed 0).rx = .nowhere ∧ (getPort passed 0).rxCopy = some 9 ∧ getFrame passed 9 = some (fr sv none))
    ∧ next (exec (.hsrPassThrough 0) hsr) (fun t => (getPort t 1).q1 == [0])
    ∧ next (exec (.frameLastByte 0 64 false) passed) (fun t => (getFrame t 9).map (·.badFcs) == some true)
    ∧ next (exec (.dupEntryExpiry 0 5 6) (setPairNet up 0 ⟨[⟨5, 6, 0, 0, none⟩, ⟨5, 7, 0, 0, none⟩], 3⟩))
        (fun t => (getPairNet t 0).filter == [⟨5, 7, 0, 0, none⟩] && (getPairNet t 0).seqNo == 3) := by decide +kernel

theorem test_LinksFollowReports :
    (portEnabled (speed 3) 0 = true ∧ (getPort (speed 3) 0).spdErr = false ∧ (getPort (speed 3) 0).up = false)
    ∧ (portEnabled up 0 = false ∧ (getPort up 0).up = false)
    ∧ (portSpeed (speed 4) 0 = 4 ∧ PhySpeed.m1000 ≠ .m10 ∧ (getPort (speed 4) 0).up = false)
    ∧ (port.up = true ∧ port.rxFrame = none ∧ port.rxCopy = none ∧ port.tx = none ∧ port.q1 = [] ∧ port.q2 = [] ∧ port.q3 = [])
    ∧ next (exec (.linkChange 0 ⟨true, true, false⟩) (speed 3)) (fun t => (getPort t 0).up && bit (getPage t 0x10).stat 0)
    ∧ next (exec (.linkChange 0 ⟨true, true, true⟩) up) (fun t => !(getPort t 0).up && (getPort t 0).los)
    ∧ next (exec (.linkChange 0 ⟨false, false, true⟩) (setPort (speed 3) 0 port)) (fun t => !(getPort t 0).up && getReg t (pbpReg 0 0x4C) == 1#32)
    ∧ next (exec (.phySpeedReport 0 .m10) (speed 4)) (fun t => (getPort t 0).spdErr)
    ∧ next (exec (.phySpeedReport 0 .m1000) (speed 4)) (fun t => (getPort t 0).phySpeed) := by decide +kernel

/-- Ports 0 and 1 at 1 Gb/s in one segment, the page armed for the manager, port 0 up. -/
def pairArmed : State := modPage (setPort (setReg (setReg (speed 3) (pbpReg 1 0x20) 3) 0x20020 0xE0#32) 0 port) 0x10 (fun g => g.setArmed .manager true)

theorem test_PairConfigurationIsHeld :
    (writeCause pairArmed .manager 4 (pbpReg 0 0x24) 0x0FA00000#32 = 0 ∧ fld 0x0FA00000#32 1 0 = pairMode pairArmed 0)
    ∧ (writeCause pairArmed .manager 4 (pbpReg 0 0x24) 0x00010001#32 = 0 ∧ fld 0x00010001#32 1 0 ≠ pairMode pairArmed 0
        ∧ (getPort pairArmed 0).up = true ∧ (getPort pairArmed 0).rxFrame = none ∧ (getPort pairArmed 1).rxFrame = none
        ∧ pairArmed.pool.frames = [] ∧ (getPort pairArmed 0).q1 = [] ∧ (getPort pairArmed 0).q2 = [] ∧ (getPort pairArmed 0).q3 = []
        ∧ (getPort pairArmed 0).tx = none ∧ (getPort pairArmed 1).up = false)
    ∧ next (exec (.pairModeChange .manager 0 0x00010001#32) pairArmed) (fun t =>
        getReg t (pbpReg 0 0x24) == 0x00010001#32 && !(getPort t 0).up && getReg t (pbpReg 0 0x4C) == 1#32)
    ∧ next (exec (.pairModeChange .manager 0 0x0FA00000#32) pairArmed) (fun t => getReg t (pbpReg 0 0x24) == 0x0FA00000#32 && (getPort t 0).up)
    := by decide +kernel

/-! ### Egress, deliveries, dispatch -/

/-- A published frame of port 0 queued there, its page released and not yet sent. -/
def out : FrameRec := { fr sv none with stage := .verdict, egress := 1, consumers := 1 }
def queued (q1 q2 : List Nat) : State := setFrame (setPort up 0 { port with q1 := q1, q2 := q2 }) 7 (some out)
def sending (f : Option FrameRec) : State := setFrame (setPort up 0 { port with tx := some 7 }) 7 f
def gone : FrameRec := { out with sent := some (0, 0), txDone := true }

/-- The port down with a frame still on its queue. -/
def stuck (q1 : List Nat) : State := setPort up 0 { port with up := false, q1 := q1 }

theorem test_EgressInStrictPriority :
    ((getPort (queued [7] []) 0).tx = none ∧ (getPort (queued [7] []) 0).q1 = [7] ∧ portSends (queued [7] []) 0 = true
        ∧ getFrame (queued [7] []) 7 = some out ∧ out.sent = none)
    ∧ ((getPort (queued [] [8]) 0).q1 = [] ∧ (getPort (queued [] [8]) 0).q2 = [8] ∧ portSends (queued [] [8]) 0 = true
        ∧ getFrame (queued [] [8]) 8 = none)
    ∧ ((getPort (stuck [8]) 0).tx = none ∧ (getPort (stuck [8]) 0).q1 = [8] ∧ portSends (stuck [8]) 0 = false ∧ getFrame (stuck [8]) 8 = none)
    ∧ ((getPort (sending none) 0).tx = some 7 ∧ getFrame (sending none) 7 = none)
    ∧ (getFrame (sending (some gone)) 7 = some gone ∧ gone.txDone = true ∧ gone.sent = some (0, 0) ∧ gone.egress = 2 ^ 0 ∧ gone.consumers = 1
        ∧ gone.src = .port 0 ∧ gone.ctx = none ∧ gone.plain = false ∧ gone.bobbin = none)
    ∧ next (exec (.egressStart 0) (queued [7] [8])) (fun t => (getPort t 0).tx == some 7 && (getPort t 0).q2 == [8])
    ∧ next (exec (.egressStart 0) (queued [] [8])) (fun t => (getPort t 0).tx == some 8)
    ∧ next (exec (.egressStart 0) (stuck [8])) (fun t => (getPort t 0).q1 == [] && getReg t (pbpReg 0 0x48) == 1#32 && bit (getPage t 0x10).stat 4)
    ∧ next (exec (.egressEnd 0) (sending (some gone))) (fun t => getFrame t 7 == none && t.pool.free == 0x20000 + 12) := by decide +kernel

/-- Manager rings 1 and 4 run, with a buffer posted. -/
def mgr : State :=
  setReg (setReg (setReg up (regAddr 0xC0 0x58) 0x80000006#32) (regAddr 0xC0 0x5C) 1#32) (regAddr 0xC0 0x88) 0x80000006#32
/-- A subscriber that has been seen, and one whose previous key's epoch is over. -/
def seen (words : List Word) : State := { up with ctxs := [(3, some { ctx 0 none with words := words })] }
def lastKey : List Word := ctxWords 0 0xFFFFFFFF#32 0x60000000#32 0

theorem test_ManagementAndSupervision :
    (mgr.boot.access = .full ∧ mrRuns mgr 1 = true ∧ 0 < mrAvail mgr 1 ∧ mrRuns mgr 4 = true ∧ 0 < mrAvail mgr 4
        ∧ [1#8].length ≤ (getReg mgr (regAddr 0xC0 0x30)).toNat ∧ mgr.hostIf.mgrArmed = false)
    ∧ (getCtx (seen (ctxWords 0 0xFFFFFFFF#32 0 0)) 3 = some (ctx 0 none) ∧ (ctx 0 none).pubDir = false ∧ (ctx 0 none).lost = false)
    ∧ (getCtx (seen lastKey) 3 = some { ctx 0 none with words := lastKey } ∧ { ctx 0 none with words := lastKey }.nstate = 3
        ∧ { ctx 0 none with words := lastKey }.epochNoted = false
        ∧ serialLt (ptpSec32 (seen lastKey)) ({ ctx 0 none with words := lastKey }.word 0x14).toNat = false)
    ∧ next (exec (.streamLost 3) (seen (ctxWords 0 0xFFFFFFFF#32 0 0))) (fun t => (getCtx t 3).map (·.lost) == some true)
    ∧ next (exec (.epochEnd 3) (seen lastKey)) (fun t => (getCtx t 3).map (·.epochNoted) == some true) := by decide +kernel

/-- Slice 0 in service with its rings. -/
def slice0 : Slice := { Slice.free with st := .active, pasid := 1, rings := true, cqBase := 0x10000, cqLog := 8, rxLog := 8, txLog := 8, cqResv := 1, inFlight := 1 }
def due : FrameRec := { fr sv (some 3) with stage := .verdict, consumers := 1, verdict := 1, delivery := some ⟨0, 9, 0x20000, true, false⟩ }
def delivering : State := setFrame (setSlice (seen (ctxWords 0 0xFFFFFFFF#32 0 0)) 0 slice0) 7 (some due)

theorem test_DeliveryWritesHeadWord :
    (getFrame delivering 7 = some due ∧ due.delivery = some ⟨0, 9, 0x20000, true, false⟩ ∧ due.stage = .verdict ∧ due.egress = 0 ∧ due.consumers = 1
        ∧ due.ctx = some 3 ∧ getCtx delivering 3 = some (ctx 0 none) ∧ (ctx 0 none).removing = none ∧ due.src = .port 0 ∧ due.bobbin = none
        ∧ deliveryTurn delivering 7 due = true ∧ (getSlice delivering 0).writes = true
        ∧ (getSlice delivering 0).cqBase + 16 * (getSlice delivering 0).cqTail + 16 ≤ 0x20000 ∧ 0x20000 < 2 ^ 64)
    ∧ next (exec (.headWordWrite 7) delivering) (fun t => (getSlice t 0).cqTail == 1 && (getSlice t 0).cqResv == 0 && getFrame t 7 == none
        && readBytes t (hostKey 1 0x20000) 8 == leBytes 8 (headWord 64 1 0 0)) := by decide +kernel

/-- Pillow 0 in SERVICE with an image whose RX is at 8, and frames that wait: NORMAL 6 before HIGH 7. -/
def image : Image := { Image.default 1 1 0 0 with init := none, rx := some 8, tx := some 16, code := [], data := [], digest := [], codeLen := 0, dataLen := 0 }
def waits (fs : List (Nat × FrameRec)) : State :=
  { setPil (seen (ctxWords 0 0xFFFFFFFF#32 0 0)) 0 { Pillow.init with st := .service } with
    images := [image], pool := { PoolSt.reset with frames := fs.map (fun e => (e.1, some e.2)), next := 8 } }
def two : State := waits [(6, fr sv (some 4)), (7, { fr sv (some 3) with high := true, order := 1 })]
def twoCtx : State := setCtx two 4 (some (ctx 0 none))

theorem test_DispatchRunsTheNextFrame :
    (pillowRuns twoCtx 0 = true ∧ nextFrame twoCtx 0 = some (7, { fr sv (some 3) with high := true, order := 1 }) ∧ twoCtx.pair.commitAt = []
        ∧ getCtx twoCtx 3 = some (ctx 0 none) ∧ (ctx 0 none).pubDir = false ∧ nextBobbin twoCtx 0 { fr sv (some 3) with high := true, order := 1 } = some 0
        ∧ (imageFor twoCtx 0 (ctx 0 none).kind false).map (·.rx) = some (some 8))
    ∧ ((6, fr sv (some 4)) ∈ frameList twoCtx ∧ (fr sv (some 4)).pillow = 0 ∧ dispatchable twoCtx 6 (fr sv (some 4)) = true)
    ∧ (twoCtx.firn.kstate = .nommk ∧ (subscriberGate twoCtx (ctx 0 none) sv 0).code = 0x23)
    ∧ next (exec (.frameDispatch 0) twoCtx) (fun t => (getBob t 0).frame == some 7 && (getFrame t 7).map (·.stage) == some .running) := by decide +kernel

/-- A window of 4,000 counts at count 6, that has seen and taken count 7: the same counts again fail. -/
def after7 : Ctx := (((ctx 0 none).setWord 0x20 7).setWord 0x24 0).setSeenLost true false
def before7 : Ctx := (((ctx 0 none).setWord 0x20 6).setWord 0x24 0).setSeenLost true false

theorem test_ReplayedSamplesAreRefused :
    ((svReplay before7 before7.reorder [7]).fail = 0 ∧ (svReplay before7 before7.reorder [7]).rpl = [7, 0, 0] ∧ 2 * [7].length ≤ before7.modulus
        ∧ after7.word 0x20 = 7 ∧ after7.word 0x24 = 0 ∧ after7.smpRate = before7.smpRate ∧ after7.seen = true ∧ after7.lost = false)
    ∧ (svReplay after7 after7.reorder [7]).fail = 0x40 := by decide +kernel

/-! ### Cipher lanes -/

/-- Lane 0 in SERVICE with a request in its queue, and slot 0 with a key. -/
def lane (attr : Nat) (q : List LaneReq) : State :=
  { setSlot (setLane up 0 { LaneSt.init with st := .service, queue := q }) 0 (some (key attr)) with
    ctxs := [(3, some (ctx 0x03000000#32 none))], pool := { PoolSt.reset with frames := [(7, some (fr sv (some 3)))] } }
/-- A frame request of an operation: AAD 0 to 31, tag at 40, IV at 4. -/
def freq (op : Nat) : LaneReq := { req op 1 with frame := some 7, block := [op, 32, 4 * 65536 + 8, 40 * 65536 + 4] }

theorem test_FrameOperations :
    (laneFree (getLane (lane 1 [freq 1]) 0) = true ∧ laneFree (getLane (lane 0 [freq 2]) 0) = true
        ∧ laneFree (getLane (lane 1 [freq 3]) 0) = true ∧ laneFree (getLane (lane 0 [freq 4]) 0) = true)
    ∧ (nextReq (getLane (lane 1 [freq 1]) 0).queue = some (freq 1, []) ∧ (freq 1).slot = some 0 ∧ getSlot (lane 1 [freq 1]) 0 = some (key 1)
        ∧ attrOk 1 (key 1) = true ∧ attrOk 2 (key 0) = true ∧ attrOk 3 (key 1) = true ∧ attrOk 4 (key 0) = true)
    ∧ (nextReq (getLane (lane 0 [freq 2]) 0).queue = some (freq 2, []) ∧ nextReq (getLane (lane 1 [freq 3]) 0).queue = some (freq 3, [])
        ∧ nextReq (getLane (lane 0 [freq 4]) 0).queue = some (freq 4, []) ∧ getSlot (lane 0 [freq 2]) 0 = some (key 0))
    ∧ ((freq 3).frame.bind (getFrame (lane 1 [freq 3])) = some (fr sv (some 3))
        ∧ (fr sv (some 3)).ctx.bind (getCtx (lane 1 [freq 3])) = some (ctx 0x03000000#32 none) ∧ (ctx 0x03000000#32 none).alg = 6)
    := by decide +kernel

/-- Requests of the Firn port: UNWRAP, DERIVE, KCV, and a self-test. -/
theorem test_FirnPortOperations :
    (laneFree (getLane (lane 2 [req 8 1]) 0) = true ∧ nextReq (getLane (lane 2 [req 8 1]) 0).queue = some (req 8 1, []) ∧ attrOk 8 (key 2) = true)
    ∧ (nextReq (getLane (lane 3 [req 0xA 1]) 0).queue = some (req 0xA 1, []) ∧ attrOk 0xA (key 3) = true)
    ∧ (nextReq (getLane (lane 1 [req 0xB 0]) 0).queue = some (req 0xB 0, []) ∧ attrOk 0xB (key 1) = true)
    ∧ nextReq (getLane (lane 1 [req 0xE 0]) 0).queue = some (req 0xE 0, [])
    ∧ (nextReq (getLane (lane 0 [req 1 1]) 0).queue = some (req 1 1, []) ∧ (key 0).attr ≠ 1)
    ∧ next (exec (.verify 0) (lane 0 [req 1 1])) (fun t => (getLane t 0).running.map (·.status) == some 3)
    ∧ next (exec (.laneSelftest 0) (lane 1 [req 0xE 0])) (fun t => (getLane t 0).running.map (·.op) == some 0xE) := by decide +kernel

/-- Requests of the control cluster at the head of the queue: WRAP of key 5, KMAC and a hash of one byte. -/
def wrapReq : LaneReq := { req 9 0 with arg := beBytes 32 5 }
def hashReq : LaneReq := { req 0xD 0 with slot := none, arg := [1#8] }

theorem test_ClusterPortOperations :
    (nextReq (getLane (lane 2 []) 0).queue = none)
    ∧ (laneFree (getLane (lane 2 [wrapReq]) 0) = true ∧ nextReq (getLane (lane 2 [wrapReq]) 0).queue = some (wrapReq, []) ∧ attrOk 9 (key 2) = true
        ∧ wrapReq.slot = some 0 ∧ getSlot (lane 2 [wrapReq]) 0 = some (key 2) ∧ 5 < 2 ^ 256)
    ∧ (nextReq (getLane (lane 3 [{ req 0xC 0 with arg := [1#8] }]) 0).queue = some ({ req 0xC 0 with arg := [1#8] }, []) ∧ attrOk 0xC (key 3) = true)
    ∧ (nextReq (getLane (lane 3 [hashReq]) 0).queue = some (hashReq, []) ∧ laneFree (getLane (lane 3 [hashReq]) 0) = true)
    ∧ next (exec (.wrap 0 0 5) (lane 2 [])) (fun t => (getPil t 0).arb.waiting.map (fun e => (e.1, e.2.op)) == [(32, 9)]) := by decide +kernel

/-- Lane 0 has nothing at the head of its queue, so none of the requests of the control cluster. -/
theorem test_ClusterPortOperations_none : HeadsNot (lane 2 []) 0 9 (beBytes 32 5) (some 0) := by
  intro q rest h
  simp [show nextReq (getLane (lane 2 []) 0).queue = none from by decide +kernel] at h

/-- Lane 0 in SERVICE and a request at position 3 of the arbiter of pillow 0. -/
def arb : State := setPil (lane 1 []) 0 { Pillow.init with arb := ⟨[(3, { req 1 1 with key := some (.blob 0) })], [], 0⟩ }
def busy (r : LaneReq) (q susp : List LaneReq) : State :=
  setLane (lane 1 []) 0 { LaneSt.init with st := .service, queue := q, running := some r, susp := susp }

theorem test_LaneAdmissionAndSuspension :
    ((getPil arb 0).arb.moved = [] ∧ pillowServes arb 0 = true ∧ zeroisedNow arb = false
        ∧ arbWinner arb (getPil arb 0).arb true = some (3, { req 1 1 with key := some (.blob 0) }, [])
        ∧ laneRoom arb (chooseLane arb 0 (some 0)) = true)
    ∧ (laneServes (setLane (lane 1 []) 1 (getLane (lane 1 []) 0)) 0 = true ∧ laneServes (setLane (lane 1 []) 1 (getLane (lane 1 []) 0)) 1 = true
        ∧ laneCached (lane 1 []) 0 (some 0) = laneCached (lane 1 []) 1 (some 0))
    ∧ ((getLane (busy { req 8 0 with left := 33 } [req 1 2] []) 0).running = some { req 8 0 with left := 33 } ∧ 0 + 1 < topClass [req 1 2]
        ∧ 32 < { req 8 0 with left := 33 }.remaining (busy { req 8 0 with left := 33 } [req 1 2] [])
        ∧ (getLane (busy { req 8 0 with left := 33 } [req 1 2] []) 0).susp.length < 2)
    ∧ ((getLane (setLane up 0 { LaneSt.init with susp := [req 8 0] }) 0).susp = [req 8 0] ∧ topClass [] ≤ (req 8 0).cls + 1)
    ∧ ((getLane (lane 1 [req 8 0]) 0).queue = [req 8 0] ∧ (req 8 0).id = 5 ∧ (req 8 0).cls = 0 ∧ (getLane (lane 1 []) 0).depth < 64)
    ∧ next (exec (.laneAdmission 0) arb) (fun t => (getLane t 0).queue.length == 1 && (getPil t 0).arb == ⟨[], [], 4⟩)
    ∧ next (exec (.laneSuspend 0) (busy { req 8 0 with left := 33 } [req 1 2] [])) (fun t => (getLane t 0).susp.map (·.left) == [33])
    ∧ next (exec (.servicePromotion 0 5) (lane 1 [req 8 0])) (fun t => (getLane t 0).queue.map (·.cls) == [1])
    ∧ next (exec (.serviceSelftestInsert 0) (lane 1 [])) (fun t => (getLane t 0).queue.map (·.op) == [0xE]) := by decide +kernel

/-- Bobbin 0 waits for the result that lane 0 runs for its frame. -/
def awaiting : State :=
  setBob (setFrame (busy { freq 1 with bobbin := some 0, status := 1, started := true } [] []) 7 (some { fr sv (some 3) with bobbin := some 0 })) 0
    { Bobbin.init 0 with frame := some 7, fg := { Level.entry with lres := some 4 } }
/-- Both lanes of pillow 0 in SERVICE, a request in the queue of lane 0. -/
def both : State := setLane (lane 1 [req 8 0]) 1 { LaneSt.init with st := .service }
/-- Lane 0 in self-test, lane 1 in SERVICE. -/
def bothTest : State := setLane both 0 LaneSt.init
/-- A lane in a state, switched off when no self-test follows. -/
def laneIn (st : LaneState) : State := setLane up 0 { LaneSt.init with st := st, offDue := true }

theorem test_LaneResultsFaultsAndControl :
    ((getLane awaiting 0).running = some { freq 1 with bobbin := some 0, status := 1, started := true } ∧ (getLane awaiting 0).st = .service
        ∧ (getPil awaiting 0).arb.moved = [] ∧ (freq 1).rest = 0 ∧ getFrame awaiting 7 = some { fr sv (some 3) with bobbin := some 0 } ∧ (getBob awaiting 0).frame = some 7
        ∧ (getBob awaiting 0).fg.lres = some 4)
    ∧ ((getLane both 0).st = .service ∧ (getLane both 0).running = none ∧ both.pair.recov = false ∧ laneServes both 1 = true
        ∧ (getPil both 0).arb.moved = [])
    ∧ ((getLane (laneIn .fault) 0).st = .fault ∧ (getLane (laneIn .fault) 0).offDue = true ∧ bit (laneIn .fault).pwc.lane 0 = true)
    ∧ ((getLane (laneIn .selftest) 0).st = .selftest ∧ laneWanted (laneIn .selftest) 0 = true)
    ∧ ((getLane bothTest 0).st = .selftest ∧ bothTest.pair.recov = false ∧ laneServes bothTest 1 = true)
    ∧ next (exec (.laneSelftestDone 0 false 2) bothTest) (fun t => (getLane t 0).st == .fault && bit (getPage t 0x60).stat 0)
    ∧ next (exec (.laneResult 0) awaiting) (fun t => (getFrame t 7).map (·.laneStatus) == some (some 1) && (getBob t 0).fg.lres == none
        && getReg t (cplReg 0 0x30) == 1#32)
    ∧ next (exec (.laneFault 0 2 1) both) (fun t => (getLane t 0).st == .fault && (getLane t 1).queue.length == 1 && bit (getPage t 0x60).stat 0)
    ∧ next (exec (.laneFaultPoweroff 0) (laneIn .fault)) (fun t => (getLane t 0).st == .off && !bit t.pwc.lane 0)
    ∧ next (exec (.laneSelftestDone 0 true 0) (laneIn .selftest)) (fun t => (getLane t 0).st == .service) := by decide +kernel

/-- A page armed for the manager. -/
def armed (s : State) (p : Nat) : State := modPage s p (fun g => g.setArmed .manager true)

theorem test_LaneResultsFaultsAndControl_ctrl :
    (laneWanted (setReg (laneIn .selftest) (cplReg 0 0x20) 0) 0 = false ∧ (getLane (laneIn .selftest) 0).depth = 0
        ∧ (getLane (laneIn .selftest) 0).stDue = false)
    ∧ writeCause (armed (laneIn .fault) 0x60) .manager 4 (cplReg 0 0x20) (cplCtrlWord true true) = 0
    ∧ writeCause (armed (laneIn .service) 0x60) .manager 4 (cplReg 0 0x20) (cplCtrlWord false false) = 0
    ∧ (writeCause (armed (laneIn .draining) 0x60) .manager 4 (cplReg 0 0x20) (cplCtrlWord false true) = 0
        ∧ pageSafe (armed (laneIn .draining) 0x60) 0x60 = false)
    ∧ next (exec (.cplSelftest .manager 0 true) (armed (laneIn .fault) 0x60)) (fun t => (getLane t 0).st == .selftest)
    ∧ next (exec (.cplInsvc .manager 0 false) (armed (laneIn .service) 0x60)) (fun t => (getLane t 0).st == .draining && bit (getPage t 0x60).stat 2)
    ∧ next (exec (.cplInsvc .manager 0 true) (armed (laneIn .draining) 0x60)) (fun t => (getLane t 0).st == .service)
    ∧ next (exec (.laneSelftestDone 0 true 0) (setReg (laneIn .selftest) (cplReg 0 0x20) 0)) (fun t => (getLane t 0).st == .draining)
    := by decide +kernel

/-! ### The mailbox, the journal and keys -/

/-- The mailbox runs with a command slot waiting, in LC_FIELD with an ACTIVE master key and a full random queue. -/
def mbx : State :=
  { setReg (setReg field 0x140030 0x80000004#32) 0x140034 1#32 with
    firn := { FirnSt.reset with kstate := .active, recA := MmkRec.withCrc ⟨1, 0xA5, 3, none, 0, 0⟩ }
    rng := { RngSt.reset with st := .ready, qfill := 96 }
    ltu := { LtuSt.reset with st := .idle }
    liu := { LiuSt.reset with st := .idle } }
def jrec (done : Option MbxDone) : JRec := ⟨[], done, none, 0, 0⟩

theorem test_MailboxAndJournal :
    (fld (mbxCtrl mbx) 31 31 = 1 ∧ slot.tag < 2 ^ 16 ∧ mbx.hostIf.mbxArmed = false)
    ∧ (MbxDone.mk slot 0x41 0 0 0 = ⟨slot, 0x41, 0, 0, 0⟩ ∧ (jrec none).removed = none ∧ (jrec none).items = [] ∧ (jrec none).ack ≤ mbx.pair.acked)
    ∧ (mbxFinish mbx slot 0x48 (MbxRes.ok 0)).hostIf.ccTail = 1
    ∧ next (exec .journalDurable { mbx with journal := [jrec none, jrec none] }) (fun t => t.journal.length == 1)
    ∧ next (exec .journalDurable { mbx with journal := [jrec (some ⟨slot, 0x41, 0, 0, 0⟩)] }) (fun t => t.hostIf.ccTail == 1) := by decide +kernel

def blob0 : Blob := ⟨1, 0, 0, 9, 0, [], false, false, 0⟩
/-- A request for blob 4 waits at the arbiter of pillow 1, with these needs known. -/
def needs (l : List Need) : State :=
  setPil { mbx with firn := { mbx.firn with blobs := [(4, some blob0)], needs := l } } 1
    { Pillow.init with arb := ⟨[(32, { req 1 1 with key := some (.blob 4) })], [], 0⟩ }
def need4 : Need := ⟨.blob 4, 0, [0], 0, 0, [], [], false⟩

theorem test_KeyNeedsAreMerged :
    ((getPil (needs []) 1).arb.waiting = [(32, { req 1 1 with key := some (.blob 4) })] ∧ resident (needs []) (.blob 4) = none
        ∧ getBlob (needs []) 4 = some blob0 ∧ blob0.bad = false ∧ (needs []).firn.needs = [] ∧ (needs [need4]).firn.needs = [need4])
    ∧ (need4.key = .blob 4 ∧ need4.issued = false ∧ (needs []).firn.kstate ≠ .nommk)
    ∧ next (exec (.firnNeed (.request 1 32)) (needs [])) (fun t => t.firn.needs.map (·.pillows) == [[1]] && (getPil t 1).arb.waiting == [])
    ∧ next (exec (.firnNeed (.request 1 32)) (needs [need4])) (fun t => t.firn.needs.map (·.pillows) == [[0, 1]] && getReg t (regAddr 0x80 0x2C) == 1#32)
    ∧ next (exec (.blobReadDone 4 true true) (needs [need4])) (fun t => t.firn.needs.map (·.issued) == [true]
        && (getPil t 0).arb.waiting.map (·.1) == [32]) := by decide +kernel

/-- A context with key 2 current and key 3 next, READY or PENDING. -/
def keyed (nstate : Word) : Ctx := { ctx 0 none with words := ctxWords 0 2#32 (nstate <<< 29 ||| 3#32) 0 }
def withCtx (c : Ctx) (s : State) : State := { s with ctxs := [(3, some c)] }
def sched : State := withCtx (keyed 2) { mbx with firn := { mbx.firn with schedule := [⟨0, [3], none, false⟩] } }
def rewrap : State :=
  let a := MmkRec.withCrc ⟨2, 0x5A, 4, none, 0, 0⟩
  let b := MmkRec.withCrc ⟨1, 0xA5, 3, none, 0, 0⟩
  { mbx with firn := { mbx.firn with kstate := .changing, recA := a, recB := b } }

theorem test_CommitsAndMasterKeyChange :
    ((keyed 2).words.length = 24 ∧ (keyed 2).noKey = false ∧ (keyed 2).nstate = 2 ∧ (keyed 2).pubDir = false)
    ∧ (sched.firn.schedule = [⟨0, [3], none, false⟩] ∧ 0 ≤ sched.ptp.sec ∧ getCtx sched 3 = some (keyed 2) ∧ (keyed 2).commitWaits = false ∧ ctxRunning sched 3 = false)
    ∧ (rewrap.firn.kstate = .changing ∧ rewrap.firn.recA.staged = true ∧ rewrap.tamper.cer ≠ .exec)
    ∧ next (exec .scheduledCommit sched) (fun t => (getCtx t 3).map (fun c => (c.nstate, c.word 4, c.gen)) == some (3, 3#32, 1) && t.firn.schedule == [])
    ∧ next (exec .mmkRewrapDone rewrap) (fun t => t.firn.kstate == .active && t.firn.recB == .empty && t.firn.recA.active && t.lc.keyed) := by decide +kernel

def node0 : TreeNode := ⟨none, some 4, 0, 3, 0, 9, []⟩
def tree : State := withCtx (ctx 0 none) { mbx with firn := { mbx.firn with blobs := [(4, some blob0)], nodes := [(6, some node0)], slots := [(2, some { key 1 with holds := .blob 4 })] } }
def stageable : State := withCtx (ctx 0x02000000#32 none) { mbx with firn := { mbx.firn with blobs := [(4, some blob0)] } }
def leaf : NodeDef := ⟨7, some 6, 0, 0, 3, 2, 11, [1#8]⟩

theorem test_KeyCommands :
    (commitBusy stageable 3 = false ∧ (ctx 0x02000000#32 none).changes = [] ∧ ctxRunning stageable 3 = false ∧ mbxReady stageable = true ∧ stageable.pwc.lpHold = false ∧ lcBar stageable 0x41 = none
        ∧ stageable.tamper.zeroised = false ∧ mmkActive stageable = true ∧ getBlob stageable 4 = some blob0
        ∧ keyFits (ctx 0x02000000#32 none) blob0.attr blob0.ktype = true ∧ (ctx 0x02000000#32 none).nstate = 0
        ∧ (ctx 0x02000000#32 none).words.length = 24 ∧ resident stageable (.blob 4) = none ∧ (0 : Nat) ≤ overlapMax)
    ∧ (keyBusy (withCtx (keyed 2) mbx) 3 = false ∧ lcBar mbx 0x42 = none ∧ lcBar mbx 0x43 = none ∧ mbx.pair.st = .single ∧ lcBar mbx 0x48 = none)
    ∧ (lcBar tree 0x44 = none ∧ blob0.slice = 0 ∧ pinnedBlobs tree < 8192 ∧ pinnedAll tree < 12288 ∧ resident tree (.blob 4) = some 2
        ∧ (getSlot tree 2).isSome = true)
    ∧ (lcBar tree 0x45 = none ∧ leaf.index < 2 ^ 20 ∧ 0 < leaf.label.length ∧ getNode tree 6 = some node0 ∧ node0.attr = 3 ∧ node0.slice = leaf.slice ∧ tooDeep tree 7 6 = false
        ∧ tree.firn.nodes.all (fun e => e.2.all (fun n => n.parent != some 7)) = true)
    ∧ (lcBar mbx 0x49 = none ∧ mbx.firn.gdoi.length < 16 ∧ lcBar mbx 0x46 = none ∧ mbx.lc.identity = true
        ∧ mbx.firn.kstate ≠ .changing ∧ mbx.rng.st = .ready ∧ mbx.rng.waiting = [])
    ∧ next (exec (.keyStage slot 3 0 4 0 0) stageable) (fun t => (getCtx t 3).map (·.nstate) == some 1 && t.firn.stageCmds == [(3, slot)])
    ∧ next (exec (.keyCommit slot [3] 0 5) (withCtx (keyed 2) mbx)) (fun t => (getCtx t 3).map (·.nstate) == some 3)
    ∧ next (exec (.keyAbort slot 3) (withCtx (keyed 1) mbx)) (fun t => (getCtx t 3).map (·.nstate) == some 0)
    ∧ next (exec (.blobPin slot 0 4 true) tree) (fun t => (getSlot t 2).map (·.pinned) == some true)
    ∧ next (exec (.nodeDefine slot leaf) tree) (fun t => (getNode t 7).map (·.parent) == some (some 6))
    ∧ next (exec (.gdoiMap slot 1 2 [3] 0) (withCtx (ctx 0 none) mbx)) (fun t => t.firn.gdoi.length == 1) := by decide +kernel

/-- Enough bytes for the 64 of the seed, the 32 of the rnd and every further attempt at the signature. -/
def fullQueue (bytes n : Nat) : State := { mbx with rng := { mbx.rng with qfill := bytes + 32 * Config.freeValue n } }

theorem test_KeyTableCommands_kem : 96 + 32 * Config.freeValue ((fullQueue 96 3).freeCtr + 3) ≤ (fullQueue 96 3).rng.qfill := Nat.le_refl _

/-- A certificate that the library takes, and one signed on another curve. -/
def cert : CertIn := ⟨.ecdsaP256, 0, 0, 0, 0, 0, 0, true, []⟩

theorem test_IdentityCommands :
    (lcBar mbx 0x50 = none ∧ mbx.lc.idPub = some 2 ∧ mbx.lc.certChain = [] ∧ lcBar mbx 0x51 = none ∧ (List.replicate 32 0#8).length = 32
        ∧ mbx.lc.st = .field ∧ mbx.lc.identity = true ∧ mbx.ltu.st = .idle ∧ mbx.rng.st = .ready)
    ∧ (lcBar mbx 0x52 = none ∧ mbx.lc.svnMin = 1 ∧ (runningImage mbx).svn < 2)
    ∧ (runningImage { mbx with boot := { mbx.boot with imageA := { deliveredImage with svn := 2 } } }).svn = 2
    ∧ (lcBar mbx 0x53 = none ∧ cert.alg ≠ .unsupported ∧ mbx.pwc.liu = true ∧ mbx.liu.st = .idle)
    ∧ next (exec (.svnAdvance slot 2) { mbx with boot := { mbx.boot with imageA := { deliveredImage with svn := 2 } } }) (fun t => t.lc.svnMin == 2)
    ∧ next (exec (.svnAdvance slot 2) mbx) (fun t => t.lc.svnMin == 1) := by decide +kernel

theorem test_IdentityCommands_attest : 32 + 32 * Config.freeValue ((fullQueue 32 2).freeCtr + 2) ≤ (fullQueue 32 2).rng.qfill := Nat.le_refl _

/-- A bundle of one working-key entry for context 3, 6,371 bytes (R177, R178). -/
def bundle : List Byte :=
  beBytes 4 0x4B584B42 ++ [0#8, 1#8, 1#8, 0#8] ++ List.replicate 0x40 0#8 ++ beBytes 8 1 ++ [0#8, 0#8, 0#8, 1#8] ++ List.replicate 20 0#8
    ++ beBytes 4 1 ++ List.replicate 1572 0#8 ++ beBytes 4 3 ++ [0#8, 0#8, 1#8, 0#8] ++ beBytes 4 9 ++ List.replicate 52 0#8
    ++ List.replicate 4627 0#8
def gdoi : GdoiIn :=
  { outward := false, registration := true, group := 1, seq := 0, authentic := true, kid := some 2, ktype := 0, activate := 0, key := [],
    kek := none, lib := [] }
def gmap : GdoiMap := ⟨1, 2, [3], 0⟩
def mapped : State := { stageable with firn := { stageable.firn with gdoi := [gmap] } }

/-- A module whose identity is revoked (R360). -/
def killed : State := { stageable with lc := { stageable.lc with idKill := true, idKey := none, idPub := none } }

theorem test_ArrivingKeysAreStaged :
    (lcBar mbx 0x40 = none ∧ bundleBad [] = true ∧ (bundleTargets []).any (keyBusy mbx) = false)
    ∧ (bundleBad bundle = false ∧ beAt bundle 6 1 = 1 ∧ (bundleEntries bundle).length = 1 ∧ beAt bundle 0x58 8 = 0
        ∧ (bundleEntries bundle).all (fun e => e.target == 3 && e.slice == 0 && keyFits (ctx 0x02000000#32 none) e.attr e.ktype) = true
        ∧ getCtx stageable 3 = some (ctx 0x02000000#32 none) ∧ (ctx 0x02000000#32 none).slice = 0
        ∧ firstFree stageable.firn.blobs 0 = 0 ∧ resident stageable (.blob 0) = none)
    ∧ (lcBar mapped 0x4A = none ∧ gdoi.registration = true ∧ mapped.rng.st = .ready ∧ mapped.rng.waiting = [] ∧ 96 ≤ mapped.rng.qfill ∧ gdoi.lib = []
        ∧ gdoi.authentic = true ∧ gdoi.kid = some 2
        ∧ mmkActive mapped = true ∧ mapped.firn.gdoi = [gmap] ∧ gmap.group = gdoi.group ∧ gmap.kid = 2 ∧ gmap.ctxs = [3]
        ∧ keyFits (ctx 0x02000000#32 none) 1 gdoi.ktype = true)
    ∧ (lcBar killed 0x40 = none ∧ killed.lc.idKill = true ∧ killed.tamper.zeroised = false ∧ mmkActive killed = true ∧ (bundleTargets bundle).any (keyBusy killed) = false) := by decide +kernel

/-! ### The lattice and the long-integer unit -/

/-- The LTU in a state with an operation, and one that waits for no bytes. -/
def ltuIn (st : UnitState) (op : Option LtuOp) : State := { mbx with ltu := { LtuSt.reset with st := st, op := op } }
/-- The LTU idle while Flurry is FATAL. -/
def ltuFatal : State := { ltuIn .idle none with rng := { mbx.rng with st := .fatal } }

theorem test_LatticeUnitRuns :
    ((ltuIn .idle none).pwc.ltu = true ∧ (ltuIn .idle none).ltu.asking = false ∧ LtuOp.sha3 ≠ .dsaSign ∧ (ltuIn .idle none).rng.st = .ready
        ∧ (ltuIn .idle none).rng.waiting = [] ∧ 32 ≤ (ltuIn .idle none).rng.qfill ∧ ltuFatal.ltu.st = .idle ∧ ltuFatal.rng.st = .fatal)
    ∧ ((ltuIn .busy (some .sha3)).ltu.op = some .sha3 ∧ (ltuIn .busy (some .sha3)).ltu.queue = []
        ∧ (ltuIn .busy (some .dsaSign)).ltu.op = some .dsaSign)
    ∧ next (exec (.ltuOperation .sha3 []) (ltuIn .idle none)) (fun t => t.ltu.st == .busy && t.ltu.op == some .sha3)
    ∧ next (exec (.ltuOperation .kemKeygen []) ltuFatal) (fun t => t.ltu.status == 3 && t.ltu.st == .idle)
    ∧ next (exec (.ltuOperation .dsaSign []) (ltuIn .idle none)) (fun t => t.ltu.rnd.isSome && t.rng.qfill == 64)
    ∧ next (exec (.ltuOperation (.shake128 16) []) (ltuIn .busy (some .dsaSign))) (fun t => t.ltu.queue == [(.shake128 16, [])])
    ∧ next (exec (.ltuOperationDone 64 false) (ltuIn .busy (some .dsaSign))) (fun t => t.ltu.st == .busy && t.ltu.restarts == 1 && bit (getPage t 0x90).stat 1)
    ∧ next (exec (.ltuOperationDone 1 true) (ltuIn .busy (some .dsaSign))) (fun t => t.ltu.st == .fault && bit (getPage t 0x90).stat 0) := by decide +kernel

def gated (v : Word) : State := setReg { mbx with pwc := { PwcSt.reset with ltu := true } } 0x130020 v

theorem test_IdleUnitsAreGated :
    (fld (getReg (gated 3) 0x130020) 1 1 = 1 ∧ pageSafe (gated 3) 0x130 = false ∧ (gated 3).pwc.ltu = true ∧ (gated 3).ltu.st = .idle
        ∧ (gated 3).ltu.asking = false ∧ (gated 3).pwc.liu = true ∧ (gated 3).liu.st = .idle ∧ fld (getReg (gated 3) 0x130020) 0 0 = 1
        ∧ bit (gated 3).pwc.cp 3 = true)
    ∧ next (exec (.unitIdleGate .ltu) (gated 3)) (fun t => t.ltu.st == .off && !t.pwc.ltu)
    ∧ next (exec (.unitIdleGate .liu) (gated 3)) (fun t => t.liu.st == .off && !t.pwc.liu)
    ∧ next (exec (.cpIdleGate 1) (gated 3)) (fun t => t.pwc.cp == 7) := by decide +kernel

/-- An idle LIU with public registers 1 and 2, secret register 3, and a modulus of one word. -/
def liu (a b m : Nat) : State :=
  { mbx with liu := { LiuSt.reset with st := .idle, pw := [(1, a), (2, b)], sw := [(3, a)], modulus := m, modLen := 1, modInv := montInv m, modR2 := 2 ^ 128 % m } }
def lw (dst a b : Fin 64) (rel : Bool) : LiuWord := ⟨[], dst, a, b, rel, 0⟩

theorem test_LongIntegerCommands :
    ((liu 5 7 11).pwc.liu = true ∧ liuGet (liu 5 7 11).liu 1 1 % 2 = 1 ∧ 2 ^ (64 * 0) ≤ liuGet (liu 5 7 11).liu 1 1 ∧ liuGet (liu 6 7 11).liu 1 1 % 2 = 0)
    ∧ ((liu 5 7 11).liu.st = .idle ∧ (lw 30 1 2 false).dst.val < 31 ∧ (lw 33 35 0 false).dst.val ≥ 32 ∧ 32 ≤ (lw 1 35 0 false).srcA.val
        ∧ (lw 1 35 0 false).release = false)
    ∧ next (exec (.setmod (lw 0 1 0 false)) (liu 5 7 11)) (fun t => t.liu.st == .busy)
    ∧ next (exec (.setmod (lw 0 1 0 false)) (liu 6 7 11)) (fun t => t.liu.last == .badOperand)
    ∧ next (exec (.mul (lw 30 1 2 false)) (liu (2 ^ 64 - 1) (2 ^ 64 - 1) 11)) (fun t => t.liu.res == [(30, 1), (31, 2 ^ 64 - 2)])
    ∧ next (exec (.copy (lw 1 35 0 false)) (liu 5 7 11)) (fun t => t.liu.last == .badCmd && t.liu.st == .idle)
    ∧ next (exec (.copy (lw 1 35 0 true)) (liu 5 7 11)) (fun t => t.liu.res == [(1, 5)])
    ∧ next (exec (.zero (lw 40 0 0 false)) (liu 5 7 11)) (fun t => t.liu.res == [(40, 0)])
    ∧ next (exec (.liuCmp (lw 0 1 2 false)) (liu 5 7 11)) (fun t => t.liu.resCmp == some 1)
    ∧ next (exec (.keyin (lw 32 0 0 false) 4) (liu 5 7 11)) (fun t => t.liu.last == .badOperand) := by decide +kernel

def liuRunning (c : LiuCmd) (res : List (Nat × Nat)) (st : UnitState) : State :=
  { liu 5 7 11 with liu := { (liu 5 7 11).liu with st := st, running := some c, res := res } }

theorem test_LongIntegerResults :
    ((liuRunning ⟨8, 63, 35, 0, false, 1, 0⟩ [(63, 5)] .busy).liu.res = [(63, 5)] ∧ (liuRunning ⟨8, 63, 35, 0, false, 1, 0⟩ [(63, 5)] .busy).liu.resCmp = none)
    ∧ ((LiuCmd.mk 8 63 35 0 false 1 0).secret = true ∧ (LiuCmd.mk 8 63 35 0 false 1 0).writes = true
        ∧ (LiuCmd.mk 1 0 35 0 false 1 0).secret = true)
    ∧ (liu 5 7 11).liu.mismatches = 0 ∧ (liu 5 7 11).liu.queue = []
    ∧ next (exec (.liuCommandDone true) (liuRunning ⟨8, 63, 35, 0, false, 1, 0⟩ [(63, 5)] .busy)) (fun t => smapGet (fun _ => 0) t.liu.sw 31 == 5 && getReg t 0x91024 == 1#32)
    ∧ next (exec (.liuCommandDone true) (liuRunning ⟨1, 0, 1, 0, false, 1, 0⟩ [] .busy)) (fun t => t.liu.modulus == 5 && t.liu.modR2 == 2 ^ 128 % 5)
    ∧ next (exec (.liuCommandDone false) (liuRunning ⟨8, 63, 35, 0, false, 1, 0⟩ [(63, 5)] .busy)) (fun t => t.liu.last == .residue && bit (getPage t 0x91).stat 0)
    ∧ next (exec (.liuCommandDone true) { liu 5 7 11 with liu := { (liu 5 7 11).liu with st := .aborting } }) (fun t => t.liu.last == .aborted && bit (getPage t 0x91).stat 1)
    ∧ next (exec .liuAbort (liuRunning ⟨8, 63, 35, 0, false, 1, 0⟩ [(63, 5)] .busy)) (fun t => t.liu.st == .aborting && t.liu.pw == [])
    ∧ next (exec .liuSelftest { liu 5 7 11 with liu := { (liu 5 7 11).liu with st := .fault } }) (fun t => t.liu.st == .busy) := by decide +kernel

theorem test_ModularArithmetic :
    ((liu 5 7 11).liu.modLen = 0 + 1 ∧ (11 : Nat) % 2 = 1 ∧ (11 * (liu 5 7 11).liu.modInv + 1) % 2 ^ 64 = 0 ∧ liuGet (liu 5 7 11).liu 1 1 = 5
        ∧ liuGet (liu 5 7 11).liu 2 1 = 7 ∧ (5 : Nat) < 11 ∧ (7 : Nat) < 11 ∧ 32 ≤ (lw 32 1 2 false).dst.val)
    ∧ next (exec (.modadd (lw 32 1 2 false)) (liu 5 7 11)) (fun t => t.liu.res == [(32, 1)])
    ∧ next (exec (.modsub (lw 32 1 2 false)) (liu 5 7 11)) (fun t => t.liu.res == [(32, 9)]) := by decide +kernel

/-- The window takes what comes with the command: registers 1 and 2 exchanged before the difference. -/
theorem test_publicWindow :
    next (exec (.modsub { lw 32 1 2 false with pub := [(1, 7), (2, 5)] }) (liu 5 7 11)) (fun t => t.liu.res == [(32, 2)]) := by decide +kernel

/-! ### Bobbins and pillows -/

def imageB : Image := { image with init := some 4, bg := some 12 }
/-- Every pillow in SERVICE with one image, and a context on pillow 0. -/
def serving (c : Ctx) : State :=
  { withCtx c mbx with images := [imageB], pillows := (List.range 16).map (fun p => (p, { Pillow.init with st := .service })) }
def initing : State := serving { ctx 0 none with initDue := true }
def item : BgItem := ⟨3, 3, 0x77, []⟩
def posted : State := setBob (serving (ctx 0 none)) 0 { Bobbin.init 0 with queue := [item] }
def inItem : State := setBob (serving (ctx 0 none)) 0 { Bobbin.init 0 with item := some item }
def balCtx : Ctx := { ctx 0 none with words := (ctxWords 0 0xFFFFFFFF#32 0 0).set 17 0x00108000#32 }
def group (inst : List (Nat × Nat × List (Nat × List Int))) : Group := ⟨0, 0x10000, 8, 1, 1, 1, 1, 4000, 0, inst, [], 0, 0, false, none⟩
def collecting : State := { serving balCtx with groups := [(1, some (group [(7, 0, [])]))] }
/-- Frame 7 of context 3 runs on bobbin 0. -/
def onBob : FrameRec := { fr sv (some 3) with stage := .running, bobbin := some 0, pillow := 0 }
def held (c : Ctx) : State := setFrame (setBob (serving c) 0 { Bobbin.init 0 with frame := some 7 }) 7 (some onBob)

theorem test_ItemsAndLimits :
    (getCtx initing 3 = some { ctx 0 none with initDue := true } ∧ (getBob initing 0).frame = none ∧ (getBob initing 0).item = none
        ∧ (getBob initing 0).queue = [] ∧ (getBob initing 0).role = .scheduled ∧ (imageFor initing 0 0 false).map (·.init) = some (some 4)
        ∧ (ctx 0 none).bgOwner = 0)
    ∧ ((getBob posted 0).queue = [item] ∧ item.kind ≠ 0 ∧ item.target < 0x40000 ∧ (imageFor posted 0 0 false).map (·.bg) = some (some 12))
    ∧ (getGroup collecting 1 = some (group [(7, 0, [])]) ∧ members collecting 1 = [(3, balCtx)] ∧ getCtx collecting 3 = some balCtx
        ∧ (getBob collecting 0).queue.length = 0)
    ∧ (getBob inItem 0).item = some item
    ∧ ((getBob (held (ctx 0 none)) 0).frame = some 7 ∧ (getBob (held (ctx 0 none)) 0).put = false ∧ getFrame (held (ctx 0 none)) 7 = some onBob
        ∧ onBob.stage = .running ∧ onBob.bobbin = some 0 ∧ onBob.ctx = some 3 ∧ onBob.src = .port 0 ∧ onBob.delivery = none ∧ onBob.vote = []
        ∧ (getBob (held (ctx 0 none)) 0).shadow = none
        ∧ (ctx 0 none).failPol = false ∧ (ctx 0 none).removing = none ∧ (ctx 0 none).changes = [])
    ∧ next (exec (.init 3) initing) (fun t => (getBob t 0).item.map (·.kind) == some 0 && (getBob t 0).bg.reg 1 == 3#32)
    ∧ next (exec (.bgItem 0) posted) (fun t => (getBob t 0).item == some item && (getBob t 0).bg.reg 3 == 0x77#32)
    ∧ next (exec (.balwaitExpiry 1 7) collecting) (fun t => (getCtx t 3).map (·.deferred) == some 0x10
        && (getBob t 0).queue == [⟨2, 0x40001, 7, []⟩])
    ∧ next (exec (.bgItemLimit 0) inItem) (fun t => (getBob t 0).item == none && bit (getPage t 0x40).stat 6)
    ∧ next (exec (.fgLimit 0) (held (ctx 0 none))) (fun t => getFrame t 7 == none && t.pool.free == 0x2000C && getReg t (regAddr 0x40 0x40) == 1#32)
    := by decide +kernel

/-- Bobbin 31 under test. -/
def testing : State := setBob (serving (ctx 0 none)) 31 { Bobbin.init 31 with role := .testing }
/-- What a run on a bobbin puts, with a verdict code alone. -/
def ran (b code : Nat) : Outcome := ⟨b, code, 0, [], [], []⟩
/-- The verdict of bobbin 0 waits for its shadow on bobbin 31, which put this code. -/
def shadowing (code : Nat) : State :=
  setBob (setBob (held (ctx 0 none)) 0 { Bobbin.init 0 with frame := some 7, await := some (1, 0) }) 31
    { Bobbin.init 31 with shadow := some 7, result := some (ran 31 code) }
/-- The third run of the frame, on bobbin 0, has put code 1; two runs before it put these codes. -/
def third (a b : Nat) : State :=
  setFrame (setBob (held (ctx 0 none)) 0 { Bobbin.init 0 with frame := some 7, await := some (1, 0) }) 7
    (some { onBob with vote := [ran 1 a, ran 2 b] })

theorem test_SpareRotates :
    ((getPil (serving (ctx 0 none)) 15).st = .service ∧ (serving (ctx 0 none)).pair.recov = false ∧ spareOf (serving (ctx 0 none)) 15 = some 511
        ∧ (getBob (serving (ctx 0 none)) 511).role = .spare ∧ (getBob (serving (ctx 0 none)) 511).shadow = none
        ∧ nextOut (serving (ctx 0 none)) 15 = some 480)
    ∧ ((getBob testing 31).role = .testing ∧ (getBob testing 31).frame = none ∧ spareOf testing 0 = some 31 ∧ schedBobs testing 0 ≠ [])
    ∧ next (exec (.spareRotation 15) (serving (ctx 0 none))) (fun t => (getBob t 480).role == .testing && (getBob t 511).role == .scheduled)
    ∧ next (exec (.bobbinSelftestDone 31 true) (writeByte testing (dramKey 31 0x4000) 1)) (fun t => (getBob t 31).role == .spare && t.mem == [])
    := by decide +kernel

theorem test_QuarantineAndConsistency :
    ((getBob (serving (ctx 0 none)) 0).role = .scheduled ∧ (getBob (serving (ctx 0 none)) 0).frame = none
        ∧ (getBob (serving (ctx 0 none)) 0).shadow = none ∧ spareOf (serving (ctx 0 none)) 0 = some 31
        ∧ (getBob (serving (ctx 0 none)) 31).shadow = none)
    ∧ ((getBob (shadowing 1) 0).await = some (1, 0) ∧ (getBob (shadowing 1) 0).frame = some 7 ∧ getFrame (shadowing 1) 7 = some onBob
        ∧ (getBob (shadowing 1) 31).shadow = some 7 ∧ (getBob (shadowing 1) 31).result = some (ran 31 1)
        ∧ ((getBob (shadowing 1) 0).outcome 0 1 0).agrees (ran 31 1) = true)
    ∧ (((getBob (shadowing 2) 0).outcome 0 1 0).agrees (ran 31 2) = false ∧ (schedBobs (shadowing 2) 0).any (fun j => j != 0 && j != 31) = true)
    ∧ (getFrame (third 1 2) 7 = some { onBob with vote := [ran 1 1, ran 2 2] } ∧ (getBob (third 1 2) 0).await = some (1, 0)
        ∧ ((getBob (third 1 2) 0).outcome 0 1 0).agrees (ran 1 1) = true ∧ ((getBob (third 1 2) 0).outcome 0 1 0).agrees (ran 2 2) = false)
    ∧ next (exec (.bobbinQuarantine 0 .parity) (serving (ctx 0 none))) (fun t => (getBob t 0).role == .quarantined && !bit t.pwc.bob 0
        && (getBob t 31).role == .scheduled && bit (getPage t 0x40).stat 3)
    ∧ next (exec (.shadowCompare 0 31) (shadowing 1)) (fun t => (getBob t 0).await == none && (getBob t 31).shadow == none)
    ∧ next (exec (.shadowCompare 0 31) (shadowing 2)) (fun t => (getFrame t 7).map (·.stage) == some .ready && bit (getPage t 0x40).stat 4)
    ∧ next (exec (.shadowCompare 0 31) (third 1 2)) (fun t => (getBob t 2).role == .quarantined)
    ∧ next (exec (.shadowCompare 0 31) (third 2 1)) (fun t => (getBob t 1).role == .quarantined)
    ∧ next (exec (.shadowCompare 0 31) (third 2 3)) (fun t => getFrame t 7 == none && (getBob t 0).frame == none) := by decide +kernel

def scratched : State := serving { ctx 0 none with scrBase := 0x10000, scrLen := 16 }
def stored : State := { serving (ctx 0 none) with durable := { Durable.empty with ctxs := [(3, some (ctx 0x10000000#32 none))] } }
/-- Pillow 0 drains to the others, with a frame of the context that waits, or without one. -/
def draining : State := setPil (writeByte scratched (sharedKey 0 0x10001) 7) 0 { Pillow.init with st := .draining, targets := 0xFFFE }
def drainingBusy : State := setFrame draining 7 (some (fr sv (some 3)))
def mover : Ctx := { ctx 0 none with scrBase := 0x10000, scrLen := 16 }

theorem test_MemoryErrorsReinitialise :
    (scratchOwner scratched 0 0x1000F = some 3 ∧ (ctxFrames scratched 3).all (fun e => e.2.stage != .running) = true)
    ∧ (getCtx stored 3 = some (ctx 0 none) ∧ smapGet (fun _ => none) stored.durable.ctxs 3 = some (ctx 0x10000000#32 none) ∧ (ctx 0 none).words.length = 24)
    ∧ next (exec (.sharedRamEcc 0 0x1000F) (writeByte scratched (sharedKey 0 0x10001) 7)) (fun t => t.mem == [] && (getCtx t 3).map (·.initDue) == some true)
    ∧ next (exec (.ctxEcc 3) stored) (fun t => (getCtx t 3).map (·.kind) == some 1) := by decide +kernel

theorem test_ContextsMove :
    (getCtx drainingBusy 3 = some mover ∧ mover.bal = false ∧ mover.moving = none ∧ moveDest drainingBusy 3 mover = some 1
        ∧ (ctxFrames drainingBusy 3).any (fun e => e.2.pillow == mover.home && (e.2.stage == .ready || e.2.stage == .running)) = true)
    ∧ (getCtx draining 3 = some mover ∧ mover.words.length = 24 ∧ mover.origin = none ∧ moveDest draining 3 mover = some 1
        ∧ (ctxFrames draining 3).any (fun e => e.2.pillow == mover.home && (e.2.stage == .ready || e.2.stage == .running)) = false
        ∧ (getBob draining (ownerOf draining 3)).queue = [] ∧ (getBob draining (ownerOf draining 3)).item = none
        ∧ (getPil draining 0).cmd = none ∧ (getPil draining 1).cmd = none ∧ (imageFor draining 1 0 false).isSome = true
        ∧ sameImage draining mover 0 1 = true ∧ ramFit (ramUsed draining 1) 16 = some 0x10000 ∧ (homedOn draining 1).length < 16384)
    ∧ next (exec (.contextMove 3 1) drainingBusy) (fun t => (getCtx t 3).map (·.moving) == some (some 1))
    ∧ next (exec (.contextMove 3 1) draining) (fun t => (getCtx t 3).map (fun c => (c.home, c.gen, c.origin)) == some (1, 1, some 0)
        && readByte t (sharedKey 1 0x10001) == 7#8) := by decide +kernel

def twelve : List (Nat × Nat) := [(1, 1), (0, 0), (0, 0), (0, 0), (0, 0), (0, 0), (0, 0), (0, 0), (0, 0), (0, 0), (0, 0), (0, 0)]
def idle : State := { serving (ctx 0 none) with ctxs := [] }
/-- Pillow 0 drained, with a context away from it or none; pillow 1 with a quarantined bobbin 32 and a spare, or without. -/
def drained (c : Ctx) : State := setPil (serving c) 0 { Pillow.init with st := .drained }
def quar (r : BobRole) : State :=
  setBob (setBob (serving (ctx 0 none)) 32 { Bobbin.init 32 with role := .quarantined, quarCount := 2 }) 63 { Bobbin.init 63 with role := r }

theorem test_ProgramAndPillowCommands :
    (lcBar mbx 0x60 = none ∧ imageStatus mbx [] ≠ 0 ∧ imageBad [] = true)
    ∧ (lcBar idle 0x61 = none ∧ idle.pair.st ≠ .standby ∧ twelve.length = 12 ∧ bit idle.pwc.pil 15 = true
        ∧ ((twelve.map assignEntry).zip (List.range 12)).any (fun e => assignBad idle e.2 e.1) = false ∧ homedOn idle 15 = []
        ∧ (((twelve.map assignEntry).filterMap id).eraseDups.filterMap (findImage idle)).foldl (fun n m => n + m.codeLen) 0 ≤ 28672
        ∧ (((twelve.map assignEntry).filterMap id).eraseDups.filterMap (findImage idle)).foldl (fun n m => n + m.dataLen) 0 ≤ 8192)
    ∧ (lcBar mbx 0x65 = none ∧ (findImage { mbx with images := [{ imageB with pgmId := 99 }] } (99, 1)).isSome = true
        ∧ (List.range 16).any (fun p => (getPil mbx p).assign.contains (some (99, 1))) = false)
    ∧ (lcBar idle 0x62 = none ∧ bit 0 15 = false ∧ (List.range 16).all (pilSettled (serving (ctx 0 none))) = true
        ∧ drainFits (mbxTake (serving (ctx 0 none))) (0xFFFF - 2 ^ 0) 0 = true ∧ groupsOn (serving (ctx 0 none)) 0 = []
        ∧ homedOn (serving (ctx 0 none)) 0 ≠ [] ∧ drainFits (mbxTake idle) (0xFFFF - 2 ^ 15) 15 = true ∧ homedOn idle 15 = [])
    ∧ next (exec (.pgmLoad slot []) mbx) (fun t => t.hostIf.ccTail == 1)
    ∧ next (exec (.pgmAssign slot 15 twelve []) (writeByte idle (dramKey 511 0xFFFF) 1)) (fun t => (getPil t 15).assign == twelve.map assignEntry && t.mem == [])
    ∧ next (exec (.pillowDrain slot 0 0) (serving (ctx 0 none))) (fun t => (getPil t 0).st == .draining && bit (getPage t 0x40).stat 8)
    ∧ next (exec (.pillowDrain slot 15 0) idle) (fun t => (getPil t 15).st == .drained && t.hostIf.ccTail == 1) := by decide +kernel

theorem test_ProgramAndPillowCommands_pillows :
    (lcBar mbx 0x63 = none ∧ (getPil (drained (ctx 0 none)) 0).st = .drained ∧ bit (drained (ctx 0 none)).pwc.pil 0 = true
        ∧ (drained (ctx 0 none)).groups.any (fun e => match e.2 with | some g => g.origin == some 0 | none => false) = false
        ∧ (ctxList (drained { ctx 0 none with origin := some 0 })).any (fun e => e.2.origin == some 0) = true
        ∧ (ctxList (drained (ctx 0 none))).any (fun e => e.2.origin == some 0) = false)
    ∧ (lcBar mbx 0x64 = none ∧ (getBob (quar .spare) 32).role = .quarantined ∧ bit (quar .spare).pwc.pil 1 = true ∧ (getBob (quar .spare) 32).quarCount < 3
        ∧ (getPil (quar .spare) 1).st = .service ∧ schedBobs (quar .spare) 1 ≠ [])
    ∧ ((getBob (quar .scheduled) 32).frame = none ∧ (getBob (quar .scheduled) 32).shadow = none ∧ spareOf (quar .scheduled) 1 = none)
    ∧ next (exec (.pillowReturn slot 0) (drained { ctx 0 none with origin := some 0 })) (fun t => (getPil t 0).st == .returning)
    ∧ next (exec (.pillowReturn slot 0) (drained (ctx 0 none))) (fun t => (getPil t 0).st == .service && t.hostIf.ccTail == 1)
    ∧ next (exec (.bobbinRetest slot 32 true) (quar .spare)) (fun t => (getBob t 32).role == .scheduled)
    ∧ next (exec (.bobbinRetest slot 32 true) (quar .scheduled)) (fun t => (getBob t 32).role == .spare)
    ∧ next (exec (.bobbinRetest slot 32 false) (quar .scheduled)) (fun t => (getBob t 32).role == .quarantined && (getBob t 32).quarCount == 3)
    := by decide +kernel

/-! ### Pypian-2 -/

/-- A level of a program: g1 = 5, g2 = −7, g3 the most negative number, g4 the data RAM's work area, g5 = 0x00010203. -/
def lv : Level :=
  { Level.entry with
    pc := 0x1008#32
    g := [(1, 5#32), (2, 0xFFFFFFF9#32), (3, 0x80000000#32), (4, 0x10004000#32), (5, 0x00010203#32)] }
def runs (l : Level) : State := setBob (held (ctx 0 none)) 0 { Bobbin.init 0 with frame := some 7, fg := l }
/-- Operand fields rd, ra, rb and the low seven bits; a word that always executes. -/
def rrr (rd ra rb fn : Nat) : OpWord := ⟨0, false, BitVec.ofNat 22 (rd * 2 ^ 17 + ra * 2 ^ 12 + rb * 2 ^ 7 + fn)⟩
def ops (x : Nat) : OpWord := ⟨0, false, BitVec.ofNat 22 x⟩
/-- What a word leaves in a register, in ESTAT and in the pc. -/
def gives (l : Level) (i : Instr) (r : Nat) (v : Word) (flags : Nat) : Bool :=
  next (exec i (runs l)) (fun t => (getBob t 0).fg.reg r == v && (getBob t 0).fg.estat == flags && (getBob t 0).fg.pc == 0x100C#32)

/-- This level fetches a word of an assigned MAJOR. -/
theorem test_Fetches : Fetches (runs lv) 0 true lv ∧ majorCause (iramWord (runs lv) 0 lv.pc) = 0 := by
  unfold Fetches; decide +kernel

/-- Every word that always executes issues on this level, whatever registers it uses. -/
theorem test_Issues (x : Nat) (regs : List Nat) : Issues (runs lv) 0 true lv (ops x) regs :=
  And.intro test_Fetches.1 (And.intro test_Fetches.2 (And.intro (show lv.guard 0 false = true by decide) nofun))

/-- A level that waits for LRES issues words that do not use the register. -/
theorem test_Issues_waiting : Issues (runs { lv with lres := some 9 }) 0 true { lv with lres := some 9 } (rrr 1 2 3 0) [1, 2, 3] := by
  unfold Issues Fetches
  exact ⟨by decide +kernel, by decide +kernel, by decide +kernel, fun r h => by cases h; decide⟩

/-- The image's word at the pc has this MAJOR. -/
def atMajor (m : Nat) : State := { runs lv with images := [{ imageB with code := List.replicate 8 0 ++ leBytes 4 (m * 2 ^ 22) }] }

theorem test_Fetches_major : Fetches (atMajor 0x36) 0 true lv ∧ fld (iramWord (atMajor 0x36) 0 lv.pc) 27 22 = 0x36 ∧ majorCause (iramWord (atMajor 7) 0 lv.pc) = 2
    ∧ majorCause (iramWord (atMajor 0x3F) 0 lv.pc) = 1 := by
  unfold Fetches; decide +kernel

theorem test_GuardsAndReservedWords :
    lv.guard 7 false = false ∧ (0x14 : Nat) ≤ opFn (rrr 1 2 3 0x14) ∧ 0x14 ≤ opFn (rrr 1 2 3 0x7F)
    ∧ gives lv (.addi 0 ⟨7, false, (rrr 1 1 0 1).ops⟩) 1 5#32 0
    ∧ next (exec (.addi 0 ⟨0, true, 0⟩) (runs lv)) (fun t => (getBob t 0).frame == none && bit (getPage t 0x40).stat 6)
    ∧ next (exec (.addi 0 (rrr 1 1 0 1)) (atMajor 7)) (fun t => (getBob t 0).frame == none)
    ∧ next (exec (.alu 0 (rrr 1 2 3 0x14)) (runs lv)) (fun t => (getBob t 0).frame == none && bit (getPage t 0x40).stat 6) := by decide +kernel

theorem test_IntegerResults :
    (gives lv (.alu 0 (rrr 6 1 2 0)) 6 0xFFFFFFFE#32 0 ∧ gives lv (.alu 0 (rrr 6 1 2 1)) 6 12#32 0 ∧ gives lv (.alu 0 (rrr 6 1 2 2)) 6 1#32 0
      ∧ gives lv (.alu 0 (rrr 6 1 2 3)) 6 0xFFFFFFFD#32 0 ∧ gives lv (.alu 0 (rrr 6 1 2 4)) 6 0xFFFFFFFC#32 0 ∧ gives lv (.alu 0 (rrr 6 1 2 5)) 6 4#32 0
      ∧ gives lv (.alu 0 (rrr 6 1 2 6)) 6 0xFFFFFFF9#32 0 ∧ gives lv (.alu 0 (rrr 6 1 2 7)) 6 5#32 0 ∧ gives lv (.alu 0 (rrr 6 1 2 8)) 6 5#32 0
      ∧ gives lv (.alu 0 (rrr 6 1 2 9)) 6 0xFFFFFFF9#32 0)
    ∧ (gives lv (.alu 0 (rrr 6 3 2 0x0A)) 6 0x80000000#32 4 ∧ gives lv (.alu 0 (rrr 6 1 3 0x0B)) 6 0x7FFFFFFF#32 4
      ∧ gives lv (.alu 0 (rrr 6 3 0 0x0F)) 6 0x7FFFFFFF#32 4 ∧ gives lv (.alu 0 (rrr 6 3 0 0x11)) 6 0x7FFFFFFF#32 4
      ∧ gives lv (.alu 0 (rrr 6 3 2 0x0C)) 6 0xFFFFFFFF#32 4 ∧ gives lv (.alu 0 (rrr 6 1 2 0x0D)) 6 0#32 4
      ∧ gives lv (.alu 0 (rrr 6 3 0 0x0E)) 6 0x80000000#32 1 ∧ gives lv (.alu 0 (rrr 6 3 0 0x10)) 6 0x80000000#32 1
      ∧ gives lv (.alu 0 (rrr 6 2 0 0x0E)) 6 7#32 0 ∧ gives lv (.alu 0 (rrr 6 2 0 0x10)) 6 7#32 0
      ∧ gives lv (.alu 0 (rrr 6 3 0 0x12)) 6 0xFFFF8000#32 4 ∧ gives lv (.alu 0 (rrr 6 5 0 0x13)) 6 127#32 4
      ∧ gives lv (.alu 0 (rrr 0 1 2 0)) 0 0#32 0) := by decide +kernel

theorem test_ImmediatesExtend :
    (gives lv (.addi 0 (ops (6 * 2 ^ 17 + 1 * 2 ^ 12 + 0xFFF))) 6 4#32 0 ∧ gives lv (.andi 0 (ops (6 * 2 ^ 17 + 2 * 2 ^ 12 + 0xFFF))) 6 0xFF9#32 0
      ∧ gives lv (.ori 0 (ops (6 * 2 ^ 17 + 1 * 2 ^ 12 + 0xFFF))) 6 0xFFF#32 0 ∧ gives lv (.xori 0 (ops (6 * 2 ^ 17 + 1 * 2 ^ 12 + 0xFFF))) 6 0xFFA#32 0
      ∧ gives lv (.movhi 0 (ops (6 * 2 ^ 17 + 0xABCD))) 6 0xABCD0000#32 0 ∧ gives lv (.movlo 0 (ops (3 * 2 ^ 17 + 0xABCD))) 3 0x8000ABCD#32 0)
    ∧ next (exec (.cmpi 0 (ops (7 * 2 ^ 19 + 2 * 2 ^ 12 + 2 * 2 ^ 9 + 0x1FA))) (runs lv)) (fun t => (getBob t 0).fg.pred 7)
    ∧ next (exec (.cmpi 0 (ops (7 * 2 ^ 19 + 2 * 2 ^ 12 + 0 * 2 ^ 9 + 0x1F9))) (runs lv)) (fun t => (getBob t 0).fg.pred 7) := by decide +kernel

theorem test_MultiplyShiftAndFields :
    (gives lv (.muldiv 0 (rrr 6 1 2 0)) 6 0xFFFFFFDD#32 0 ∧ gives lv (.muldiv 0 (rrr 6 1 2 1)) 6 0xFFFFFFFF#32 0
      ∧ gives lv (.muldiv 0 (rrr 6 1 2 2)) 6 4#32 0 ∧ gives lv (.muldiv 0 (rrr 6 2 1 3)) 6 0xFFFFFFFF#32 0
      ∧ gives lv (.muldiv 0 (rrr 6 2 1 4)) 6 0x33333331#32 0 ∧ gives lv (.muldiv 0 (rrr 6 2 1 5)) 6 0xFFFFFFFE#32 0
      ∧ gives lv (.muldiv 0 (rrr 6 2 1 6)) 6 4#32 0 ∧ gives lv (.muldiv 0 (rrr 6 2 0 3)) 6 0#32 2 ∧ gives lv (.muldiv 0 (rrr 6 2 0 6)) 6 0xFFFFFFF9#32 2)
    ∧ (gives { lv with g := [(3, 0x80000000#32), (7, 0xFFFFFFFF#32)] } (.muldiv 0 (rrr 6 3 7 3)) 6 0x80000000#32 1
      ∧ gives { lv with g := [(3, 0x80000000#32), (7, 0xFFFFFFFF#32)] } (.muldiv 0 (rrr 6 3 7 5)) 6 0#32 1)
    ∧ (gives lv (.shift 0 (rrr 6 2 1 0)) 6 0xFFFFFF20#32 0 ∧ gives lv (.shift 0 (rrr 6 2 1 1)) 6 0x07FFFFFF#32 0
      ∧ gives lv (.shift 0 (rrr 6 2 1 2)) 6 0xFFFFFFFF#32 0 ∧ gives lv (.shift 0 (rrr 6 2 1 3)) 6 0xFFFFFF3F#32 0
      ∧ gives lv (.shift 0 (rrr 6 2 1 4)) 6 0xCFFFFFFF#32 0 ∧ gives lv (.shift 0 (rrr 6 2 3 0)) 6 0#32 0 ∧ gives lv (.shift 0 (rrr 6 2 3 2)) 6 0xFFFFFFFF#32 0)
    ∧ (gives lv (.shifti 0 (rrr 6 2 31 0)) 6 0x80000000#32 0 ∧ gives lv (.shifti 0 (rrr 6 2 31 1)) 6 1#32 0
      ∧ gives lv (.shifti 0 (rrr 6 2 31 2)) 6 0xFFFFFFFF#32 0 ∧ gives lv (.shifti 0 (rrr 6 1 31 4)) 6 10#32 0)
    ∧ (gives lv (.bfx 0 (rrr 6 5 8 (7 * 4))) 6 2#32 0 ∧ gives lv (.bfx 0 (rrr 6 2 31 2)) 6 0xFFFFFFFF#32 0
      ∧ gives lv (.bfi 0 (rrr 5 1 28 (3 * 4))) 5 0x50010203#32 0 ∧ gives lv (.clz 0 (rrr 6 1 0 0)) 6 29#32 0 ∧ gives lv (.clz 0 (rrr 6 0 0 0)) 6 32#32 0
      ∧ gives lv (.perm 0 (ops (6 * 2 ^ 17 + 5 * 2 ^ 12 + 0x1B))) 6 0x03020100#32 0) := by decide +kernel

/-- What a word leaves in an accumulator. -/
def accs (l : Level) (i : Instr) (a0 : Int) (flags : Nat) : Bool :=
  next (exec i (runs l)) (fun t => (getBob t 0).fg.acc0 == a0 && (getBob t 0).fg.estat == flags)

theorem test_MultiplyDivideAccumulate :
    (accs lv (.mac 0 (ops (1 * 2 ^ 12 + 2 * 2 ^ 7))) (-35) 0 ∧ accs lv (.mac 0 (ops (1 * 2 ^ 12 + 2 * 2 ^ 7 + 2 ^ 6))) 35 0
      ∧ accs { lv with acc0 := 2 ^ 47 - 1 } (.mac 0 (ops (1 * 2 ^ 12 + 1 * 2 ^ 7 + 2 ^ 5))) (2 ^ 47 - 1) 4
      ∧ accs { lv with acc0 := 2 ^ 47 - 1 } (.mac 0 (ops (1 * 2 ^ 12 + 1 * 2 ^ 7))) (-2 ^ 47 + 24) 8
      ∧ accs lv (.accwr 0 (ops (1 * 2 ^ 12 + 2 * 2 ^ 7))) (5 * 2 ^ 32 + 0xFFFFFFF9) 0)
    ∧ (gives { lv with acc0 := -3 } (.accrd 0 (ops (6 * 2 ^ 17))) 6 0xFFFFFFFD#32 0
      ∧ gives { lv with acc0 := 2 ^ 40 } (.accrd 0 (ops (6 * 2 ^ 17 + 2 * 2 ^ 14 + 47 * 2 ^ 8))) 6 0#32 0
      ∧ gives { lv with acc0 := 2 ^ 40 } (.accrd 0 (ops (6 * 2 ^ 17 + 2 * 2 ^ 14))) 6 0x7FFFFFFF#32 4) := by decide +kernel

/-- Generator 0 linear at the data RAM's work area, step 4; a store that waits. -/
def lvAg : Level := { lv with ag := [(0, ⟨0x10004000#32, 0#32, 4#32, 0#32⟩), (1, ⟨0x10004000#32, 0x40000007#32, 4#32, 0#32⟩)] }
def dataAt : State := writeBytes (runs lvAg) (dramKey 0 0x4000) [0x80#8, 1#8, 2#8, 0x83#8]
def buffered : State := setBob (runs lv) 0 { getBob (runs lv) 0 with wbuf := [⟨true, true, 0x20010000, [9#8, 8#8]⟩] }

theorem test_LoadsAndStores :
    (accessFault dataAt 0 (getBob dataAt 0) true lvAg.super .rd 0x10004000 4 = none ∧ accessFault dataAt 0 (getBob dataAt 0) true lvAg.super .wr 0x10004000 4 = none
        ∧ (getBob dataAt 0).wbuf = [] ∧ (lvAg.agen 0).addr 0 = 0x10004000#32 ∧ (lvAg.agen 1).mode ≠ 0 ∧ agCfgBad 0x40000007#32 = false)
    ∧ ((getBob buffered 0).wbuf = [⟨true, true, 0x20010000, [9#8, 8#8]⟩]
        ∧ accessFault buffered 0 { getBob buffered 0 with wbuf := [] } true true .wr 0x20010000 2 = none)
    ∧ next (exec (.ld 0 (ops (6 * 2 ^ 17 + 2 * 2 ^ 15))) dataAt) (fun t => (getBob t 0).fg.reg 6 == 0x83020180#32)
    ∧ next (exec (.ld 0 (ops (6 * 2 ^ 17 + 2 ^ 14 + 2 ^ 11))) dataAt) (fun t => (getBob t 0).fg.reg 6 == 0xFFFFFF80#32
        && ((getBob t 0).fg.agen 0).idx == 4#32)
    ∧ next (exec (.st 0 (ops (1 * 2 ^ 17 + 2 * 2 ^ 15))) dataAt) (fun t => readBytes t (dramKey 0 0x4000) 5 == [5#8, 0#8, 0#8, 0#8, 0#8])
    ∧ next (exec (.storeDrain 0) buffered) (fun t => (getBob t 0).wbuf == [] && readBytes t (sharedKey 0 0x10000) 2 == [9#8, 8#8])
    ∧ (gives lvAg (.agget 0 (ops (6 * 2 ^ 17 + 2))) 6 4#32 0 ∧ gives lvAg (.fence 0 (ops 0)) 1 5#32 0)
    ∧ next (exec (.agset 0 (ops (1 * 2 ^ 17 + 3 + 4))) (runs lvAg)) (fun t => ((getBob t 0).fg.agen 1).idx == 5#32)
    ∧ next (exec (.agset 0 (ops (2 * 2 ^ 17 + 3 + 4))) (runs lvAg)) (fun t => (getBob t 0).frame == none)
    ∧ next (exec (.agset 0 (ops (0 * 2 ^ 17 + 1))) (runs lvAg)) (fun t => ((getBob t 0).fg.agen 0).cfg == 0#32) := by decide +kernel

theorem test_LoadsAndStores_elsewhere :
    ∃ e, (getBob buffered 0).wbuf = [e] ∧ 0x20000000 ≤ e.addr ∧ e.addr + e.bytes.length ≤ 0x20100000 :=
  ⟨⟨true, true, 0x20010000, [9#8, 8#8]⟩, by decide +kernel⟩

/-- A level in supervisor mode that came from user mode at 0x2000, and one without a link to a multiple of 4. -/
def lvSuper : Level := { lv with super := true, emode := false, epc := 0x2000#32, trapped := true }

theorem test_CompareAndBranch :
    (next (exec (.cmp 0 (ops (1 * 2 ^ 19 + 2 * 2 ^ 12 + 1 * 2 ^ 7 + 2 * 8))) (runs lv)) (fun t => (getBob t 0).fg.pred 1)
      ∧ next (exec (.cmp 0 (ops (1 * 2 ^ 19 + 2 * 2 ^ 12 + 1 * 2 ^ 7 + 4 * 8))) (runs lv)) (fun t => !(getBob t 0).fg.pred 1)
      ∧ next (exec (.cmp 0 (ops (1 * 2 ^ 19 + 2 ^ 17 + 2 * 2 ^ 12 + 1 * 2 ^ 7 + 2 * 8))) (runs lv)) (fun t => !(getBob t 0).fg.pred 1)
      ∧ next (exec (.cmp 0 (ops (1 * 2 ^ 19 + 2 * 2 ^ 17 + 2 * 2 ^ 12 + 1 * 2 ^ 7 + 2 * 8))) (runs lv)) (fun t => (getBob t 0).fg.pred 1))
    ∧ (next (exec (.br 0 (ops 0x3FFFFF)) (runs lv)) (fun t => (getBob t 0).fg.pc == 0x1004#32)
      ∧ next (exec (.call 0 (ops 2)) (runs lv)) (fun t => (getBob t 0).fg.pc == 0x1010#32 && (getBob t 0).fg.reg 31 == 0x100C#32)
      ∧ next (exec (.jr 0 (ops (4 * 2 ^ 12))) (runs lv)) (fun t => (getBob t 0).fg.pc == 0x10004000#32)
      ∧ next (exec (.jr 0 (ops (1 * 2 ^ 12))) (runs lv)) (fun t => (getBob t 0).frame == none)
      ∧ next (exec (.ret 0 (ops 0)) (runs lv)) (fun t => (getBob t 0).fg.pc == 0#32)
      ∧ next (exec (.eret 0 (ops 0)) (runs lvSuper)) (fun t => (getBob t 0).fg.pc == 0x2000#32 && !(getBob t 0).fg.super && !(getBob t 0).fg.trapped)
      ∧ next (exec (.eret 0 (ops 0)) (runs lv)) (fun t => (getBob t 0).frame == none))
    ∧ ((getBob (setBob (runs lv) 0 { getBob (runs lv) 0 with put := true }) 0).wbuf = []
      ∧ next (exec (.exit 0 (ops 0)) (setBob (runs lv) 0 { getBob (runs lv) 0 with put := true })) (fun t => (getBob t 0).frame == none && !(getBob t 0).put))
    := by decide +kernel

/-- Levels in the three services, on the foreground, on the background with an item, and for TIME. -/
def inSvc (n : Word) : Level := { lvSuper with ecause := 0x40, eval := n, g := [(4, 3#32), (5, 4#32)] }
def bgSvc : State := setBob (serving (ctx 0 none)) 0 { Bobbin.init 0 with item := some item, bg := inSvc 2 }

theorem test_SpecialRegistersAndServices :
    (svcStalls (inSvc 1) [4, 5] = false ∧ svcStalls (inSvc 2) [4, 5] = false ∧ svcStalls (inSvc 3) [4, 5, 6] = false)
    ∧ (inService (getBob (runs (inSvc 1)) 0).fg 1 = true ∧ (getBob (runs (inSvc 1)) 0).frame = some 7
        ∧ levelCtx (runs (inSvc 1)) (getBob (runs (inSvc 1)) 0) true = some 3 ∧ ((getBob (runs (inSvc 1)) 0).fg.reg 4).toNat = 3)
    ∧ (inService (getBob bgSvc 0).bg 2 = true ∧ (getBob bgSvc 0).frame = none ∧ (getBob bgSvc 0).item = some item
        ∧ ((getBob bgSvc 0).bg.reg 5).toNat % 4 = 0 ∧ ((getBob bgSvc 0).bg.reg 5).toNat < 32)
    ∧ (activeFg (getBob (runs (inSvc 3)) 0) = some true ∧ inService ((getBob (runs (inSvc 3)) 0).level true) 3 = true)
    ∧ (gives lv (.mfs 0 (ops (6 * 2 ^ 17))) 6 0#32 0 ∧ gives lv (.mfs 0 (ops (6 * 2 ^ 17 + 3))) 6 1#32 0
        ∧ gives lvSuper (.mfs 0 (ops (6 * 2 ^ 17 + 8))) 6 0x2000#32 0 ∧ gives lv (.mts 0 (ops (1 * 2 ^ 17))) 1 5#32 5)
    ∧ next (exec (.mfs 0 (ops (6 * 2 ^ 17 + 8))) (runs lv)) (fun t => (getBob t 0).frame == none)
    ∧ next (exec (.mts 0 (ops (1 * 2 ^ 17 + 8))) (runs lvSuper)) (fun t => (getBob t 0).fg.epc == 4#32)
    ∧ next (exec (.mts 0 (ops (1 * 2 ^ 17 + 2))) (runs lv)) (fun t => (getBob t 0).frame == none)
    ∧ next (exec (.trap 0 (ops 1)) (runs lv)) (fun t => (getBob t 0).fg.pc == 0x180#32 && (getBob t 0).fg.epc == 0x100C#32 && (getBob t 0).fg.super)
    ∧ next (exec (.bgpost 0) (runs (inSvc 1))) (fun t => (getBob t 0).posts == [⟨3, 3, 4, []⟩] && (getBob t 0).fg.pc == 0x2000#32)
    ∧ next (exec (.flagpost 0) bgSvc) (fun t => (getBob t 0).item.map (·.flags) == some [(3, 4)])
    ∧ next (exec (.time 0) (runs (inSvc 3))) (fun t => (getBob t 0).fg.pc == 0x2000#32 && (getBob t 0).fg.reg 4 == 0#32) := by decide +kernel

/-- A frame of a context with AES-GMAC-64 whose request block, a VERIFY, stands in the work area. -/
def gmac : Ctx := ctx 0x02000000#32 none
def block : List Byte := leBytes 4 0x10000000 ++ leBytes 4 32 ++ leBytes 4 0 ++ leBytes 4 (40 * 65536 + 4)
def asking : State :=
  writeBytes (setFrame (setBob (serving gmac) 0 { Bobbin.init 0 with frame := some 7, fg := lv }) 7 (some { onBob with rxDone := true }))
    (dramKey 0 0x4000) block
def lvPut (v : Word) : Level := { lv with g := [(1, v)] }
def putting (sh : Option Nat) : State :=
  setBob (setFrame (setBob (serving (ctx 0 none)) 0 { Bobbin.init 0 with frame := some 7, fg := lvPut 0x20#32 }) 7 (some { onBob with rxDone := true })) 31
    { Bobbin.init 31 with shadow := sh }

theorem test_StreamOperations :
    (getFrame asking 7 = some { onBob with rxDone := true } ∧ getCtx asking 3 = some gmac ∧ (getBob asking 0).put = false
        ∧ (getBob asking 0).shadow = none ∧ (getBob asking 0).copy = none ∧ (getBob asking 0).frame = some 7
        ∧ (lv.reg 4).toNat % 16 = 0 ∧ 0x10004000 ≤ (lv.reg 4).toNat ∧ (lv.reg 4).toNat + 16 ≤ 0x10008000
        ∧ laneReqCause gmac.alg sv.bytes.length ((List.range 4).map (fun k => ofLe (readBytes asking (dramKey 0 (0x4000 + 4 * k)) 4))) = none
        ∧ laneWaiting asking 0 = false ∧ onBob.wrote = [] ∧ onBob.lanePending = false
        ∧ smapGet (fun _ => none) (getBob asking 0).ctxStage (0x5C / 4) = none)
    ∧ ((lvPut 0x20#32).reg 1 = 0x20#32 ∧ (putting none).pair.st = .single ∧ (getBob (putting none) 0).wbuf = [] ∧ shadowed (putting none) 0 7 = false
        ∧ (ctx 0 none).alg = 0 ∧ pairFails (putting none) 0 = false ∧ (ctx 0 none).pendingEval = false ∧ shadowed (putting (some 7)) 0 7 = true
        ∧ verdictBad 0 0x20#32 = false ∧ onBob.bobbin = some 0 ∧ onBob.delivery = none)
    ∧ gives lv (.frameGet 0 (ops (6 * 2 ^ 17 + 0xC))) 6 (frameWord onBob 0xC) 0
    ∧ gives lv (.ctxLd 0 (ops (6 * 2 ^ 17 + 0x18))) 6 0x0FA00000#32 0
    ∧ next (exec (.ctxSt 0 (ops (1 * 2 ^ 17 + 0x58))) (runs lv)) (fun t => smapGet (fun _ => none) (getBob t 0).ctxStage 22 == some 5#32)
    ∧ next (exec (.laneReq 0 (ops (6 * 2 ^ 17 + 4 * 2 ^ 12))) asking) (fun t => (getPil t 0).arb.waiting.map (fun e => (e.1, e.2.op, e.2.cls)) == [(0, 1, 1)])
    ∧ next (exec (.verdictPut 0 (ops (1 * 2 ^ 12))) (putting none)) (fun t => (getBob t 0).put && t.pool.free == 0x2000C)
    ∧ next (exec (.verdictPut 0 (ops (1 * 2 ^ 12))) (putting (some 7))) (fun t => (getBob t 0).await == some (0x20, 0)) := by decide +kernel

/-- The same program in a Pypian-1 image. -/
def old (l : Level) : State := { runs l with images := [{ imageB with isa := 1 }] }

theorem test_RetiredOpcodes :
    ((levelImage (old lv) 0 (getBob (old lv) 0) true).map (·.isa) = some 1 ∧ lv.trapped = false
        ∧ (levelImage (runs lv) 0 (getBob (runs lv) 0) true).map (·.isa) = some 2
        ∧ accessFault (old lv) 0 (getBob (old lv) 0) true lv.super .rd 0x10004000 4 = none
        ∧ accessFault (old lv) 0 (getBob (old lv) 0) true lv.super .wr 0x10004000 4 = none ∧ (lv.reg 4 + lv.reg 0).toNat = 0x10004000)
    ∧ next (exec (.mac40 0 (rrr 0 1 2 0)) (old lv)) (fun t => (getBob t 0).fg.acc0 == -35)
    ∧ next (exec (.swaph 0 (rrr 6 5 0 0)) (old lv)) (fun t => (getBob t 0).fg.reg 6 == 0x02030001#32)
    ∧ next (exec (.stx 0 (rrr 5 4 0 0)) (old lv)) (fun t => readBytes t (dramKey 0 0x4000) 4 == leBytes 4 0x00010203)
    ∧ next (exec (.ldx 0 (rrr 6 4 0 0)) (writeByte (old lv) (dramKey 0 0x4001) 9)) (fun t => (getBob t 0).fg.reg 6 == 0x900#32)
    ∧ next (exec (.swaph 0 (rrr 6 5 0 0)) (runs lv)) (fun t => (getBob t 0).frame == none) := by decide +kernel

/-! ### Memory and firewall -/

def restarting : State := { up with pool := { PoolSt.reset with restarting := true } }
def oneFrame : State := waits [(6, fr sv (some 3))]
def trainingDram : State := setDramState up 1 .training

theorem test_PoolAndDramErrors :
    (getFrame (held (ctx 0 none)) 7 = some onBob ∧ onBob.delivery = none ∧ (getBob (held (ctx 0 none)) 0).frame = some 7
        ∧ getCtx (held (ctx 0 none)) 3 = some (ctx 0 none) ∧ (ctx 0 none).failPol = false)
    ∧ (oneFrame.pool.frames = [(6, some (fr sv (some 3)))] ∧ (fr sv (some 3)).stage = .ready ∧ (fr sv (some 3)).delivery = none
        ∧ (fr sv (some 3)).bobbin = none ∧ (fr sv (some 3)).src = .port 0 ∧ getCtx oneFrame 3 = some (ctx 0 none))
    ∧ ((getDram trainingDram 1).st = .training ∧ trainingDram.boot.phase ≠ .hold)
    ∧ ((getDram trainingDram 0).st = .off ∧ pillowRuns (serving (ctx 0 none)) 3 = true ∧ frameList (serving (ctx 0 none)) = [])
    ∧ next (exec (.frameDispatch 3) (serving (ctx 0 none))) (fun t => t.pool.under == [6] && getReg t 0xA0034 == 1#32)
    ∧ next (exec (.cellDataEcc 7) (held (ctx 0 none))) (fun t => (getBob t 0).stop && t.pool.free == 0x2000C && getReg t 0xA003C == 1#32)
    ∧ next (exec (.linkWordEcc false) oneFrame) (fun t => getReg t 0xA0040 == 1#32 && (getFrame t 6).isSome)
    ∧ next (exec (.linkWordEcc true) oneFrame) (fun t => t.pool.restarting && getFrame t 6 == none)
    ∧ next (exec .poolRestartDone restarting) (fun t => !t.pool.restarting && getReg t 0xA0044 == 1#32)
    ∧ next (exec (.dramEccError 1 false) up) (fun t => getReg t 0xA1034 == 1#32)
    ∧ next (exec (.dramEccError 1 true) trainingDram) (fun t => t.boot.phase == .hold && t.boot.cause == 2)
    ∧ next (exec (.dramTrainingDone 1 true) trainingDram) (fun t => (getDram t 1).st == .service && bit (getPage t 0xA0).stat 8)
    ∧ next (exec (.dramTrainingDone 1 false) trainingDram) (fun t => t.boot.phase == .hold && t.boot.cause == 2) := by decide +kernel

/-- The firewall booted, with a rule 64 that denies writes of every master to 0x100 to 0x13F, reports waiting. -/
def fwl (n : Nat) : State :=
  { up with fwl := { FwlSt.reset with
      epoch := 1, active := [(64, ⟨4#32, 4#32, 0#32, 0x88000000#32⟩)], shadow := [(64, ⟨8#32, 8#32, 0#32, 0x88000000#32⟩)],
      fifo := List.replicate n ⟨1, true, 2, 0x100⟩ } }
/-- The same with the first DRAM controller under its keys. -/
def keyedDram : State := { fwl 0 with pool := { PoolSt.reset with dram0 := ⟨.service, true, 5, 0⟩ } }
def drains (due : Bool) : State := { fwl 0 with fwl := { (fwl 0).fwl with drain := true, commitDue := due } }

theorem test_FirewallAndSnapshot :
    ((getDram keyedDram 0).keyVal = true ∧ accessRule keyedDram 1 true 0x140 4 = none ∧ inDram 0x140 = true ∧ accessRule (fwl 0) 1 false 0x100 4 = none)
    ∧ (accessRule (fwl 31) 1 true 0x13E 4 = some (0x13E, 64) ∧ accessRule (fwl 32) 0x1F false 0x820000000 4 = some (0x820000000, 0x100))
    ∧ (accessRule (fwl 0) 1 false 0x200000000 1 = some (0x200000000, 0x101) ∧ denyRule (fwl 0) 1 true 0x140 = none)
    ∧ (writeCause (armed (fwl 0) 0xB1) .manager 4 0xB1034 1 = 0 ∧ smapWf (fun _ => FwlRule.zero) (fwl 0).fwl.active = true)
    ∧ ((drains false).fwl.drain = true ∧ (drains false).fwl.commitDue = false ∧ writeCause (armed (drains false) 0xB1) .manager 4 0xB1034 1 = 0)
    ∧ writeCause (armed (fwl 2) 0xB0) .manager 4 0xB0034 1 = 0
    ∧ (writeCause (armed (queued [7] []) 0xA1) .manager 4 0xA1020 0x30#32 = 0 ∧ queueOf (queued [7] []) 0x30 = (1, 12))
    ∧ (accessRule (fwl 0) 1 true 0x800000000 2 = none ∧ inDram 0x800000000 = false ∧ inSlices 0x800000001 = false)
    ∧ next (exec (.fabricAccess 1 0x800000000 true 2 [5, 6]) (fwl 0)) (fun t => readBytes t 0x800000000 2 == [5, 6])
    ∧ next (exec (.fabricAccess 1 0x13E true 4 [1, 2, 3, 4]) (fwl 31)) (fun t => t.fwl.fifo.getLast? == some ⟨0x13E, true, 1, 64⟩ && t.mem == [])
    ∧ next (exec (.fabricAccess 0x1F 0x820000000 false 4 []) (fwl 32)) (fun t => t.fwl.fifo.length == 32 && getReg t 0xB003C == 1#32)
    ∧ next (exec (.fwlCommit .manager 1) (armed (fwl 0) 0xB1)) (fun t => t.fwl.epoch == 2 && t.fwl.drain && (getActive t 64).base == 8#32)
    ∧ next (exec (.fwlCommit .manager 1) (armed (drains false) 0xB1)) (fun t => t.fwl.epoch == 1 && t.fwl.commitDue)
    ∧ next (exec .fwlDrainEnd (drains false)) (fun t => !t.fwl.drain && bit (getPage t 0xB0).stat 3)
    ∧ next (exec (.fwlVpop .manager 1) (armed (fwl 2) 0xB0)) (fun t => t.fwl.fifo.length == 1)
    ∧ next (exec (.drfQsel .manager 0x30#32) (armed (queued [7] []) 0xA1)) (fun t => t.pool.qstat == 1#32 && t.pool.qcells == 12#32)
    := by decide +kernel

/-! ### Host and slices -/

/-- Slice 0 armed, an entry waiting for its delay. -/
def ringing : State := setSlice mbx 0 { slice0 with armed := true, irqDue := true }
/-- The mailbox is past the slot that it reads. -/
def taken : State := barWrite (armed mbx 0x140) .manager 4 0x140034 2 (fun x => storeReg x 0x140034 2)

theorem test_DoorbellsAndRingIndices :
    (doorbellOpen ringing 0 = true ∧ (getSlice ringing 0).txLog = 8 ∧ (getSlice ringing 0).rxLog = 8 ∧ cqHeadOk (getSlice ringing 0) 0 = true
        ∧ cqHeadOk (getSlice ringing 0) 1 = false ∧ (getSlice ringing 0).armed = true ∧ (getSlice ringing 0).irqDue = true)
    ∧ (doorbellOpen ringing 1 = false ∧ doorbellOpen State.reset 0 = false)
    ∧ (writeCause (armed mbx 0x140) .manager 4 0x140034 2 = 0 ∧ mbxReady taken = true ∧ lcBar taken 0x4F = none ∧ lcBar taken 0x47 = none
        ∧ writeCause (armed mbx 0x140) .manager 4 0x14003C 0x80000001#32 = 0)
    ∧ (writeCause (armed mbx 0xC0) .manager 4 0xC004C 255 = 0 ∧ writeCause (armed mbx 0xC0) .manager 4 0xC008C 0x80000001#32 = 0)
    ∧ next (exec (.dbTxtail 0 255) ringing) (fun t => (getSlice t 0).txTail == 255)
    ∧ next (exec (.dbTxtail 0 256) ringing) (fun t => (getSlice t 0).txTail == 0 && (getSlice t 0).dbErr && bit (getPage t 0xC0).cond 3)
    ∧ next (exec (.dbRxtail 0 7) ringing) (fun t => (getSlice t 0).rxTail == 7)
    ∧ next (exec (.dbCqhead 0 0x80000000#32) (setSlice mbx 0 slice0)) (fun t => (getSlice t 0).armed)
    ∧ next (exec (.sliceIrqDelay 0) ringing) (fun t => !(getSlice t 0).armed && smapGet (fun _ => 0) t.msix 32 == 1)
    ∧ next (exec (.mbxCrtail .manager 2 (some (0x4F, slot))) (armed mbx 0x140)) (fun t => t.hostIf.ccTail == 1 && t.hostIf.crHead == 1)
    ∧ unknownStatus 0x47 = 0x12 ∧ unknownStatus 0x87 = 0x0F ∧ unknownStatus 0x92 = 0x07 ∧ unknownStatus 0x85 = 1
    ∧ next (exec (.mbxCrtail .manager 2 none) (armed mbx 0x140)) (fun t => t.hostIf.ccTail == 0)
    ∧ next (exec (.mbxCchead .manager 0x80000001#32) (armed mbx 0x140)) (fun t => t.hostIf.mbxArmed && getReg t 0x14003C == 0x80000001#32)
    ∧ next (exec (.managerRingIndex .manager 4 0x80000001#32) (armed mbx 0xC0)) (fun t => t.hostIf.mgrArmed && getReg t 0xC008C == 0x80000001#32)
    ∧ next (exec (.managerRingIndex .manager 0 255) (armed mbx 0xC0)) (fun t => !t.hostIf.mgrArmed && getReg t 0xC004C == 255#32) := by decide +kernel

/-- A publisher of slice 0, and a descriptor for it. -/
def publisher : Ctx := { ctx 0x08000000#32 none with pub := some ⟨sv.srcMac, sv.vlanId, sv.appId, sv.ident⟩ }
def descIn : TxDescIn := ⟨0x30000, 64, 3, 0, 0, 9, false⟩
def fetching (x : Slice) : State := { setSlice (serving publisher) 0 x with pool := PoolSt.reset }
def posted1 : State := fetching { slice0 with cqResv := 0, txTail := 1 }
def fetched1 : State := fetching { slice0 with fetched := [⟨0x30000, 64, 3, 0, 0, 9⟩] }
def full (s : State) : State := { s with pool := { s.pool with txFree := 0 } }
/-- Manager rings 2 and 4 run, and a management descriptor whose frame has not arrived. -/
def mgmt (fet : List (Nat × TxDesc)) : State :=
  { setReg (setReg (setReg up (regAddr 0xC0 0x68) 0x80000006#32) (regAddr 0xC0 0x6C) 1#32) (regAddr 0xC0 0x88) 0x80000006#32 with
    hostIf := { up.hostIf with mfetched := fet } }

theorem test_DescriptorsAndReadErrors :
    (nextFetch posted1 = some 0 ∧ cellsFor (descIn.len + 4) ≤ posted1.pool.txFree ∧ descCtx posted1 0 3 = some publisher
        ∧ descBad descIn (extAdded publisher.kind publisher.alg) = false)
    ∧ (nextFetch (full posted1) = some 0 ∧ (full posted1).pool.txFree < cellsFor (descIn.len + 4))
    ∧ (mrRuns (mgmt []) 2 = true ∧ 0 < mrAvail (mgmt []) 2 ∧ mrRuns (mgmt []) 4 = true ∧ (mgmt []).hostIf.mfetched.length < mrAvail (mgmt []) 4
        ∧ openDeliveries posted1 0 = 0
        ∧ cellsFor (descIn.len + 4) ≤ (mgmt []).pool.txFree ∧ descBad { descIn with ctx := 0 } 0 = false)
    ∧ ((getSlice fetched1 0).fetched = [⟨0x30000, 64, 3, 0, 0, 9⟩] ∧ (getSlice fetched1 0).st = .active ∧ descCtx fetched1 0 3 = some publisher
        ∧ pubSpoof publisher sv = false ∧ pubSpoof publisher { sv with srcMac := 2 } = true ∧ sv.form ≠ .other ∧ cellsFor (sv.bytes.length + extAdded publisher.kind publisher.alg + 4) ≤ fetched1.pool.txFree)
    ∧ (mgmt [(2, ⟨0x30000, 64, 0, 0, 0, 9⟩)]).hostIf.mfetched = [(2, ⟨0x30000, 64, 0, 0, 0, 9⟩)]
    ∧ next (exec (.descriptorFetch .slices descIn) posted1) (fun t => (getSlice t 0).fetched.length == 1 && (getSlice t 0).txHead == 1)
    ∧ next (exec (.descriptorFetch .slices descIn) (full posted1)) (fun t => (getSlice t 0).txHead == 0 && getReg t 0xA0030 == 1#32)
    ∧ next (exec (.descriptorFetch .mgmtRing { descIn with ctx := 0 }) (mgmt [])) (fun t => t.hostIf.mfetched.length == 1)
    ∧ next (exec (.txFrameReceived .slices 0 sv) fetched1) (fun t => (getSlice t 0).fetched == [] && (getPil t 0).order == 1)
    ∧ next (exec (.txFrameReceived .slices 0 { sv with srcMac := 2 }) fetched1) (fun t => (getSlice t 0).fetched == [] && (getSlice t 0).cqTail == 1)
    ∧ next (exec (.txFrameReceived .rawRing 0 sv) (mgmt [(3, ⟨0x30000, 64, 0, 0, 0, 9⟩)])) (fun t => t.hostIf.mfetched == [])
    ∧ next (exec (.txFrameReceived .mgmtRing 0 sv) (mgmt [(2, ⟨0x30000, 64, 0, 0, 0, 9⟩)])) (fun t => t.hostIf.mfetched == []
        && (getMring t 4).ix == 1)
    ∧ next (exec (.hostReadError (.slice 0) .transmit .poisoned) fetched1) (fun t => (getSlice t 0).st == .fault && (getSlice t 0).fetched == []
        && (getSlice t 0).txDrop == 2#32 && (getSlice t 0).errInfo == 0xC0000000#32 && getReg t 0xC103C == 1#32)
    ∧ next (exec (.completionTimeout (.slice 0) .frame) fetched1) (fun t => (getSlice t 0).txDrop == 1#32 && (getSlice t 0).errInfo == 0xB8000000#32)
    ∧ next (exec (.completionTimeout .manager .transmit) fetched1) (fun t => t.hostIf.mgrStop == 31 && getReg t 0xC1034 == 1#32) := by decide +kernel

/-- The link is down, its clock in tolerance. -/
def linkDown : State := { mbx with hostIf := { mbx.hostIf with linkUp := false } }

theorem test_FunctionResets :
    ((getSlice fetched1 0).st ≠ .free ∧ mbx.hostIf.perst = false ∧ mbx.boot.inReset = false)
    ∧ (linkDown.hostIf.perst = false ∧ linkDown.pwc.pcie = true ∧ bit linkDown.pwc.clkOk 1 = true ∧ linkDown.hostIf.linkUp = false ∧ slmLink linkDown = 0)
    ∧ (mbx.hostIf.linkUp = true ∧ slmLink mbx ≠ 0 ∧ mbx.pwc.pcie = true)
    ∧ next (exec (.pcieLinkChange false 0 0 false) mbx) (fun t => !t.hostIf.linkUp && getReg t 0xC1020 == 1#32)
    ∧ next (exec (.pcieFunctionReset .l2) fetched1) (fun t => (getSlice t 0).st == .quiesced && !(getSlice t 0).rings && (getSlice t 0).pasid == 1
        && getReg t 0x140030 == 4#32 && t.hostIf.crHead == 0 && (getCtx t 3).isSome)
    ∧ next (exec (.pciePerst true) fetched1) (fun t => t.hostIf.perst && (getSlice t 0).st == .quiesced)
    ∧ next (exec (.pciePerst false) fetched1) (fun t => !t.hostIf.perst && (getSlice t 0).st == .active)
    ∧ next (exec (.pcieLinkChange true 5 8 true) linkDown) (fun t => t.hostIf.linkGen == 5 && t.hostIf.pasidEn && getReg t 0xC1024 == 1#32) := by decide +kernel

/-- The parameter block of slice 5 with PASID 7 and 16 contexts. -/
def sliceBlock : List Byte :=
  leBytes 4 5 ++ leBytes 4 7 ++ leBytes 8 0x1000 ++ leBytes 8 0x2000 ++ leBytes 8 0x3000 ++ [6#8, 16#8, 8#8, 1#8] ++ leBytes 2 128 ++ leBytes 2 16
    ++ List.replicate 24 0#8
def linked : State := { serving publisher with hostIf := { mbx.hostIf with pasidEn := true } }
def withSlice (x : Slice) : State := setSlice linked 5 x
def idle5 (st : SliceState) : Slice := { sliceOf Slice.free sliceBlock with st := st }
def left5 (ab : Bool) : State := withSlice { idle5 .quiescing with quiesce := some slot, abandoned := ab }
def pends5 : State := withSlice { idle5 .quiescing with fetched := [⟨0x30000, 64, 3, 0, 0, 9⟩], cqResv := 1 }
/-- A frame of context 3 keeps the removal of slice 0 waiting. -/
def removing0 : State := setFrame (setSlice linked 0 { slice0 with st := .quiesced }) 7 (some (fr sv (some 3)))

theorem test_SliceLife :
    (mbxReady linked = true ∧ linked.pwc.lpHold = false ∧ (List.range 16).all (fun k => lcBar linked (0x10 + k) == none) = true ∧ sliceBlockBad sliceBlock = false
        ∧ leOf sliceBlock 0 2 = 5 ∧ (getSlice linked 5).st = .free ∧ linked.hostIf.pasidEn = true ∧ pasidUsed linked 5 7 = false
        ∧ linked.slices.foldl (fun a e => a + e.2.maxCtx) 0 + leOf sliceBlock 0x26 2 ≤ 262144)
    ∧ ((getSlice (left5 true) 5).st = .quiescing ∧ (getSlice (left5 true) 5).inFlight = 0 ∧ (getSlice (left5 true) 5).fetched = []
        ∧ sliceSending (left5 true) 5 = false ∧ (getSlice (left5 true) 5).quiesce = some slot)
    ∧ ((getSlice pends5 5).st = .quiescing ∧ (getSlice pends5 5).fetched ≠ [])
    ∧ ((getSlice (withSlice (idle5 .quiesced)) 5).st = .quiesced ∧ (getSlice (withSlice (idle5 .quiesced)) 5).rings = true
        ∧ (getSlice (withSlice (idle5 .quiesced)) 5).maxCtx = leOf sliceBlock 0x26 2 ∧ pasidUsed (withSlice (idle5 .quiesced)) 5 7 = false
        ∧ (ctxList (withSlice (idle5 .quiesced))).filter (fun e => e.2.slice == 5) = [])
    ∧ ((ctxList removing0).filter (fun e => e.2.slice == 0) = [(3, publisher)] ∧ getCtx removing0 3 = some publisher ∧ ctxFrames removing0 3 ≠ []
        ∧ (getSlice removing0 0).st = .quiesced ∧ sliceHeld removing0 0 = false)
    ∧ (sliceBusy linked 5 = false ∧ sliceHeld (withSlice (idle5 .quiesced)) 5 = false ∧ sliceBusy (withSlice (idle5 .quiesced)) 5 = false) := by decide +kernel

theorem test_SliceLife_effects :
    next (exec (.sliceCreate slot sliceBlock) linked) (fun t => (getSlice t 5).st == .active && (getSlice t 5).rxLog == 16 && t.journal.length == 1)
    ∧ next (exec (.sliceQuiesce slot 5) (withSlice (idle5 .active))) (fun t => (getSlice t 5).st == .quiescing && t.hostIf.ccTail == 0)
    ∧ next (exec (.sliceQuiesce slot 5) (withSlice (idle5 .fault))) (fun t => (getSlice t 5).st == .quiesced && t.hostIf.ccTail == 1)
    ∧ next (exec (.sliceDrainComplete 5) (left5 true)) (fun t => (getSlice t 5).st == .quiesced && t.hostIf.ccTail == 1)
    ∧ next (exec (.quiesceAbandon 5) pends5) (fun t => (getSlice t 5).abandoned && (getSlice t 5).txDrop == 1#32)
    ∧ next (exec (.sliceResume slot 5) (withSlice (idle5 .quiesced))) (fun t => (getSlice t 5).st == .active)
    ∧ next (exec (.sliceReset slot sliceBlock) (withSlice { idle5 .quiesced with txHead := 3 })) (fun t => (getSlice t 5).st == .active && (getSlice t 5).txHead == 0)
    ∧ next (exec (.sliceRemove slot 5) (withSlice (idle5 .quiesced))) (fun t => (getSlice t 5).st == .free && t.journal.length == 1)
    ∧ next (exec (.sliceRemove slot 0) removing0) (fun t => (getCtx t 3).map (·.removing) == some (some (slot, 0x14))
        && sliceBusy t 0 && liveCtx t 3 == none && next (exec (.sliceStatus slot 0) t) (fun u => u.hostIf.crHead == t.hostIf.crHead)) := by decide +kernel

def logging5 : State := withSlice { idle5 .active with log := true, logPages := 12, dirty := [1, 11], outside := true, bmAddr := 0x40 }

theorem test_LoggingAndBalanceGroups :
    ((getSlice logging5 5).st ≠ .free ∧ sliceBusy logging5 5 = false ∧ (getSlice logging5 5).log = true ∧ (logging5.slices.filter (fun e => e.1 != 5 && e.2.log)).length < 8)
    ∧ (linked.pair.st ≠ .standby ∧ groupBad 4 65535 255 64 1000 16000 = false ∧ groupBad 3 0 0 1 50 1000 = false ∧ members linked 4095 = []
        ∧ bit linked.pwc.pil 15 = true ∧ (getPil linked 15).st = .service ∧ (groupsOn (setGroup linked 4095 none) 15).length < 256
        ∧ ramFit (ramUsed (setGroup linked 4095 none) 15) 2048 = some 0x10000)
    ∧ (getGroup (setGroup linked 1 (some (group []))) 1 = some (group []) ∧ members (setGroup linked 1 (some (group []))) 1 = [])
    ∧ next (exec (.sliceDirtylog slot 5 true 0x1000 (2 ^ 26) 8) (withSlice (idle5 .active))) (fun t => (getSlice t 5).log && (getSlice t 5).logPages == 2 ^ 26)
    ∧ next (exec (.sliceDirtylog slot 5 false 0 0 0) logging5) (fun t => !(getSlice t 5).log)
    ∧ next (exec (.dirtyHarvest slot 5) logging5) (fun t => readBytes t (hostKey 0 0x40) 2 == [2#8, 8#8] && (getSlice t 5).dirty == [])
    ∧ next (exec (.sliceStatus slot 5) logging5) (fun t => t.hostIf.ccTail == 1)
    ∧ next (exec (.balRemove slot 1) (setGroup linked 1 (some (group [])))) (fun t => getGroup t 1 == none) := by decide +kernel

/-- The block of a subscriber of slice 0 with a lookup entry, homed on a pillow; 4,000 samples a second. -/
def ctxBlock (p : Nat) : List Byte :=
  [0#8, 0#8, b8 (0x40 + p), 0#8] ++ leBytes 4 0x80000000 ++ leBytes 4 0x0FA00000 ++ List.replicate 16 0#8 ++ leBytes 4 4000 ++ leBytes 4 0xFFFFFFFF
    ++ List.replicate 12 0#8 ++ beBytes 6 0x010CCD040001 ++ List.replicate 26 0#8 ++ leBytes 2 5 ++ leBytes 2 0x4000 ++ List.replicate 172 0#8
def roomy : State := setSlice linked 0 { slice0 with maxCtx := 2 }
def busyCtx : State := setFrame (serving (ctx 0x80000000#32 none)) 7 (some { onBob with stage := .verdict })

theorem test_ContextCommands :
    (ctxBlockBad (ctxBlock 2) = false ∧ leOf (ctxBlock 2) 0 2 = 0 ∧ (getSlice roomy 0).st ≠ .free
        ∧ ((ctxList roomy).filter (fun e => e.2.slice == 0)).length < (getSlice roomy 0).maxCtx ∧ blkPillow roomy (ctxBlock 2) = some 2
        ∧ pillowShut roomy 2 = false ∧ (imageFor roomy 2 (blkKind (ctxBlock 2)) (blkPub (ctxBlock 2))).map (·.init) = some (some 4) ∧ balanceBad roomy (ctxBlock 2) = false
        ∧ keyBad roomy (ctxBlock 2) = false
        ∧ (ramFit (ramUsed roomy 2) (scratchSize roomy imageB (blkSmpRate (ctxBlock 2)) (fld (blkPlaus (ctxBlock 2)) 12 11 != 0))).isSome = true
        ∧ blkLookup (ctxBlock 2) = true ∧ lookup roomy (blkKey (ctxBlock 2)) = none ∧ roomy.cls.table.length < 4 ∧ freeIndex roomy 2 = 32768)
    ∧ (liveCtx busyCtx 3 = some (ctx 0x80000000#32 none) ∧ keyBusy busyCtx 3 = false ∧ sliceBusy roomy 0 = false ∧ modifyBad (ctx 0x80000000#32 none) 0x84000000#32 0x0FA00001#32 1 0x3800#32 1 = false
        ∧ (ctx 0 none).words.length = 24 ∧ (ctx 0x80000000#32 none).removing = none ∧ ctxFrames busyCtx 3 ≠ []
        ∧ ctxFrames (serving (ctx 0x80000000#32 none)) 3 = [])
    ∧ next (exec (.ctxCreate slot (ctxBlock 2)) roomy) (fun t => (getCtx t 32768).map (fun c => (c.home, c.smpRate, c.initDue)) == some (2, 4000, true)
        && t.cls.table.map (·.2) == [32768])
    ∧ next (exec (.ctxModify slot 3 0x84000000#32 0x0FA00001#32 1 0x3800#32 9 1) busyCtx) (fun t => (getCtx t 3).map (fun c => (c.hold, c.gen)) == some (true, 1))
    ∧ next (exec (.ctxRemove slot 3) busyCtx) (fun t => (getCtx t 3).map (·.removing) == some (some (slot, 0x22)))
    ∧ next (exec (.ctxRemove slot 3) (serving (ctx 0x80000000#32 none))) (fun t => getCtx t 3 == none && t.journal.length == 1)
    ∧ next (exec (.ctxRead slot 3) busyCtx) (fun t => t.hostIf.ccTail == 1) := by decide +kernel

/-! ### Pair -/

/-- A bound pair with both lanes, its link key and its heartbeat. -/
def pairSt (st : PairState) : PairSt :=
  { PairSt.reset with
    st := st, bound := true, authDone := true, lanes := 3, partner := 0xAB, hb := true, hbLost := false, hbAt := some 0, psIn := .active, psOut := .standby,
    partnerSt := .standby }
def inPair (p : PairSt) : State := { serving publisher with pair := p, boot := { mbx.boot with now := 2001 } }
def heldState : State := inPair { pairSt .held with hb := false, hbLost := true }

theorem test_Heartbeats :
    (linkKeyed (inPair (pairSt .active)) = true ∧ (pairSt .active).psOut ≠ .dying ∧ linkKeyed (inPair { pairSt .active with psOut := .dying }) = true)
    ∧ (linkKeyed (inPair (pairSt .standby)) = true ∧ bit (pairSt .standby).lanes 1 = true ∧ (pairSt .standby).hbLost = false
        ∧ (pairSt .standby).hbAt = some 0)
    ∧ (linkKeyed heldState = true ∧ heldState.pair.st = .held ∧ heldState.pair.hbLost = true)
    ∧ next (exec .heartbeatSend (inPair (pairSt .active))) (fun t => t.pair.hbOut == [3, 2, 0])
    ∧ next (exec .heartbeatSend (inPair { pairSt .active with psOut := .dying })) (fun t => t.pair.hbOut == (pairSt .active).hbOut)
    ∧ next (exec (.heartbeatReceive 1 .active 9) (inPair (pairSt .standby))) (fun t => t.pair.peerSeq == 9 && getReg t 0xD002C == 2#32)
    ∧ next (exec (.heartbeatReceive 1 .active 9) heldState) (fun t => t.pair.st == .binding && t.pair.hb) := by decide +kernel

def standbyDies : State := inPair { pairSt .standby with psIn := .dying }
def unlinked (st : PairState) (sense : Sense) : State := inPair { pairSt st with psIn := sense }
def detached : State := inPair { pairSt .detached with hb := false, hbLost := true }

theorem test_PartnerIsLost :
    (paired standbyDies = true ∧ standbyDies.pair.hbLost = false ∧ standbyDies.pair.recov = false ∧ standbyDies.pair.ackWait = []
        ∧ pageSafe standbyDies 0xD0 = false ∧ smapWf (fun _ => none) standbyDies.ctxs = true ∧ getCtx standbyDies 3 = some publisher)
    ∧ (paired (unlinked .active .active) = true ∧ (unlinked .active .active).pair.psIn = .active ∧ (unlinked .standby .opened).pair.dyingSeen = false)
    ∧ (paired detached = true ∧ pageSafe detached 0xD0 = false ∧ detached.pair.recov = false)
    ∧ ((unlinked .standby .opened).pair.hb = true ∧ paired (unlinked .standby .opened) = true)
    ∧ next (exec .heartbeatLoss standbyDies) (fun t => t.pair.st == .alone && t.pair.psOut == .active && t.pair.recov
        && (getCtx t 3).map (·.iv) == some (2 ^ 40) && getReg t 0xD002C == 3#32)
    ∧ next (exec .heartbeatLoss (unlinked .active .active)) (fun t => t.pair.st == .alone && t.pair.firstFault == 2)
    ∧ next (exec .heartbeatLoss (unlinked .standby .active)) (fun t => t.pair.st == .detached && t.pair.firstFault == 2)
    ∧ next (exec .heartbeatLoss (unlinked .standby .opened)) (fun t => t.pair.st == .held && t.pair.firstFault == 4)
    ∧ next (exec (.pairSenseChange 1) detached) (fun t => t.pair.st == .alone && t.pair.dyingSeen)
    ∧ next (exec (.pairSenseChange 2) (unlinked .active .active)) (fun t => t.pair.psIn == .standby && t.pair.st == .active)
    ∧ next (exec .pairSenseFault (unlinked .active .opened)) (fun t => t.pair.recov && t.pair.firstFault == 3)
    ∧ next (exec .recoveryWindowEnd (inPair { pairSt .active with recov := true, firstFault := 3 })) (fun t => !t.pair.recov && t.pair.firstFault == 0)
    := by decide +kernel

/-- A standby with a balance group without members. -/
def lonely : State := setGroup (inPair (pairSt .standby)) 1 (some (group []))
/-- A held frame of a standby's publisher; a context whose key words the partner shows otherwise. -/
def heldOne : State :=
  setFrame (inPair { pairSt .standby with heldFrames := [7] }) 7 (some { fr sv (some 3) with src := .desc (some 0) 9, stage := .verdict })
def differs (known : List Nat) : State := inPair { pairSt .standby with partnerKeys := [(3, some ⟨2, 1, 4⟩)], keySplit := known }

theorem test_Mirroring :
    (paired (inPair (pairSt .standby)) = true ∧ linkKeyed (inPair (pairSt .standby)) = true ∧ (pairSt .standby).keySplit = []
        ∧ (pairSt .standby).ackWait = [] ∧ getCtx (inPair (pairSt .standby)) 3 = some publisher ∧ publisher.pubDir = true)
    ∧ (heldOne.pair.heldFrames.contains 7 = true ∧ (getFrame heldOne 7).map (fun f => (f.bobbin, f.src)) = some (none, .desc (some 0) 9))
    ∧ (paired (differs []) = true ∧ keysDiffer (differs []) 3 = true ∧ (differs [3]).pair.keySplit.contains 3 = true)
    ∧ (getGroup lonely 1 = some (group []) ∧ members lonely 1 = [])
    ∧ next (exec (.mirrorRecord 0 (.balRemove 1)) lonely) (fun t => getGroup t 1 == none && t.journal.length == 1)
    ∧ next (exec (.mirrorRecord 2000 (.keyWords 3 2 1 4 0)) (inPair (pairSt .standby))) (fun t => t.pair.lagNow == 200
        && smapGet (fun _ => none) t.pair.partnerKeys 3 == some ⟨2, 1, 4⟩)
    ∧ next (exec (.mirrorRecord 2001 (.durable 5)) (inPair (pairSt .standby))) (fun t => t.pair.acked == 5 && bit (getPage t 0xD0).stat 7)
    ∧ next (exec (.mirrorRecord 0 (.final [(3, 77)] [])) (inPair (pairSt .standby))) (fun t => t.pair.st == .active && (getCtx t 3).map (·.iv) == some 77)
    ∧ next (exec (.publishRecord ⟨3, 0, 1, 77, 5, 0⟩) (inPair (pairSt .standby))) (fun t => t.pair.records.length == 1 && (getCtx t 3).map (·.iv) == some 78)
    ∧ next (exec (.holdbackExpiry 7) heldOne) (fun t => getFrame t 7 == none && t.pair.heldFrames == [] && getReg t 0xD003C == 1#32)
    ∧ next (exec (.keysplit 3) (differs [])) (fun t => t.pair.keySplit == [3] && bit (getPage t 0xD0).stat 4)
    ∧ next (exec (.keysplit 3) (differs [3])) (fun t => t.pair.keySplit == [3]) := by decide +kernel

/-- A PAIR_BIND in progress, and a bound module whose link is not yet authenticated. -/
def binding1 (pref : Bool) : State :=
  { mbx with pair := { PairSt.reset with lanes := 1, cmd := some slot, partner := 0xAB, member := 1, pref := pref } }
def restarted : State := inPair { pairSt .held with authDone := false }
/-- The same with the random bytes of a signature; and a pair whose Flurry is FATAL. -/
def signing (s : State) : State := { s with rng := { mbx.rng with qfill := 32 + 32 * Config.freeValue 2 } }
def fatalPair : State := { inPair (pairSt .active) with rng := { mbx.rng with st := .fatal } }

theorem test_BrideLink_random : SignRandom (signing restarted) ∧ SignRandom (signing (binding1 true)) ∧ SignRandom (signing (inPair (pairSt .active))) := by
  unfold SignRandom
  exact ⟨⟨rfl, rfl, Nat.le_refl _⟩, ⟨rfl, rfl, Nat.le_refl _⟩, ⟨rfl, rfl, Nat.le_refl _⟩⟩

theorem test_BrideLink :
    (restarted.pair.lanes ≠ 0 ∧ restarted.pair.cmd = none ∧ restarted.pair.bound = true ∧ restarted.pair.authDone = false)
    ∧ ((binding1 true).pair.lanes ≠ 0 ∧ (binding1 true).pair.cmd = some slot ∧ (binding1 true).pair.st = .single)
    ∧ (linkKeyed (inPair (pairSt .active)) = true ∧ linkKeyed fatalPair = true ∧ fatalPair.rng.st = .fatal)
    ∧ ((inPair (pairSt .active)).boot.inReset = false ∧ (inPair (pairSt .active)).boot.phase ≠ .hold ∧ bit (inPair (pairSt .active)).pwc.clkOk 0 = true
        ∧ bit (pairSt .active).lanes 0 = true ∧ bit (binding1 true).pair.lanes 1 = false ∧ maskSet (binding1 true).pair.lanes 1 true ≠ 0)
    ∧ next (exec (.brideAuthDone 0 false) (binding1 true)) (fun t => !t.pair.bound && t.pair.partner == 0 && t.hostIf.ccTail == 1)
    ∧ next (exec .brideRekey fatalPair) (fun t => t.pair.linkKey == 0 && t.rng.st == .fatal)
    ∧ next (exec (.brideBatch true) (inPair (pairSt .active))) (fun t => t.pair.batches == 1)
    ∧ next (exec (.brideBatch false) (inPair (pairSt .active))) (fun t => !t.pair.hb)
    ∧ next (exec (.brideLaneChange 0 false) (inPair { pairSt .active with lanes := 1 })) (fun t => t.pair.lanes == 0 && !t.pair.authDone && bit (getPage t 0xD0).stat 1)
    ∧ next (exec (.brideLaneChange 1 true) (binding1 true)) (fun t => t.pair.lanes == 3)
    ∧ next (exec .fullCopyApplied (inPair (pairSt .binding))) (fun t => t.pair.st == .standby && bit (getPage t 0xD0).stat 0) := by decide +kernel

/-- A pair module that is ZEROISED. -/
def pairZero : State := { mbx with tamper := { mbx.tamper with zeroised := true } }
/-- An SNV-KX5120-E. -/
def standalone : State := { mbx with pair := { mbx.pair with rpart := false } }

theorem test_PairCommands :
    (mbx.pair.rpart = true ∧ (inPair (pairSt .active)).pair.rpart = true ∧ heldState.pair.rpart = true ∧ mbxReady standalone = true ∧ standalone.pair.rpart = false)
    ∧ (mbxReady mbx = true ∧ mbx.pwc.lpHold = false ∧ (List.range 5).all (fun k => lcBar mbx (0x70 + k) == none) = true ∧ mbx.pair.st = .single
        ∧ mbx.pair.cmd = none ∧ mbx.tamper.zeroised = false ∧ mbx.rng.st ≠ .fatal)
    ∧ (mbxReady (inPair (pairSt .active)) = true ∧ (pairSt .active).partnerSt = .standby ∧ pageSafe (inPair (pairSt .active)) 0xD0 = false
        ∧ (pairSt .active).ackWait = [] ∧ mbxReady heldState = true)
    ∧ (writeCause (armed mbx 0xD0) .manager 4 0xD0044 1 = 0 ∧ mbx.pair.recov = false ∧ writeCause (armed heldState 0xD0) .manager 4 0xD0044 1 = 0)
    ∧ (mbx.boot.inReset = false ∧ mbx.boot.phase ≠ .rom)
    ∧ (pairZero.pair.rpart = true ∧ pairZero.tamper.zeroised = true ∧ mbxReady pairZero = true
        ∧ (List.range 4).all (fun k => lcBar pairZero (0x70 + k) == none) = true)
    ∧ next (exec (.pairBind slot 0xAB 1 1) pairZero) (fun t => t.pair.cmd.isNone && t.hostIf.ccTail == 1)
    ∧ next (exec (.pairBind slot 0xAB 1 1) mbx) (fun t => t.pair.cmd == some slot && t.pair.partner == 0xAB && t.pair.pref)
    ∧ next (exec (.pairSwitch slot) (inPair (pairSt .active))) (fun t => t.pair.st == .standby && t.pair.partnerSt == .active)
    ∧ next (exec (.pairLeave slot) (inPair (pairSt .active))) (fun t => t.pair.st == .single && !t.pair.bound)
    ∧ next (exec (.pairForce slot) heldState) (fun t => t.pair.st == .alone && t.pair.recov)
    ∧ next (exec (.pairStatus slot) mbx) (fun t => t.hostIf.ccTail == 1)
    ∧ next (exec (.pairBind slot 0xAB 1 1) standalone) (fun t => t.pair.cmd.isNone && t.mor.newest.any (fun r => r.code == 0x0605 && r.payload.take 1 == [0x70]))
    ∧ next (exec (.blkclr .manager 1) (armed { mbx with pair := { mbx.pair with block := true } } 0xD0)) (fun t => !t.pair.block)
    ∧ next (exec (.blkclr .manager 1) (armed { heldState with pair := { heldState.pair with block := true } } 0xD0)) (fun t => t.pair.block)
    ∧ next (exec .watchdogExpiry mbx) (fun t => t.pair.psOut == .dying && t.boot.ccDead) := by decide +kernel

/-! ### Tamper, ceremonies, life cycle -/

/-- A module in LC_BLANK. -/
def blank : State := { mbx with lc := { LcSt.reset with lcw := 0, st := .blank } }
/-- Lane 0 is on, the DRAM controllers hold keys. -/
def target : State :=
  { setLane mbx 0 { LaneSt.init with st := .service } with
    pool := { PoolSt.reset with dram0 := ⟨.service, true, 3, 0⟩ } }
def inReset (s : State) : State := { s with boot := { s.boot with inReset := true } }

theorem test_TamperResponse :
    (Nat.land 1 (sourcesEnabled target) ≠ 0 ∧ tamperArmed target = true ∧ target.boot.inReset = false ∧ target.firn.needs = []
        ∧ target.lanes.all (fun e => e.2.queue.isEmpty && e.2.susp.isEmpty && e.2.running.isNone) = true
        ∧ target.pillows.all (fun e => e.2.arb.moved.isEmpty) = true ∧ (getLane target 0).st ≠ .off)
    ∧ (tamperArmed blank = false ∧ Nat.land 4 (sourcesEnabled target) = 0)
    ∧ ((inReset target).boot.inReset = true ∧ (inReset target).tamper.batRecs.length < 32)
    ∧ next (exec (.tamperDetect 1) target) (fun t => t.tamper.zeroised && t.firn.kstate == .zeroised && (getLane t 0).st == .aborted
        && !t.pool.dram0.keyVal && t.pair.psOut == .dying)
    ∧ next (exec (.tamperDetect 4) target) (fun t => !t.tamper.zeroised)
    ∧ next (exec (.tamperDetect 1) (inReset target)) (fun t => t.tamper.zeroised && t.tamper.batRecs.length == 1) := by decide +kernel

def meshAt (n : Nat) : State := { mbx with tamper := { mbx.tamper with meshFail0 := n } }

theorem test_TamperResponse_sources :
    (blank.boot.inReset = false ∧ bit blank.tamper.active 11 = false ∧ bit { up with tamper := { up.tamper with active := 0x800 } }.tamper.active 11 = true)
    ∧ ((meshAt 6).tamper.meshFail0 < 7 ∧ tamperArmed (meshAt 7) = true ∧ (meshAt 7).boot.inReset = false)
    ∧ (mbx.rng.st = .ready ∧ mbx.rng.waiting = [] ∧ 8 ≤ mbx.rng.qfill)
    ∧ next (exec (.tamperSourceEvent 11 true) blank) (fun t => t.tamper.active == 0x800 && bit (getPage t 0xE0).stat 1)
    ∧ next (exec (.tamperSourceEvent 11 false) { up with tamper := { up.tamper with active := 0x800 } }) (fun t => t.tamper.active == 0)
    ∧ next (exec (.meshMeasurement 0 false) (meshAt 6)) (fun t => t.tamper.meshFail0 == 7 && !t.lc.idKill)
    ∧ next (exec (.meshMeasurement 0 false) (meshAt 7)) (fun t => t.lc.idKill && !t.lc.identity)
    ∧ next (exec (.meshMeasurement 0 true) (meshAt 7)) (fun t => t.tamper.meshFail0 == 0)
    ∧ next (exec .meshSeedRefresh mbx) (fun t => t.rng.qfill == 88 && t.rng.outPos == 8)
    ∧ next (exec (.tamperTempMeasurement 1520) mbx) (fun t => t.tamper.temp == 1520 && bit (getPage t 0xE0).cond 4)
    ∧ next (exec (.tamperTempMeasurement 1519) mbx) (fun t => !bit (getPage t 0xE0).cond 4)
    ∧ next (exec (.vbatLowWarning 2699) mbx) (fun t => t.tamper.vbat == 2699)
    ∧ next (exec (.vbatLowWarning 2700) mbx) (fun t => t.tamper.vbat == mbx.tamper.vbat) := by decide +kernel

/-- The ceremony input is closed. -/
def cerm : State := { mbx with stn := { mbx.stn with linkOk := true, si := 2, stSi := 2 } }
def cerAt (c : CerSt) (cmd fails : Nat) (b : List Byte) : State :=
  { cerm with tamper := { cerm.tamper with cer := c, cerId := 9, cerCmd := cmd, cerHigh := 9, cerFails := fails, cerBlock := b, cerOff1 := some 0 } }
def zeroisedCer : State :=
  { cerAt .auth2 0x87 0 (leBytes 4 0x3C) with tamper := { (cerAt .auth2 0x87 0 (leBytes 4 0x3C)).tamper with zeroised := true, trips := [], active := 0 } }

theorem test_Ceremonies :
    (mbxReady cerm = true ∧ cerm.pwc.lpHold = false ∧ (List.range 5).all (fun k => lcBar cerm (0x80 + k) == none) = true ∧ cerm.lc.st = .field)
    ∧ (dualControl 0x88 = true ∧ cerm.tamper.cerHigh < 2 ^ 32 - 1 ∧ cerm.tamper.cer = .idle ∧ ceremonyInput cerm = true ∧ innerAccepted cerm 0x88 = true
        ∧ cerm.rng.st = .ready ∧ cerm.rng.waiting = [] ∧ 32 ≤ cerm.rng.qfill)
    ∧ ((cerAt .opened 0x88 1 []).tamper.cerSlot = none ∧ tokenStatus (cerAt .opened 0x88 2 []) [] ≠ 0 ∧ cerm.tamper.cerExpired = none)
    ∧ ((cerAt .auth2 0x88 0 (List.replicate 2592 0)).tamper.cerId = 9 ∧ (cerAt .auth2 0x88 0 (List.replicate 2592 0)).tamper.cerBlock.length = 2592)
    ∧ (zeroisedCer.tamper.cerBlock.length = 4 ∧ Nat.land (leOf zeroisedCer.tamper.cerBlock 0 4) 0xFFFFFFC3 = 0 ∧ zeroisedCer.tamper.active = 0
        ∧ zeroisedCer.tamper.trips = [] ∧ zeroisedCer.pair.bound = false)
    ∧ next (exec (.ceremonyAuth slot []) (cerAt .opened 0x88 1 [])) (fun t => t.tamper.cer == .opened && t.tamper.cerFails == 2)
    ∧ next (exec (.ceremonyAuth slot []) (cerAt .opened 0x88 2 [])) (fun t => t.tamper.cer == .idle)
    ∧ next (exec (.ceremonyAuth slot []) cerm) (fun t => t.tamper.cer == .idle && t.hostIf.ccTail == 1)
    ∧ next (exec (.ceremonyExec slot 9 .done) zeroisedCer) (fun t => !t.tamper.zeroised && t.firn.kstate == .nommk && t.tamper.srcEn == 0x3C)
    ∧ next (exec (.ceremonyExec slot 9 .done) (cerAt .auth2 0x88 0 (List.replicate 2592 0))) (fun t => t.tamper.cer == .exec && t.journal.length == 1)
    ∧ ((cerAt .exec 0x88 0 [1]).tamper.cerSlot = none ∧ (cerAt .exec 0x88 0 [1]).pair.st ≠ .standby)
    ∧ next (exec .journalDurable { cerAt .exec 0x88 0 [1] with journal := [jrec (some ⟨slot, 0x82, 0, 0, 0⟩)] })
        (fun t => t.tamper.cer == .idle && t.hostIf.ccTail == 1 && t.journal == [])
    ∧ next (exec (.ceremonyCancel slot 9) (cerAt .auth1 0x88 0 [1])) (fun t => t.tamper.cer == .idle && t.tamper.cerBlock == [])
    ∧ next (exec .ceremonyExpiry (cerAt .opened 0x88 0 [1])) (fun t => t.tamper.cer == .idle && t.tamper.cerExpired == some 9) := by decide +kernel

def officers : List Officer := [⟨0, 3, 5, 0⟩, ⟨1, 1, 6, 0⟩]
def sealedBy (l : List Officer) (cert : Bool) : State :=
  { cerm with lc := { cerm.lc with lcw := 0xFFFF, st := .sealed, cert := cert }, tamper := { cerm.tamper with officers := l } }
def repair : State := { cerm with lc := { cerm.lc with lcw := 0x1FFFF, st := .repair, target := 3 } }
def viewed : State := { cerm with lc := { cerm.lc with views := 5 } }

theorem test_LifeCycle :
    (mbxReady mbx = true ∧ mbx.rng.st = .ready ∧ 32 ≤ mbx.rng.qfill)
    ∧ (lcBar (sealedBy officers true) 0x91 = none ∧ (sealedBy officers true).lc.running = false ∧ ceremonyInput (sealedBy officers true) = true
        ∧ (sealedBy officers true).lc.identity = true ∧ (sealedBy [] false).tamper.officers = [])
    ∧ (lcBar repair 0x95 = none ∧ repair.lc.running = false ∧ ceremonyInput repair = true ∧ lcFirst repair.lc.lcw 5 1 = 3)
    ∧ (lcBar cerm 0x94 = none ∧ cerm.lc.st = .field ∧ lcBar (sealedBy [] false) 0x96 = none ∧ lcBar (sealedBy [] false) 0x98 = none)
    ∧ (lcBar blank 0x97 = none ∧ blank.lc.running = false ∧ blank.lc.st = .blank ∧ viewed.lc.views ≠ 0)
    ∧ next (exec (.lcField slot .done) (sealedBy officers true)) (fun t => t.lc.lcw == 0xFFFFFF && t.lc.resetDue && t.lc.st == .sealed)
    ∧ next (exec (.lcField slot .done) (sealedBy [] false)) (fun t => t.lc.lcw == 0xFFFF && !t.lc.resetDue)
    ∧ next (exec (.lcField slot .startNone) (sealedBy officers true)) (fun t => t.lc.lcw == 0xFFFF)
    ∧ next (exec (.lcComplete slot .done) repair) (fun t => t.lc.lcw == 0xFFFFFF && t.lc.resetDue)
    ∧ next (exec (.debugLock slot) viewed) (fun t => t.lc.views == 0)
    ∧ next (exec .debugExpiry viewed) (fun t => t.lc.views == 0 && bit (getPage t 0).stat 1)
    ∧ next (exec (.lcZeroise slot) (sealedBy [] false)) (fun t => t.tamper.zeroised && t.firn.kstate == .zeroised)
    ∧ next (exec (.lcMfg slot [] 2 .done) blank) (fun t => t.lc.lcw == 0 && t.hostIf.ccTail == 1)
    ∧ next (exec (.certStore slot [1]) (sealedBy [] false)) (fun t => t.lc.cert && t.lc.certChain == [1])
    ∧ next (exec (.jtagAccess .memoryTest) blank) (fun t => t.lc.testMode)
    ∧ next (exec (.jtagAccess .memoryTest) cerm) (fun t => !t.lc.testMode) := by decide +kernel

/-- Words of R383: whole transitions, one interrupted, and words that no transition leaves. -/
theorem test_LifeCycle_decode :
    lcDecode 0 = (.blank, 0) ∧ lcDecode 0xFFFFFF = (.field, 0) ∧ lcDecode 0xFFFFFFFFFF = (.scrap, 0) ∧ lcDecode 0x1FFFF = (.repair, Lc.code .field)
    ∧ lcDecode 0x10FFFF = (.invalid, 0) ∧ lcDecode (2 ^ 40) = (.invalid, 0) ∧ lcDecode 0x100 = (.invalid, 0) := by decide +kernel

/-- A table of two officers with the AUTHORISE role, and one with the bytes of two signatures after it. -/
def officerTable : List Byte :=
  leBytes 4 2 ++ ([0#8, 3#8, 0#8, 0#8] ++ List.replicate 2592 5#8) ++ ([1#8, 1#8, 0#8, 0#8] ++ List.replicate 2592 6#8)
def signedTable : List Byte := officerTable ++ List.replicate 9254 0#8

theorem test_Ceremonies_table : tableBad officerTable = false ∧ officerTable.length = tableLen officerTable := by decide +kernel
theorem test_Ceremonies_signed : tableBad signedTable = false ∧ signedTable.length = tableLen signedTable + 9254 := by decide +kernel
theorem test_Ceremonies_init : lcBar (sealedBy [] false) 0x84 = none ∧ (sealedBy [] false).lc.st = .sealed ∧ (sealedBy [] false).tamper.officers = []
    ∧ ceremonyInput (sealedBy [] false) = true := by decide +kernel

/-- A token of officer 0 that holds, where the block's digest is 0 and a signature of 0 verifies: no number of the model's constants is known. -/
def heldToken : List Byte :=
  [0x4B, 0x58, 0x44, 0x43, 0, 1, 0, 0] ++ beBytes 32 7 ++ beBytes 4 9 ++ [0x88, 0, 0, 0] ++ List.replicate 32 0 ++ List.replicate 64 0 ++ List.replicate 4627 0
def heldCer : State :=
  { cerAt .opened 0x88 0 [1] with
    tamper := { (cerAt .opened 0x88 0 [1]).tamper with officers := [⟨0, 3, 5, 0⟩], cerOff1 := none }
    lc := { cerm.lc with devFp := some 7 } }

theorem test_TokenHolds (hd : Config.sha3 [1] = 0) (hv : ∀ d, Config.mldsaVerify 5 d 0 = true) : tokenStatus heldCer heldToken = 0 := by
  have h1 : heldToken.length = 4771 ∧ beAt heldToken 0 4 = 0x4B584443 ∧ beAt heldToken 4 2 = 1 ∧ beAt heldToken 7 1 = 0 ∧ beAt heldToken 0x2D 3 = 0 := by
    decide +kernel
  have h2 : heldCer.lc.devFp ≠ none ∧ beAt heldToken 8 32 = deviceFpr heldCer := by decide +kernel
  have h3 : beAt heldToken 0x28 4 = heldCer.tamper.cerId ∧ beAt heldToken 0x30 32 = heldCer.tamper.cerNonce ∧ beAt heldToken 0x2C 1 = heldCer.tamper.cerCmd
      ∧ beAt heldToken 0x50 64 = 0 := by decide +kernel
  have h4 : officerAt heldCer (beAt heldToken 6 1) = some ⟨0, 3, 5, 0⟩ ∧ ofBe (heldToken.drop 0x90) = 0 ∧ Nat.land 3 (rolesFor heldCer.tamper.cerCmd)
      = rolesFor heldCer.tamper.cerCmd ∧ heldCer.tamper.cerOff1 = none := by decide +kernel
  have h5 : heldCer.tamper.cerBlock = [1] := rfl
  obtain ⟨a, b, c, d, e⟩ := h1
  obtain ⟨f, g⟩ := h2
  obtain ⟨i, j, k, l⟩ := h3
  obtain ⟨m, n, o, p⟩ := h4
  have hd' : Config.sha3 [1#8] = 0 := hd
  have o' : 3 &&& rolesFor heldCer.tamper.cerCmd = rolesFor heldCer.tamper.cerCmd := o
  simp [tokenStatus, a, b, c, d, e, f, g, i, j, k, l, m, n, o', p, h5, hd', hv]

/-- JTAG halts a bobbin of a drained pillow through the view HALT; both meshes fail alike; a fatal source gives LC_STATUS no nonce. -/
def halting : State := setPil { cerm with lc := { cerm.lc with views := 2 } } 0 { getPil cerm 0 with st := .drained }
def meshAt1 (n : Nat) : State := { mbx with tamper := { mbx.tamper with meshFail1 := n } }
def fatalRng : State := { mbx with rng := { mbx.rng with st := .fatal } }

theorem test_TamperAndLifeCycle_more :
    (bit halting.lc.views 1 = true ∧ (getPil halting 0).st = .drained ∧ mbxReady fatalRng = true ∧ fatalRng.rng.st = .fatal)
    ∧ ((meshAt1 6).tamper.meshFail1 < 7 ∧ tamperArmed (meshAt1 7) = true ∧ (meshAt1 7).boot.inReset = false)
    ∧ (cerm.lc.views = 0 ∧ (sealedBy [] true).lc.cert = true ∧ blank.lc.dieId = true ∧ blank.lc.mfgKeyHash = true ∧ repair.lc.target ≠ 2
        ∧ repair.lc.target ≠ 5)
    ∧ next (exec (.jtagAccess (.halt 31)) halting) (fun t => t.lc.halted == [31])
    ∧ next (exec (.jtagAccess (.halt 32)) halting) (fun t => t.lc.halted == [])
    ∧ next (exec (.meshMeasurement 1 false) (meshAt1 6)) (fun t => t.tamper.meshFail1 == 7 && !t.lc.idKill)
    ∧ next (exec (.meshMeasurement 1 false) (meshAt1 7)) (fun t => t.lc.idKill && !t.lc.identity)
    ∧ next (exec (.lcStatus slot) fatalRng) (fun t => t.hostIf.ccTail == 1 && t.lc.nonces == [])
    ∧ next (exec .debugExpiry cerm) (fun t => t.lc.views == 0)
    ∧ next (exec (.certStore slot [1]) (sealedBy [] true)) (fun t => t.lc.certChain == []) := by decide +kernel

/-! ### Randomness and the log -/

def rngAt (st : RngState) (f : RngSt → RngSt) : State := { mbx with rng := f { mbx.rng with st := st, katOk := true } }
/-- In LC_BLANK the test register takes modes. -/
def rngBlank (st : RngState) : State := armed { rngAt st id with lc := { LcSt.reset with lcw := 0, st := .blank } } 0xF0
def fine : List Bool := (List.range 1024).map (fun k => k % 2 == 0)
def failThrice : State := rngAt .ready (fun r => { r with sources := setAt r.sources 7 ⟨false, false, 3, 0, false, 0⟩ })
def keyedDrams (s : State) : State := { s with pool := { PoolSt.reset with dram0 := ⟨.service, true, 3, 0⟩, dram1 := ⟨.service, true, 3, 0⟩ } }
def full4 : RngSource := ⟨false, false, 0, 4, false, 0⟩
def waitingRng : State := rngAt .ready (fun r => { r with waiting := [⟨2, 16, none⟩], dramRetry := 2 })

theorem test_Randomness_blocks :
    ((getSource mbx 7).restarting = false ∧ (getSource mbx 7).withdrawn = false ∧ mbx.rng.st = .ready ∧ fine.length = 1024
        ∧ (repetition (getSource mbx 7).lastBit (getSource mbx 7).run fine).2.2 = false ∧ adaptiveFails fine = false)
    ∧ (mbx.rng.sources.length = 8 ∧ (repetition (getSource mbx 7).lastBit (getSource mbx 7).run (List.replicate 1024 true)).2.2 = true
        ∧ mbx.rng.failTimes = [] ∧ (getSource mbx 7).consec < 3 ∧ (getSource (keyedDrams failThrice) 7).consec = 3 ∧ dramKeyed (keyedDrams failThrice) = true)
    ∧ next (exec (.rngBlock 7 fine) mbx) (fun t => t.rng.outputs == 1 && (getSource t 7).passes == 1)
    ∧ next (exec (.rngBlock 7 (List.replicate 1024 true)) mbx) (fun t => t.rng.st == .restarting && getReg t 0xF0028 == 1#32
        && t.rng.lastFail == some (7, 3))
    ∧ next (exec (.rngBlock 7 (List.replicate 1024 true)) (keyedDrams failThrice)) (fun t => t.rng.st == .fatal && t.rng.qfill == 0) := by decide +kernel

theorem test_Randomness :
    ((rngAt .starting (fun r => { r with outputs := 3 })).rng.katOk = true ∧ (rngAt .starting (fun r => { r with outputs := 3 })).rng.inst = false)
    ∧ ((rngAt .starting (fun r => { r with sources := List.replicate 8 full4 })).rng.sources.all (fun x => decide (4 ≤ x.passes)) = true)
    ∧ next (exec (.rngSourceRestarted 7) (rngAt .ready (fun r => { r with sources := setAt r.sources 7 ⟨true, false, 1, 0, false, 3⟩ })))
        (fun t => !(getSource t 7).restarting && (getSource t 7).run == 0)
    ∧ next (exec .rngGenerate (rngAt .starting (fun r => { r with outputs := 3 }))) (fun t => t.rng.inst && t.rng.outputs == 0)
    ∧ next (exec .rngGenerate (rngAt .ready (fun r => { r with inst := true, outputs := 2, qfill := 3584 }))) (fun t => t.rng.qfill == 4096)
    ∧ next (exec .rngReady (rngAt .starting (fun r => { r with inst := true, qfill := 4096, sources := List.replicate 8 full4 })))
        (fun t => t.rng.st == .ready && bit (getPage t 0xF0).stat 1)
    ∧ next (exec (.rngRequest 3 64) mbx) (fun t => t.rng.qfill == 32 && t.rng.outPos == 64)
    ∧ next (exec (.rngRequest 4 4) (rngAt .restarting (fun r => { r with qfill := 3 }))) (fun t => t.rng.waiting == [⟨4, 4, none⟩])
    ∧ next (exec (.rngRequest 4 4) (rngAt .fatal id)) (fun t => t.rng.waiting == [])
    ∧ next (exec (.rngRequestTimeout 2) waitingRng) (fun t => t.rng.waiting == [] && getReg t 0xF0038 == 1#32)
    ∧ next (exec (.dramKeyRetry 1) (rngAt .ready (fun r => { r with dramRetry := 3 }))) (fun t => (getDram t 1).keyVal && t.rng.qfill == 32
        && t.rng.dramRetry == 1)
    ∧ (writeCause (rngBlank .ready) .manager 4 0xF003C (pack [(1, 4), (7, 0)]) = 0 ∧ pageSafe (rngBlank .ready) 0xF0 = false
        ∧ writeCause (rngBlank .ready) .manager 4 0xF003C (pack [(2, 4)]) = 0 ∧ writeCause (rngBlank .ready) .manager 4 0xF003C 0 = 0
        ∧ accessCause mbx .manager 4 0xF0040 = 0)
    ∧ next (exec (.rngTestRaw .manager 7) (rngBlank .ready)) (fun t => t.rng.st == .test && t.rng.qfill == 0 && (getSource t 7).withdrawn)
    ∧ next (exec (.rngTestPattern .manager) (rngBlank .ready)) (fun t => t.rng.st == .test)
    ∧ next (exec (.rngTestOff .manager) (rngBlank .test)) (fun t => t.rng.st == .starting && t.rng.qfill == 0)
    ∧ next (exec (.rngRawRead .manager 0xABCD#32) (setReg (rngAt .test id) 0xF003C 0x10#32)) (fun t => t.rng.rawWord == 0xABCD#32 && t.rng.rawPos == 1)
    ∧ next (exec (.rngRawRead .manager 0xABCD#32) mbx) (fun t => t.rng.rawWord == 0#32) := by decide +kernel

/-- A record, and a log with records in the ring and in the archive; tokens left or none. -/
def rec0 (seq : Nat) (arch opn : Bool) : MorRec := ⟨seq, 0, 0x0011, 0, 4, 0, 0, 0, [1], 1, 0, opn, arch⟩
def logOf (ring : List MorRec) (tokens : Nat) : State :=
  setBucket { mbx with mor := { mbx.mor with ring := ring, seq := 2, archive := [rec0 1 true false] } } 0x0011 ⟨tokens, 1, 4, 7⟩
def capt : Capture := ⟨1, 0, 0, 0, 0, [1, 2, 3], 0⟩
def captured : State := { mbx with captures := [(15, ⟨[capt], 2, 3⟩)], boot := { mbx.boot with now := 2000000 } }

theorem test_MoraineLog :
    (codeSev 0x0011 = some 4 ∧ mbx.mor.fresh = false ∧ morMode mbx = 0 ∧ (getBucket (logOf [] 1) 0x0011).rate ≠ 0
        ∧ (getBucket (logOf [] 1) 0x0011).tokens ≠ 0 ∧ codeSev 0xFFFF = none)
    ∧ (nextArchive (logOf [rec0 2 false false] 0) = some (rec0 2 false false) ∧ (logOf [] 0).mor.archErr = false)
    ∧ (needsNand (logOf [rec0 2 false false] 0) 2 1 = false ∧ needsNand (logOf [rec0 2 false false] 0) 1 1 = true ∧ mbxReady (logOf [] 0) = true
        ∧ rangeLen 1 2 = 2)
    ∧ (writeCause (armed (logOf [rec0 2 false true] 0) 0x101) .manager 4 0x101020 2 = 0)
    ∧ ((getCapt captured 15).slots.filter (fun c => c.complete captured && decide (1 ≤ c.cseq) && decide (c.cseq < 2)) = [capt] ∧ fitting [capt] 3 = [capt])
    ∧ next (exec (.moraineOffer 0x0011 5 [3]) (logOf [] 1)) (fun t => t.mor.ring.map (fun r => (r.seq, r.code, r.rep)) == [(3, 0x0011, 7)]
        && (getBucket t 0x0011).tokens == 0)
    ∧ next (exec (.moraineOffer 0x0011 5 [3]) (logOf [] 0)) (fun t => t.mor.ring == [] && (getBucket t 0x0011).supp == 8 && getReg t 0x100034 == 1#32)
    ∧ next (exec (.moraineOffer 0xFFFF 5 [3]) (logOf [] 0)) (fun t => t.mor.ring == [])
    ∧ next (exec (.tokenRefill 0x0011) (logOf [] 4)) (fun t => (getBucket t 0x0011).tokens == (getBucket (logOf [] 4) 0x0011).burst)
    ∧ next (exec (.archiveRecord true 0) (logOf [rec0 2 false false] 0)) (fun t => t.mor.archive.map (·.seq) == [1, 2]
        && t.mor.ring.map (·.archived) == [true])
    ∧ next (exec (.archiveRecord false 0) (logOf [rec0 2 false false] 0)) (fun t => t.mor.archErr && t.mor.archive.length == 1)
    ∧ next (exec (.morRseq .manager 2) (armed (logOf [rec0 2 false true] 0) 0x101)) (fun t => t.mor.rstat == 0xC0000000#32 && t.mor.rrec.length == 16)
    ∧ next (exec (.morRseq .manager 9) (armed (logOf [rec0 2 false true] 0) 0x101)) (fun t => t.mor.rstat == 0#32)
    ∧ next (exec (.logRead slot 1 1 false) (logOf [rec0 2 false false] 0)) (fun t => t.hostIf.ccTail == 1)
    ∧ next (exec (.logLimit slot 0x0011 1000 1024) mbx) (fun t => t.journal.length == 1)
    ∧ next (exec (.captureRead ⟨1, 0x2000, 3⟩ 15 1 1) captured) (fun t => t.hostIf.ccTail == 1) := by decide +kernel

def waitingAttest : State := rngAt .ready (fun r => { r with waiting := [⟨2, 16, some (.attest slot [])⟩] })

theorem test_Randomness_services :
    (mbx.rng.given = [] ∧ waitingRng.rng.given = [] ∧ (rngBlank .ready).rng.given = [] ∧ (rngBlank .ready).rng.waiting = []
        ∧ mbx.rng.waiting = [] ∧ (rngBlank .ready).rng.sources.length = 8 ∧ fld (getReg (setReg (rngAt .test id) 0xF003C 0x10#32) 0xF003C) 5 4 = 1
        ∧ fld (getReg (setReg (rngAt .test id) 0xF003C 0x20#32) 0xF003C) 5 4 ≠ 1 ∧ (rngAt .restarting (fun r => { r with qfill := 3 })).rng.qfill < 4)
    ∧ next (exec (.rngRequestTimeout 2) waitingAttest) (fun t => t.rng.waiting == [] && getReg t 0xF0038 == 1#32 && t.hostIf.ccTail == 1)
    ∧ next (exec (.rngTestOff .manager) (rngBlank .ready)) (fun t => t.rng.st == .ready)
    ∧ next (exec .rngGenerate (rngAt .restarting (fun r => { r with outputs := 3 }))) (fun t => t.rng.outputs == 3) := by decide +kernel

theorem test_Randomness_sealing : (signing mbx).lc.identity = true ∧ (signing mbx).ltu.st = .idle ∧ SignRandom (signing mbx) := by
  unfold SignRandom
  exact ⟨rfl, rfl, rfl, rfl, Nat.le_refl _⟩

/-! ### Start-up, power, station side -/

def env : BootEnv := ⟨true, true, true, true, true, 5, 0, false⟩
/-- A module in reset: as State.reset, and with image faults. -/
def badImages : State := { State.reset with boot := { State.reset.boot with imageA := { deliveredImage with magic := 0 }, imageB := { deliveredImage with svn := 65 } } }
def inRom : State := { keyedDrams State.reset with boot := { State.reset.boot with inReset := false, phase := .rom, access := .closed } }
def atPhase (p : Phase) : State := { inRom with boot := { inRom.boot with phase := p } }
def holding : State := armed { mbx with boot := { mbx.boot with phase := .hold, cause := 1, access := .holdPages } } 1
def recovering (status : Nat) (slot : Word) : State := { setReg mbx 0x102C slot with boot := { mbx.boot with rcvStatus := status } }
/-- The delivered image passes every check wherever key 0 is the firmware key and security version 1 will do. -/
theorem test_DeliveredImage (s : State) (h : s.lc.fwKeyHash = [some (fingerprint Config.fwKey), none, none, none]) (hr : s.lc.fwKeyRevoke = 0)
    (hv : s.lc.svnMin = 1) : imageFault s deliveredImage = 0 := by
  have h1 : fwBad deliveredImage = false := by decide +kernel
  have h2 : deliveredImage.body.take deliveredImage.length = [0] := rfl
  have h3 : deliveredImage.sig = Config.mldsaSign deliveredImage.pubKey (Config.sha3 (fwHead deliveredImage)) 0 := rfl
  have h4 : deliveredImage.bodyDigest = Config.sha3 [0] := rfl
  have h5 : s.lc.fwKeyHash.getD deliveredImage.keyIdx none = some (fingerprint deliveredImage.pubKey) := by rw [h]; rfl
  have h6 : bit s.lc.fwKeyRevoke deliveredImage.keyIdx = false := by rw [hr]; rfl
  have h7 : deliveredImage.svn = 1 := rfl
  simp only [imageFault, h1, h2, h4, h5, h6, h7, hv, Config.mldsaVerify]
  simp [h3]

/-- The host has written 64-bit address 0x10 of PASID 0, and byte 5 of DRAM. -/
def written : State := writeByte (writeByte mbx (hostKey 0 0x10) 7) 5 7

theorem test_ResetStartUpAndHold :
    (mbx.boot.inReset = false ∧ mbx.lc.views = 0 ∧ State.reset.boot.inReset = true ∧ State.reset.lc.resetDue = false
        ∧ (recovering 4 0).boot.rcvStatus = 4)
    ∧ (lcDecode State.reset.lc.lcw = (.sealed, 0) ∧ State.reset.rng.st = .starting ∧ copyGood env 0 = true ∧ copyGood env 1 = true
        ∧ State.reset.boot.prefSlot < 2 ∧ State.reset.boot.latchNs < 1000000000)
    ∧ (badImages.boot.inReset = true ∧ imageFault badImages badImages.boot.imageA = 1 ∧ imageFault badImages badImages.boot.imageB = 1)
    ∧ (inRom.boot.inReset = false ∧ inRom.pool.dram0.st = .service ∧ inRom.pool.dram1.st = .service ∧ inRom.durable.shadow = none ∧ inRom.durable.slices = []
        ∧ inRom.durable.ctxs = [] ∧ inRom.durable.groups = [] ∧ inRom.durable.blobs = [] ∧ inRom.durable.bound = false ∧ inRom.slices = []
        ∧ inRom.ctxs = [] ∧ inRom.boot.batteryOk = true ∧ inRom.tamper.breachDue = false ∧ inRom.tamper.zeroised = false ∧ inRom.firn.outlived = [])
    ∧ ((atPhase .firmware).boot.phase = .firmware ∧ (atPhase .hostOpen).firn.schedule = [])
    ∧ ((2000#16).toInt = 2000 ∧ (0x8000#16).toInt < 2000 ∧ writeCause holding .manager 4 0x102C (pack [(1, 1), (1, 0)]) = 0
        ∧ (recovering 1 2).boot.rcvStatus = 1 ∧ (recovering 1 2).lc.svnMin = 1)
    ∧ next (exec .resetN written) (fun t => t.boot.inReset && readByte t (hostKey 0 0x10) == 7 && readByte t 5 == 0)
    ∧ next (exec .transitionReset mbx) (fun t => !t.boot.inReset)
    ∧ next (exec .recoveryReset (recovering 4 0)) (fun t => t.boot.inReset)
    ∧ next (exec .powerFailWarning mbx) (fun t => t.boot.inReset && t.boot.powerFail)
    ∧ next (exec (.resetRelease { env with otpOk := false }) State.reset) (fun t => t.boot.phase == .hold && t.boot.cause == 5)
    ∧ next (exec (.resetRelease env) badImages) (fun t => t.boot.phase == .hold && t.boot.cause == 1)
    ∧ next (exec (.hostAccessOpen 900) (atPhase .firmware)) (fun t => t.boot.access == .full && t.boot.bootTime == 900)
    ∧ next (exec .portHoldRelease (atPhase .hostOpen)) (fun t => t.boot.phase == .service && !t.boot.portHold)
    ∧ next (exec (.tempHold 2000) { mbx with boot := { mbx.boot with phase := .service } }) (fun t => t.boot.phase == .hold && t.boot.cause == 4)
    ∧ next (exec (.tempHold 1999) mbx) (fun t => t.boot.phase == .service)
    ∧ next (exec (.recoveryGo .manager true) holding) (fun t => t.boot.rcvStatus == 1)
    ∧ next (exec (.recoveryDone (.image { deliveredImage with kind := 2 })) (recovering 1 2)) (fun t => t.boot.rcvStatus == 2 && t.boot.notes == [(1, 1)])
    ∧ next (exec (.recoveryDone .nandFail) (recovering 1 2)) (fun t => t.boot.rcvStatus == 3) := by decide +kernel

/-- The images that the module holds at reset are valid, also where one of them has failed and the other starts. -/
theorem test_ResetStartUpAndHold_images :
    imageFault State.reset (prefImage State.reset) = 0 ∧ imageFault (recovering 1 2) deliveredImage = 0
    ∧ imageFault { State.reset with boot := { State.reset.boot with imageA := { deliveredImage with magic := 0 } } } deliveredImage = 0 :=
  ⟨test_DeliveredImage _ rfl rfl rfl, test_DeliveredImage _ rfl rfl rfl, test_DeliveredImage _ rfl rfl rfl⟩

theorem test_ResetStartUpAndHold_entry : next (exec .firmwareEntry inRom) (fun t => t.fwl.epoch == 1 && t.boot.phase == .firmware) := by decide +kernel

def clockOut (n : Nat) : State := { mbx with pwc := { mbx.pwc with clkOk := maskSet mbx.pwc.clkOk n false } }
def pwcAt (f : PwcSt → PwcSt) : State := armed { mbx with pwc := f mbx.pwc } 0x130
/-- Port 3 is off. -/
def portOff3 : State := pwcAt (fun p => { p with port := maskSet p.port 3 false })
def lpHeld : State := pwcAt (fun p => { p with lpHold := true, saved := [0, 0, 0, 0, 0, 0, 0], dram := 0 })

theorem test_ClocksAndPower :
    (mbx.boot.inReset = false ∧ bit mbx.pwc.clkOk 2 = true ∧ mbx.ptp.st = .freerun ∧ bit (clockOut 3).pwc.clkOk 3 = false
        ∧ bit (clockOut 2).pwc.clkOk 2 = false)
    ∧ (writeCause (pwcAt id) .manager 4 0x130024 (pwcWord 1 2 15) = 0 ∧ offRefusal (pwcAt id) 2 15 ≠ 0)
    ∧ (writeCause (pwcAt id) .manager 4 0x130024 (pwcWord 1 4 3) = 0 ∧ offRefusal (pwcAt id) 4 3 = 0 ∧ bit (pwcAt id).pwc.port 3 = true
        ∧ (getPort (pwcAt id) 3).up = false)
    ∧ (writeCause portOff3 .manager 4 0x130024 (pwcWord 2 4 3) = 0 ∧ portOff3.pwc.lpHold = false ∧ bit portOff3.pwc.port 3 = false)
    ∧ (writeCause (pwcAt id) .manager 4 0x130024 (pwcWord 3 0 0) = 0 ∧ lpEnterRefusal (pwcAt id) = 0
        ∧ lpEnterRefusal (withCtx publisher (pwcAt id)) = 4)
    ∧ (writeCause lpHeld .manager 4 0x130024 (pwcWord 4 0 0) = 0 ∧ lpHeld.pwc.lpHold = true ∧ lpHeld.pwc.saved = [0, 0, 0, 0, 0, 0, 0])
    ∧ next (exec (.clockFault 2 9) mbx) (fun t => !bit t.pwc.clkOk 2 && t.ptp.substitute && bit (getPage t 0x130).stat 1)
    ∧ (tamperArmed mbx = true ∧ tamperArmed blank = false ∧ blank.boot.inReset = false)
    ∧ next (exec (.clockFault 4 9) mbx) (fun t => t.tamper.zeroised && t.tamper.last == 0x80)
    ∧ next (exec (.clockFault 5 9) blank) (fun t => t.tamper.active == 0x80 && !t.tamper.zeroised)
    ∧ next (exec (.clockFaultEnd 3) (clockOut 3)) (fun t => bit t.pwc.clkOk 3)
    ∧ next (exec (.clockFaultEnd 2) (clockOut 2)) (fun t => bit t.pwc.clkOk 2 && !t.ptp.substitute)
    ∧ next (exec (.thermalWarning 1760) mbx) (fun t => t.pwc.tj == 1760 && bit (getPage t 0x130).cond 2)
    ∧ next (exec (.thermalWarning 1759) mbx) (fun t => !bit (getPage t 0x130).cond 2)
    ∧ next (exec (.off .manager 2#4 15#10) (pwcAt id)) (fun t => !t.pwc.busy && t.pwc.status == 4)
    ∧ next (exec (.off .manager 4#4 3#10) (pwcAt id)) (fun t => !bit t.pwc.port 3 && t.pwc.busy)
    ∧ next (exec (.on .manager 4#4 3#10) portOff3) (fun t => bit t.pwc.port 3 && t.pwc.busy)
    ∧ next (exec (.pwcRequestDone true) (pwcAt (fun p => { p with busy := true, op := 2, group := 4, index := 3 }))) (fun t => !t.pwc.busy && t.pwc.status == 0)
    ∧ next (exec (.pwcRequestDone false) (pwcAt (fun p => { p with port := maskSet p.port 3 false, busy := true, op := 2, group := 4, index := 3 })))
        (fun t => !t.pwc.busy && t.pwc.status == 5)
    ∧ next (exec (.lpholdEnter .manager) (withCtx publisher (pwcAt id))) (fun t => !t.pwc.lpHold && t.pwc.status == 4)
    ∧ next (exec (.lpholdExit .manager) (pwcAt id)) (fun t => !t.pwc.busy && t.pwc.status == 4)
    ∧ next (exec (.lpholdExit .manager) { lpHeld with rng := { lpHeld.rng with st := .fatal } }) (fun t => !t.pwc.lpHold && t.pwc.dram == 3) := by decide +kernel

def stnAt (f : StationSt → StationSt) : State := { cerm with stn := f cerm.stn }
/-- A ceremony is open and its input is not energised. -/
def cerOpenNoInput : State := { cerAt .opened 0x88 0 [1] with stn := { (cerAt .opened 0x88 0 [1]).stn with stSi := 0 } }
def ev : StnEvent := ⟨true, 0, 0⟩

theorem test_StationSide :
    (cerm.pwc.stn = true ∧ cerm.boot.inReset = false ∧ bit cerm.stn.stSi 1 = true ∧ cerm.stn.linkOk = true ∧ bit cerm.stn.stSi 7 = false
        ∧ cerm.tamper.cerSlot = none)
    ∧ ((stnAt (fun x => { x with events := List.replicate 63 ev })).stn.events.length < 64
        ∧ 64 ≤ (stnAt (fun x => { x with events := List.replicate 64 ev })).stn.events.length)
    ∧ (writeCause (armed cerm 0x110) .manager 4 0x11002C 0x8#32 = 0 ∧ writeCause (armed cerm 0x110) .manager 4 0x11003C 1 = 0)
    ∧ ((stnAt (fun x => { x with stSi := 0 })).tamper.cer = .idle ∧ bit (cerOpenNoInput).stn.stSi 1 = false ∧ cerOpenNoInput.tamper.cer ≠ .idle
        ∧ cerOpenNoInput.tamper.cerSlot = none ∧ cerOpenNoInput.pwc.stn = true)
    ∧ next (exec (.stationLinkFrame ⟨0x82⟩) (stnAt (fun x => { x with waiting := [(3, ev)] }))) (fun t => t.stn.linkOk && t.stn.raw == 0x82 && t.stn.health
        && t.stn.si == 2 && t.stn.events == [ev] && t.stn.waiting == [])
    ∧ next (exec (.stationLinkFrame ⟨0⟩) (stnAt (fun x => { x with waiting := [(3, ev)], events := List.replicate 64 ev })))
        (fun t => t.stn.events.length == 64 && getReg t 0x110040 == 1#32)
    ∧ next (exec (.stationLinkFrame ⟨0⟩) cerOpenNoInput) (fun t => t.tamper.cer == .idle)
    ∧ next (exec (.siChange 7 true 1999) cerm) (fun t => t.stn.stSi == 0x82 && t.stn.waiting == [(cerm.boot.now / 1000, ⟨true, 7, 1000⟩)])
    ∧ next (exec (.siChange 7 true 1999) (stnAt (fun x => { x with linkOk := false }))) (fun t => t.stn.stSi == 0x82 && t.stn.waiting == [])
    ∧ next (exec .stationLinkLoss cerm) (fun t => !t.stn.linkOk && bit (getPage t 0x110).stat 3)
    ∧ next (exec (.soOverload 2) cerm) (fun t => bit t.stn.ovld 2 && bit (getPage t 0x110).stat 2)
    ∧ next (exec (.stnOutWrite .manager 0x8#32) (armed (stnAt (fun x => { x with ovld := 0xC })) 0x110)) (fun t => t.stn.so3 && !t.stn.so2
        && t.stn.ovld == 8)
    ∧ next (exec (.stnEvpop .manager 1) (armed (stnAt (fun x => { x with events := [ev] })) 0x110)) (fun t => t.stn.events == [])
    ∧ next (exec .cryptoOkHealthTimeout (stnAt (fun x => { x with health := true }))) (fun t => !t.stn.health) := by decide +kernel

/-! ### Well-formedness: one term for each check that fails it, and the terms that pass -/

def bootEnv : BootEnv := ⟨true, true, true, true, true, 0, 0, false⟩
def pubIn : PubRecIn := ⟨0, 0, 0, 0, 0, 0⟩
def liuW : LiuWord := ⟨[], 0, 0, 0, false, 0⟩
def badImage : FwImage := { deliveredImage with svn := 2 ^ 32 }
def badSlot : Slot := { slot with tag := 65536 }
def badFrame : Frame := { sv with vlanId := 4096 }
def secExt : SecExt := ⟨1, 0, 0, true⟩

theorem test_wf_parts :
    [Slot.wf { slot with tag := 65536 }, Slot.wf { slot with raddr := 2 ^ 64 }, Slot.wf { slot with rlen := 2 ^ 32 }, SecExt.wf { secExt with alg := 8 },
      SecExt.wf { secExt with keyId := 2 ^ 32 }, SecExt.wf { secExt with iv := 2 ^ 64 }, Frame.wf { sv with dstMac := 2 ^ 48 },
      Frame.wf { sv with srcMac := 2 ^ 48 }, Frame.wf { sv with vlanId := 4096 }, Frame.wf { sv with appId := 65536 }, Frame.wf { sv with dstAddr := 2 ^ 128 },
      Frame.wf { sv with srcAddr := 2 ^ 128 }, Frame.wf { sv with udpPort := 65536 }, Frame.wf { sv with smpCnts := [65536] },
      Frame.wf { sv with smpSynch := 256 }, Frame.wf { sv with stNum := 2 ^ 32 }, Frame.wf { sv with sqNum := 2 ^ 32 }, Frame.wf { sv with tSec := 2 ^ 32 },
      Frame.wf { sv with tFrac := 2 ^ 24 }, Frame.wf { sv with quality := [2 ^ 32] }, Frame.wf { sv with ext := some { secExt with alg := 8 } },
      Frame.wf { sv with redSeq := some 65536 }, Frame.wf { sv with bytes := List.replicate 1523 0 }, PtpMsg.wf { announce with domain := 256 },
      PtpMsg.wf { announce with bytes := List.replicate 1523 0 }, IrigFrame.wf { irig true with second := 366 * 86400 + 1 },
      IrigFrame.wf { irig true with year := some 1969 }, IrigFrame.wf { irig true with year := some 65536 }, PtpMsg.wf { announce with rxTs := 2 ^ 80 },
      IrigFrame.wf { irig true with taiUtc := some 65536 }].all (· == false) = true
    ∧ [NodeDef.wf { leaf with index := 2 ^ 32 }, NodeDef.wf { leaf with parent := some (2 ^ 32) }, NodeDef.wf { leaf with rootBlob := 2 ^ 32 },
      NodeDef.wf { leaf with slice := 2 ^ 32 }, NodeDef.wf { leaf with attr := 256 }, NodeDef.wf { leaf with ktype := 256 }, NodeDef.wf { leaf with kid := 2 ^ 32 },
      GdoiIn.wf { gdoi with group := 2 ^ 32 }, GdoiIn.wf { gdoi with seq := 2 ^ 32 }, GdoiIn.wf { gdoi with kid := some (2 ^ 32) },
      GdoiIn.wf { gdoi with ktype := 256 }, GdoiIn.wf { gdoi with activate := 2 ^ 64 }, CertIn.wf { cert with n := 2 ^ 524288 }, CertIn.wf { cert with e := 2 ^ 524288 },
      CertIn.wf { cert with x := 2 ^ 384 }, CertIn.wf { cert with y := 2 ^ 384 }, CertIn.wf { cert with sigR := 2 ^ 524288 }, CertIn.wf { cert with sigS := 2 ^ 384 },
      TxDescIn.wf { descIn with addr := 2 ^ 64 }, TxDescIn.wf { descIn with len := 65536 }, TxDescIn.wf { descIn with ctx := 2 ^ 32 },
      TxDescIn.wf { descIn with tck := 2 ^ 32 }, TxDescIn.wf { descIn with tnk := 2 ^ 32 }, TxDescIn.wf { descIn with tag := 2 ^ 32 },
      PubRecIn.wf { pubIn with ctx := 2 ^ 18 }, PubRecIn.wf { pubIn with first := 2 ^ 32 }, PubRecIn.wf { pubIn with last := 2 ^ 32 },
      PubRecIn.wf { pubIn with iv := 2 ^ 64 }, PubRecIn.wf { pubIn with seqNo := 65536 }, PubRecIn.wf { pubIn with digest := 2 ^ 256 },
      BootEnv.wf { bootEnv with elapsedSec := 2 ^ 48 }, BootEnv.wf { bootEnv with elapsedNs := 1000000000 }].all (· == false) = true
    ∧ [FwImage.wf { deliveredImage with magic := 2 ^ 32 }, FwImage.wf { deliveredImage with version := 65536 }, FwImage.wf { deliveredImage with kind := 256 },
      FwImage.wf { deliveredImage with fwVer := 2 ^ 32 }, FwImage.wf badImage, FwImage.wf { deliveredImage with length := 2 ^ 32 },
      FwImage.wf { deliveredImage with keyIdx := 256 }, LiuWord.wf { liuW with pub := [(0, 2 ^ 8192)] },
      LibCall.wf (.rsaVerify (2 ^ 524288) 0 true), LibCall.wf (.rsaPublic 0 (2 ^ 524288) true), LibCall.wf (.rsaSign (2 ^ 524288) 0 true),
      LibCall.wf (.ecdsaVerify .p256 (2 ^ 384) 0 0 0 true), LibCall.wf (.ecdsaVerify .p256 0 (2 ^ 384) 0 0 true),
      LibCall.wf (.ecdsaVerify .p256 0 0 (2 ^ 384) 0 true), LibCall.wf (.ecdsaVerify .p256 0 0 0 (2 ^ 384) true), LibCall.wf (.ecdh .p256 (2 ^ 384) 0 false true),
      LibCall.wf (.ecdh .p256 0 (2 ^ 384) false true), LibCall.wf (.ecdsaSign .p384 6 true), GdoiIn.wf { gdoi with lib := [.ecdsaSign .p384 6 true] },
      MirrorItem.wf (.ctx (2 ^ 18) []), MirrorItem.wf (.ctxModify (2 ^ 18) 0 0 0 0 0 1),
      MirrorItem.wf (.ctxModify 0 0 0 0 0 0 (2 ^ 32)), MirrorItem.wf (.ctxRemove (2 ^ 18)), MirrorItem.wf (.keyWords (2 ^ 18) 0 0 0 0),
      MirrorItem.wf (.keyWords 0 4 0 0 0), MirrorItem.wf (.keyWords 0 0 (2 ^ 32) 0 0), MirrorItem.wf (.keyWords 0 0 0 (2 ^ 32) 0),
      MirrorItem.wf (.keyWords 0 0 0 0 (2 ^ 32)), MirrorItem.wf (.commitAt (2 ^ 18) 0 0), MirrorItem.wf (.commitAt 0 (2 ^ 96) 0),
      MirrorItem.wf (.commitAt 0 0 (2 ^ 32)), MirrorItem.wf (.balDefine (2 ^ 32) 0 0 0 0 0 0 0), MirrorItem.wf (.balRemove (2 ^ 32)),
      MirrorItem.wf (.assign 16 []), MirrorItem.wf (.assign 0 [(2 ^ 32, 0)]), MirrorItem.wf (.drain 16 0), MirrorItem.wf (.drain 0 65536),
      MirrorItem.wf (.giveBack 16), MirrorItem.wf (.durable (2 ^ 64)), MirrorItem.wf (.final [(0, 2 ^ 64)] []),
      MirrorItem.wf (.final [] [(0, 65536)])].all (· == false) = true := by decide +kernel

/-- A block too long for any command, and lists too long for a command's operands. -/
def long : List Byte := List.replicate (2 ^ 20 + 1) 0
theorem test_wf_long : short long = false := by
  unfold short long
  rw [List.length_replicate]
  decide
theorem test_wf_lists : allFit 32 (List.replicate 65537 0) = false ∧ pairsFit 32 (List.replicate 65537 (0, 0)) = false := by
  unfold allFit pairsFit
  rw [List.length_replicate, List.length_replicate]
  exact ⟨rfl, rfl⟩

theorem test_wf_blocks (b : List Byte) (h : short b = false) :
    NodeDef.wf { leaf with label := b } = false ∧ GdoiIn.wf { gdoi with key := b } = false ∧ GdoiIn.wf { gdoi with kek := some b } = false
    ∧ CertIn.wf { cert with tbs := b } = false ∧ MirrorItem.wf (.ctx 0 b) = false := by
  simp [NodeDef.wf, GdoiIn.wf, CertIn.wf, MirrorItem.wf, h]

/-- An image with opaque numbers: its reserved bytes, and the sizes of its key and signature. -/
theorem test_wf_image :
    FwImage.wf { deliveredImage with rsvd := [] } = false ∧ FwImage.wf { deliveredImage with tail := [] } = false
    ∧ FwImage.wf { deliveredImage with bodyDigest := 2 ^ 512 } = false ∧ FwImage.wf { deliveredImage with pubKey := 2 ^ 20736 } = false
    ∧ FwImage.wf { deliveredImage with sig := 2 ^ 37016 } = false
    ∧ FwImage.wf { deliveredImage with bodyDigest := 0, pubKey := 0, sig := 0 } = true := by
  refine ⟨?_, ?_, ?_, ?_, ?_, by decide +kernel⟩ <;> simp [FwImage.wf, fits]

theorem test_wf_long_operands (b : List Byte) (h : short b = false) :
    ([.mgmtFrameReceive b, .kmac 0 0 b, .hash3 0 b, .bundleLoad slot b, .attest slot b, .ltuOperation .sha3 b, .pgmLoad slot b,
      .fabricAccess 0 0 false 0 b, .sliceCreate slot b, .sliceReset slot b, .ctxCreate slot b, .ceremonyOpen slot 0 0 b,
      .ceremonyAuth slot b, .officerInit slot b, .lcMfg slot b 0 .done, .certStore slot b] : List Instr).all (fun i => !i.wf) = true := by
  simp [Instr.wf, h]

theorem test_wf_refuses :
    ([.regWrite .manager (2 ^ 32) 0 0, .regWrite .manager 0 (2 ^ 24) 0, .refusedRead .manager (2 ^ 32) 0,
      .refusedRead .manager 0 (2 ^ 24), .blkStclr .manager (2 ^ 12) 0, .blkUnlk .manager (2 ^ 12) 0,
      .unlockLapse .manager (2 ^ 12), .cfgCrcPass (2 ^ 12), .cfgholdTimeout (2 ^ 12), .frameArrival 0 badFrame,
      .frameLastByte 0 (2 ^ 16) false, .dupEntryExpiry 0 (2 ^ 48) 0, .dupEntryExpiry 0 0 (2 ^ 16), .streamLost (2 ^ 18),
      .epochEnd (2 ^ 18), .headWordWrite (2 ^ 64), .ptpMessage 0 { announce with domain := 256 },
      .irigbFrame { irig true with second := 366 * 86400 + 1 }, .wrap 0 (2 ^ 15) 0, .wrap 0 0 (2 ^ 256), .kmac 0 (2 ^ 15) [],
      .servicePromotion 0 (2 ^ 32), .blobReadDone (2 ^ 20) false false, .bundleLoad badSlot [], .keyStage badSlot 0 0 0 0 0,
      .keyStage slot (2 ^ 32) 0 0 0 0, .keyStage slot 0 (2 ^ 8) 0 0 0, .keyStage slot 0 0 (2 ^ 32) 0 0,
      .keyStage slot 0 0 0 (2 ^ 64) 0, .keyStage slot 0 0 0 0 (2 ^ 32), .keyCommit badSlot [] 0 0,
      .keyCommit slot ([2 ^ 32]) 0 0, .keyCommit slot [] (2 ^ 64) 0, .keyCommit slot [] 0 (2 ^ 32), .keyAbort badSlot 0,
      .keyAbort slot (2 ^ 32), .blobPin badSlot 0 0 false, .blobPin slot (2 ^ 32) 0 false, .blobPin slot 0 (2 ^ 32) false,
      .nodeDefine badSlot leaf, .nodeDefine slot { leaf with attr := 256 }, .kemGenerate badSlot, .keyStatus badSlot 0,
      .keyStatus slot (2 ^ 32), .gdoiMap badSlot 0 0 [] 0, .gdoiMap slot (2 ^ 32) 0 [] 0, .gdoiMap slot 0 (2 ^ 32) [] 0,
      .gdoiMap slot 0 0 ([2 ^ 32]) 0, .gdoiMap slot 0 0 [] (2 ^ 32), .gdoiMsg badSlot gdoi,
      .gdoiMsg slot { gdoi with ktype := 256 }, .idRead badSlot, .attest badSlot [], .svnAdvance badSlot 0,
      .svnAdvance slot (2 ^ 32), .certCheck badSlot cert, .certCheck slot { cert with x := 2 ^ 384 },
      .ltuOperationDone (2 ^ 32) false, .setmod { liuW with pub := [(0, 2 ^ 8192)] },
      .montmul { liuW with pub := [(0, 2 ^ 8192)] }, .modadd { liuW with pub := [(0, 2 ^ 8192)] },
      .modsub { liuW with pub := [(0, 2 ^ 8192)] }, .tomont { liuW with pub := [(0, 2 ^ 8192)] },
      .frommont { liuW with pub := [(0, 2 ^ 8192)] }, .mul { liuW with pub := [(0, 2 ^ 8192)] },
      .copy { liuW with pub := [(0, 2 ^ 8192)] }, .zero { liuW with pub := [(0, 2 ^ 8192)] },
      .liuCmp { liuW with pub := [(0, 2 ^ 8192)] }, .exppub { liuW with pub := [(0, 2 ^ 8192)] },
      .expsec { liuW with pub := [(0, 2 ^ 8192)] }, .keyin { liuW with pub := [(0, 2 ^ 8192)] } 0, .keyin liuW (2 ^ 20),
      .init (2 ^ 18), .balwaitExpiry (2 ^ 32) 0, .balwaitExpiry 0 (2 ^ 16), .sharedRamEcc 0 (2 ^ 20), .ctxEcc (2 ^ 18),
      .contextMove (2 ^ 18) 0, .pgmLoad badSlot [], .pgmAssign badSlot 0 [] [], .pgmAssign slot (2 ^ 32) [] [],
      .pgmAssign slot 0 ([(0, 2 ^ 32)]) [], .pgmAssign slot 0 [] ([2 ^ 32]), .pillowDrain badSlot 0 0,
      .pillowDrain slot (2 ^ 32) 0, .pillowDrain slot 0 (2 ^ 32), .pillowReturn badSlot 0, .pillowReturn slot (2 ^ 32),
      .bobbinRetest badSlot 0 false, .pgmRemove badSlot 0 0, .pgmRemove slot (2 ^ 32) 0, .pgmRemove slot 0 (2 ^ 32),
      .pillowStatus badSlot 0, .pillowStatus slot (2 ^ 32), .cellDataEcc (2 ^ 64), .fabricAccess 0 (2 ^ 36) false 0 [],
      .fabricAccess 0 0 false (2 ^ 11) [], .descriptorFetch .slices { descIn with len := 65536 },
      .txFrameReceived .slices 0 badFrame, .mbxCrtail .manager 0 (some (256, slot)),
      .mbxCrtail .manager 0 (some (255, badSlot)), .sliceCreate badSlot [], .sliceQuiesce badSlot 0,
      .sliceQuiesce slot (2 ^ 32), .sliceDrainComplete (2 ^ 32), .quiesceAbandon (2 ^ 32), .sliceResume badSlot 0,
      .sliceResume slot (2 ^ 32), .sliceReset badSlot [], .sliceRemove badSlot 0, .sliceRemove slot (2 ^ 32),
      .sliceDirtylog badSlot 0 false 0 0 0, .sliceDirtylog slot (2 ^ 32) false 0 0 0, .sliceDirtylog slot 0 false (2 ^ 64) 0 0,
      .sliceDirtylog slot 0 false 0 (2 ^ 32) 0, .sliceDirtylog slot 0 false 0 0 (2 ^ 64), .dirtyHarvest badSlot 0,
      .dirtyHarvest slot (2 ^ 32), .sliceStatus badSlot 0, .sliceStatus slot (2 ^ 32), .ctxCreate badSlot [],
      .ctxModify badSlot 0 0 0 0 0 0 0, .ctxModify slot (2 ^ 32) 0 0 0 0 0 0, .ctxModify slot 0 0 0 0 0 0 (2 ^ 32),
      .ctxRemove badSlot 0, .ctxRemove slot (2 ^ 32), .ctxRead badSlot 0, .ctxRead slot (2 ^ 32),
      .balDefine badSlot 0 0 0 0 0 0 0 0, .balDefine slot (2 ^ 32) 0 0 0 0 0 0 0, .balDefine slot 0 (2 ^ 32) 0 0 0 0 0 0,
      .balDefine slot 0 0 (2 ^ 32) 0 0 0 0 0, .balDefine slot 0 0 0 (2 ^ 32) 0 0 0 0, .balDefine slot 0 0 0 0 (2 ^ 32) 0 0 0,
      .balDefine slot 0 0 0 0 0 (2 ^ 32) 0 0, .balDefine slot 0 0 0 0 0 0 (2 ^ 32) 0, .balDefine slot 0 0 0 0 0 0 0 (2 ^ 32),
      .balRemove badSlot 0, .balRemove slot (2 ^ 32), .heartbeatReceive 0 .single (2 ^ 64),
      .mirrorRecord (2 ^ 64) (.durable 0), .mirrorRecord 0 (.ctxRemove (2 ^ 18)), .publishRecord { pubIn with ctx := 2 ^ 18 },
      .holdbackExpiry (2 ^ 64), .brideAuthDone (2 ^ 256) false, .keysplit (2 ^ 18), .pairBind badSlot 0 0 0,
      .pairBind slot (2 ^ 256) 0 0, .pairBind slot 0 (2 ^ 32) 0, .pairBind slot 0 0 (2 ^ 32), .pairSwitch badSlot,
      .pairLeave badSlot, .pairForce badSlot, .pairStatus badSlot, .ceremonyOpen badSlot 0 0 [],
      .ceremonyOpen slot (2 ^ 32) 0 [], .ceremonyOpen slot 0 (2 ^ 32) [], .ceremonyAuth badSlot [],
      .ceremonyExec badSlot 0 .done, .ceremonyExec slot (2 ^ 32) .done, .ceremonyCancel badSlot 0,
      .ceremonyCancel slot (2 ^ 32), .officerInit badSlot [], .lcStatus badSlot, .lcField badSlot .done, .debugLock badSlot,
      .lcComplete badSlot .done, .lcZeroise badSlot, .lcMfg badSlot [] 0 .done, .lcMfg slot [] (2 ^ 32) .done,
      .certStore badSlot [], .rngBlock 0 [], .rngRequest 0 (2 ^ 32), .moraineOffer (2 ^ 32) 0 [], .moraineOffer 0 (2 ^ 16) [],
      .moraineOffer 0 0 ([2 ^ 32]), .tokenRefill (2 ^ 32), .archiveRecord false (2 ^ 32), .logRead badSlot 0 0 false,
      .logRead slot (2 ^ 32) 0 false, .logRead slot 0 (2 ^ 32) false, .logCheck badSlot 0 0 false,
      .logCheck slot (2 ^ 32) 0 false, .logCheck slot 0 (2 ^ 32) false, .logSeal badSlot 0 0 false,
      .logSeal slot (2 ^ 32) 0 false, .logSeal slot 0 (2 ^ 32) false, .logLimit badSlot 0 0 0, .logLimit slot (2 ^ 32) 0 0,
      .logLimit slot 0 (2 ^ 32) 0, .logLimit slot 0 0 (2 ^ 32), .resetRelease { bootEnv with elapsedNs := 1000000000 },
      .hostAccessOpen (2 ^ 64), .recoveryDone (.image badImage), .siChange 0 false (2 ^ 64), .captureRead badSlot 0 0 0,
      .captureRead slot (2 ^ 32) 0 0, .captureRead slot 0 (2 ^ 32) 0, .captureRead slot 0 0 (2 ^ 32),
      .pcieLinkChange false (2 ^ 3) 0 false, .pcieLinkChange false 0 (2 ^ 5) false, .vbatLowWarning (2 ^ 12)] : List Instr).all (fun i => !i.wf) = true := by decide +kernel

theorem test_wf_accepts :
    ([.regWrite .manager 0 0 0, .refusedRead .manager 0 0, .blkStclr .manager 0 0, .blkUnlk .manager 0 0,
      .unlockLapse .manager 0, .cfgCrcPass 0, .cfgholdTimeout 0, .frameArrival 0 sv, .frameLastByte 0 0 false,
      .dupEntryExpiry 0 0 0, .mgmtFrameReceive [], .streamLost 0, .epochEnd 0, .headWordWrite 0, .ptpMessage 0 announce,
      .irigbFrame (irig true), .wrap 0 0 0, .kmac 0 0 [], .hash3 0 [], .servicePromotion 0 0, .blobReadDone 0 false false,
      .bundleLoad slot [], .keyStage slot 0 0 0 0 0, .keyCommit slot [] 0 0, .keyAbort slot 0, .blobPin slot 0 0 false,
      .nodeDefine slot leaf, .kemGenerate slot, .keyStatus slot 0, .gdoiMap slot 0 0 [] 0, .gdoiMsg slot gdoi, .idRead slot,
      .attest slot [], .svnAdvance slot 0, .certCheck slot cert, .ltuOperation .sha3 [], .ltuOperationDone 0 false,
      .setmod liuW, .montmul liuW, .modadd liuW, .modsub liuW, .tomont liuW, .frommont liuW, .mul liuW, .copy liuW, .zero liuW,
      .liuCmp liuW, .exppub liuW, .expsec liuW, .keyin liuW 0, .init 0, .balwaitExpiry 0 0, .sharedRamEcc 0 0, .ctxEcc 0,
      .contextMove 0 0, .pgmLoad slot [], .pgmAssign slot 0 [] [], .pillowDrain slot 0 0, .pillowReturn slot 0,
      .bobbinRetest slot 0 false, .pgmRemove slot 0 0, .pillowStatus slot 0, .cellDataEcc 0, .fabricAccess 0 0 false 0 [],
      .descriptorFetch .slices descIn, .txFrameReceived .slices 0 sv, .mbxCrtail .manager 0 none, .sliceCreate slot [],
      .sliceQuiesce slot 0, .sliceDrainComplete 0, .quiesceAbandon 0, .sliceResume slot 0, .sliceReset slot [],
      .sliceRemove slot 0, .sliceDirtylog slot 0 false 0 0 0, .dirtyHarvest slot 0, .sliceStatus slot 0, .ctxCreate slot [],
      .ctxModify slot 0 0 0 0 0 0 0, .ctxRemove slot 0, .ctxRead slot 0, .balDefine slot 0 0 0 0 0 0 0 0, .balRemove slot 0,
      .heartbeatReceive 0 .single 0, .mirrorRecord 0 (.durable 0), .publishRecord pubIn, .holdbackExpiry 0,
      .brideAuthDone 0 false, .keysplit 0, .pairBind slot 0 0 0, .pairSwitch slot, .pairLeave slot, .pairForce slot,
      .pairStatus slot, .ceremonyOpen slot 0 0 [], .ceremonyAuth slot [], .ceremonyExec slot 0 .done, .ceremonyCancel slot 0,
      .officerInit slot [], .lcStatus slot, .lcField slot .done, .debugLock slot, .lcComplete slot .done, .lcZeroise slot,
      .lcMfg slot [] 0 .done, .certStore slot [], .rngBlock 0 fine, .rngRequest 0 0, .moraineOffer 0 0 [], .tokenRefill 0,
      .archiveRecord false 0, .logRead slot 0 0 false, .logCheck slot 0 0 false, .logSeal slot 0 0 false, .logLimit slot 0 0 0,
      .resetRelease bootEnv, .hostAccessOpen 0, .recoveryDone .nandFail, .siChange 0 false 0, .captureRead slot 0 0 0,
      .pcieLinkChange false 0 0 false, .vbatLowWarning 0] : List Instr).all Instr.wf = true := by decide +kernel

/-! ### Numbers that the spec writes out -/

/-- The check value of R48 over the ASCII string 123456789. -/
theorem test_crc32c : crc32c ((List.range 9).map (fun k => b8 (0x31 + k))) = 0xE3069283 := by decide +kernel

/-- The worked example of spec/02: 0x0000_0003 to BLK_CTRL of PIL_7 without arming leaves GLB_WERR at 0x3004_701C. -/
theorem test_werr_example :
    next (exec (.regWrite .manager 4 0x04701C 3) up) (fun t => getReg t 0x20 == 0x3004701C#32 && bit (getPage t 0x47).stat 22) = true := by decide +kernel

theorem test_StepKeepsMemoryCanonical :
    memWf { written with pending := [.resetN] } = true ∧ { written with pending := [.resetN] }.mem ≠ []
    ∧ next (step { written with pending := [.resetN] }) (fun t => memWf t && t.boot.inReset) = true := by decide +kernel

end Tests
end Sys2Proof
end

section
/-! PROOFS. The status clear (R43): the common words as registers, the bits that a mask takes out of a number, what BLK_STCLR does to its
page, and the capture of GLB_WERR. -/
namespace Sys2Proof.Machine

/-! ### A write to a common word -/

/-- An access that no cause of R53 refuses falls in an existing page. -/
theorem pageBlock_isSome_of_accessCause (s : State) (by_ : Party) (size addr : Nat) (h : accessCause s by_ size addr = 0) :
    (pageBlock (addr / 0x1000)).isSome = true := by
  cases hp : pageBlock (addr / 0x1000) with
  | some b => rfl
  | none =>
    simp only [accessCause, hp, Option.isNone_none, if_true] at h
    split at h <;> contradiction

@[simp] theorem regAddr_page (p : Nat) {o : Nat} (ho : o < 0x1000) : regAddr p o / 0x1000 = p := by
  unfold regAddr; omega

@[simp] theorem regAddr_offset (p : Nat) {o : Nat} (ho : o < 0x1000) : regAddr p o % 0x1000 = o := by
  unfold regAddr; omega

/-- The common words of an existing page are the eight of R40. -/
theorem regDesc_common {p o : Nat} (hp : (pageBlock p).isSome = true) (ho : o < 0x20) (h4 : o % 4 = 0) :
    regDesc p o = commonDesc o := by
  obtain ⟨⟨code, n, i⟩, hb⟩ := Option.isSome_iff_exists.mp hp
  unfold regDesc
  rw [if_neg (by omega), hb]
  exact if_pos ho

/-- No rule of a block's registers refuses a value of a common word (R16). -/
theorem rsvdValue_common (s : State) (p : Nat) {o : Nat} (v : Word) (ho : o < 0x20) : rsvdValue s p o v = false := by
  have hne : ∀ k, 0x20 ≤ k → o ≠ k := fun k hk => by omega
  unfold rsvdValue slmBad mbxBad
  split <;> simp [hne, show ¬ 0x40 ≤ o by omega]

/-- BLK_STCLR takes every bit: none is reserved, none carries LK (R40). -/
theorem regDesc_stclr (s : State) (by_ : Party) (p : Nat) (h : accessCause s by_ 4 (regAddr p 0x0C) = 0) :
    regDesc p 0x0C = some ⟨allBits, allBits, 0, 0, 0⟩ := by
  have hp := pageBlock_isSome_of_accessCause s by_ 4 _ h
  rw [regAddr_page p (by decide)] at hp
  exact regDesc_common hp (by decide) (by decide)

/-- A write to BLK_STCLR that reaches its page is never refused (R53). -/
theorem writeCause_stclr (s : State) (by_ : Party) (p : Nat) (v : Word) (h : accessCause s by_ 4 (regAddr p 0x0C) = 0) :
    writeCause s by_ 4 (regAddr p 0x0C) v = 0 := by
  have hd := regDesc_stclr s by_ p h
  simp [writeCause, h, hd, rsvdValue_common s p v (show 0x0C < 0x20 by decide)]

/-! ### Bits of numbers -/

theorem bit_eq_testBit (x i : Nat) : bit x i = x.testBit i := by
  rw [Nat.testBit_eq_decide_div_mod_eq]; rfl

theorem and_mod_two (x m : Nat) : (x &&& m) % 2 = x % 2 * (m % 2) := by
  rw [Nat.and_mod_two_pow (n := 1)]
  rcases Nat.mod_two_eq_zero_or_one x with hx | hx <;> rcases Nat.mod_two_eq_zero_or_one m with hm | hm <;> simp [hx, hm]

/-- The lowest bit of a number without the bits of a mask. -/
theorem sub_and_mod_two (x m : Nat) : (x - (x &&& m)) % 2 = x % 2 - x % 2 * (m % 2) := by
  have hle : x &&& m ≤ x := Nat.and_le_left
  have hlow := and_mod_two x m
  rcases Nat.mod_two_eq_zero_or_one m with hm | hm <;> rw [hm] at hlow ⊢ <;> omega

/-- The other bits of a number without the bits of a mask: the lowest one borrows nothing from them. -/
theorem sub_and_div_two (x m : Nat) : (x - (x &&& m)) / 2 = x / 2 - (x / 2 &&& m / 2) := by
  have hle : x &&& m ≤ x := Nat.and_le_left
  have hlow := and_mod_two x m
  rw [← Nat.and_div_two]
  rcases Nat.mod_two_eq_zero_or_one m with hm | hm <;> rw [hm] at hlow <;> omega

/-- Subtracting the bits that a mask has in common with a number takes exactly these bits out of it. -/
theorem testBit_sub_and (x m i : Nat) : (x - (x &&& m)).testBit i = (x.testBit i && !m.testBit i) := by
  induction i generalizing x m with
  | zero =>
    rw [Nat.testBit_zero, sub_and_mod_two]
    rcases Nat.mod_two_eq_zero_or_one m with hm | hm <;> simp [hm]
  | succ i ih => rw [Nat.testBit_succ, sub_and_div_two, ih, Nat.testBit_succ, Nat.testBit_succ]

/-- A field of a register word that starts at bit 0 has the word's bits. -/
theorem bit_fld_low (v : Word) {hi b : Nat} (h : b ≤ hi) : bit (fld v hi 0) b = bit v.toNat b := by
  simp [fld, bits, bit_eq_testBit, Nat.testBit_mod_two_pow, Nat.lt_succ_of_le h]

/-! ### What BLK_STCLR does to its page -/

section
variable (g : PageSt) (v : Word)

@[simp] theorem PageSt.setArmed_stat (by_ : Party) (b : Bool) : (g.setArmed by_ b).stat = g.stat := by cases by_ <;> rfl
@[simp] theorem PageSt.setArmed_seq (by_ : Party) (b : Bool) : (g.setArmed by_ b).seq = g.seq := by cases by_ <;> rfl
@[simp] theorem PageSt.setArmed_cond (by_ : Party) (b : Bool) : (g.setArmed by_ b).cond = g.cond := by cases by_ <;> rfl
@[simp] theorem PageSt.setArmed_irq (by_ : Party) (b : Bool) : (g.setArmed by_ b).irq = g.irq := by cases by_ <;> rfl

@[simp] theorem PageSt.clear_seq : (g.clear v).seq = g.seq := by unfold PageSt.clear; split <;> rfl
@[simp] theorem PageSt.clear_cond : (g.clear v).cond = g.cond := by unfold PageSt.clear; split <;> rfl

/-- A matching clear lowers the page's interrupt (R45). -/
theorem PageSt.clear_irq : (g.clear v).irq = (g.irq && !decide (fld v 31 24 = g.seq)) := by
  unfold PageSt.clear; split <;> simp [*]

/-- The bits that a matching clear takes out of BLK_STAT: of the mask's bits all but SAFE and those whose condition lasts. -/
def PageSt.clearable (g : PageSt) (v : Word) : Nat := fld v 23 0 &&& (0xFFFFFF - (g.cond &&& 0xFFFFFF)) &&& (0xFFFFFF - 2 ^ 21)

theorem PageSt.clear_stat_of_match (h : fld v 31 24 = g.seq) : (g.clear v).stat = g.stat - (g.stat &&& g.clearable v) := by
  have hm : Nat.land (clearMask g (fld v 23 0)) (0xFFFFFF - 2 ^ 21) = g.stat &&& g.clearable v := by
    change fld v 23 0 &&& g.stat &&& (0xFFFFFF - (g.cond &&& 0xFFFFFF)) &&& (0xFFFFFF - 2 ^ 21) = _
    unfold PageSt.clearable
    ac_rfl
  unfold PageSt.clear
  rw [if_pos h, ← hm]

theorem PageSt.clear_of_no_match (h : fld v 31 24 ≠ g.seq) : g.clear v = g := if_neg h

theorem bit_clearable {b : Nat} (hb : b < 24) : bit (g.clearable v) b = (bit v.toNat b && !bit g.cond b && decide (b ≠ 21)) := by
  have hall : (0xFFFFFF : Nat) = 2 ^ 24 - 1 := by decide
  have hcond : (0xFFFFFF - (g.cond &&& 0xFFFFFF)).testBit b = !g.cond.testBit b := by
    rw [Nat.and_comm, testBit_sub_and, hall, Nat.testBit_two_pow_sub_one]
    simp [hb]
  have hsafe : (0xFFFFFF - 2 ^ 21).testBit b = decide (b ≠ 21) :=
    (by decide : ∀ k < 24, (0xFFFFFF - 2 ^ 21).testBit k = decide (k ≠ 21)) b hb
  rw [← bit_fld_low v (hi := 23) (by omega)]
  simp only [bit_eq_testBit, PageSt.clearable, Nat.testBit_and, hcond, hsafe]

/-- Every bit of BLK_STAT after a clear (R42, R43). -/
theorem bit_clear_stat {b : Nat} (hb : b < 24) : bit (g.clear v).stat b
    = (bit g.stat b && !(decide (fld v 31 24 = g.seq) && bit v.toNat b && !bit g.cond b && decide (b ≠ 21))) := by
  by_cases h : fld v 31 24 = g.seq
  · rw [PageSt.clear_stat_of_match g v h, bit_eq_testBit, testBit_sub_and, ← bit_eq_testBit, ← bit_eq_testBit, bit_clearable g v hb]
    simp [h]
  · simp [PageSt.clear_of_no_match g v h, h]

end

/-! ### The capture of GLB_WERR -/

section
variable (held : Bool) (s : State)

theorem werrClear_regs : werrClear held s = { s with regs := (werrClear held s).regs } := by
  unfold werrClear; split <;> rfl

@[simp] theorem getPage_werrClear (p : Nat) : getPage (werrClear held s) p = getPage s p := by
  unfold werrClear; split <;> rfl

theorem getReg_werrClear_capture : getReg (werrClear held s) 0x20 =
    if held = true ∧ bit (getPage s 0).stat 0 = false then 0 else getReg s 0x20 := by
  rw [werrClear, apply_ite (getReg · 0x20), getReg_setReg_self]
  simp only [Bool.and_eq_true, Bool.not_eq_true']

theorem getReg_werrClear_ne {a : Nat} (ha : a ≠ 0x20) : getReg (werrClear held s) a = getReg s a := by
  unfold werrClear; split
  · exact getReg_setReg_ne s 0x20 0 ha
  · rfl

end

/-! ### BLK_STCLR -/

/-- The module after a write to BLK_STCLR that is carried out: the writer's arming is used up, the page's status is cleared, and the capture of
GLB_WERR goes with WERRCAP. -/
def statusCleared (s : State) (by_ : Party) (p : Nat) (v : Word) : State :=
  werrClear (bit (getPage s 0).stat 0) (modPage (modPage s p (fun g => g.setArmed by_ false)) p (fun g => g.clear v))

section
variable (s : State) (by_ : Party) (p : Nat) (v : Word)

/-- The arming of a page is no status bit of any page. -/
theorem stat_modPage_setArmed (q : Nat) (b : Bool) :
    (getPage (modPage s p (fun g => g.setArmed by_ b)) q).stat = (getPage s q).stat := by
  by_cases h : q = p
  · subst h; simp
  · rw [getPage_modPage_ne s p _ h]

theorem exec_blkStclr (h : accessCause s by_ 4 (regAddr p 0x0C) = 0) :
    exec (.blkStclr by_ p v) s = .next (statusCleared s by_ p v) := by
  have hd := regDesc_stclr s by_ p h
  have hw := barWrite_effect s by_ 4 (regAddr p 0x0C) v (commonEffect by_ p 0x0C v) ⟨allBits, allBits, 0, 0, 0⟩
    (writeCause_stclr s by_ p v h) (by simpa using hd) (by decide) (by simp)
  rw [regAddr_page p (by decide)] at hw
  change Host.Outcome.next (barWrite s by_ 4 (regAddr p 0x0C) v (commonEffect by_ p 0x0C v)) = _
  rw [hw, commonEffect, stat_modPage_setArmed]
  rfl

theorem getPage_statusCleared_self :
    getPage (statusCleared s by_ p v) p = ((getPage s p).setArmed by_ false).clear v := by
  simp [statusCleared]

theorem getPage_statusCleared_ne {q : Nat} (hq : q ≠ p) :
    getPage (statusCleared s by_ p v) q = getPage s q := by
  simp [statusCleared, getPage_modPage_ne _ _ _ hq]

/-- Registers and pages alone may differ after a status clear. -/
theorem statusCleared_frame :
    statusCleared s by_ p v = { s with pages := (statusCleared s by_ p v).pages, regs := (statusCleared s by_ p v).regs } := by
  unfold statusCleared
  rw [werrClear_regs]
  rfl

theorem getReg_statusCleared_capture :
    getReg (statusCleared s by_ p v) 0x20 =
      if bit (getPage s 0).stat 0 = true ∧ bit (getPage (statusCleared s by_ p v) 0).stat 0 = false then 0 else getReg s 0x20 := by
  unfold statusCleared
  rw [getReg_werrClear_capture, getPage_werrClear]
  rfl

theorem getReg_statusCleared_ne {a : Nat} (ha : a ≠ 0x20) :
    getReg (statusCleared s by_ p v) a = getReg s a :=
  getReg_werrClear_ne _ _ ha

end

/-- Settles O9: the write is carried out as `statusCleared`, whose page has the bits of `bit_clear_stat`. -/
theorem statusClearNeedsMatchingSeq : Obligations.StatusClearNeedsMatchingSeq := by
  intro s by_ p v _ hacc
  have hpage := getPage_statusCleared_self s by_ p v
  refine ⟨statusCleared s by_ p v, exec_blkStclr s by_ p v hacc, ?sq, ?safe, ?irq, ?seq, ?cond,
    fun q hq => getPage_statusCleared_ne s by_ p v hq, statusCleared_frame s by_ p v,
    getReg_statusCleared_capture s by_ p v, fun a ha => getReg_statusCleared_ne s by_ p v ha⟩
  case sq =>
    intro b hb
    have hlt : b < 24 := by omega
    have hne : b ≠ 21 := by omega
    simp [hpage, bit_clear_stat _ v hlt, hne]
  case safe => simp [hpage, bit_clear_stat _ v (show 21 < 24 by decide)]
  case irq => simp [hpage, PageSt.clear_irq]
  case seq => simp [hpage]
  case cond => simp [hpage]

end Sys2Proof.Machine
end

section
/-! PROOFS. The immediates of Pypian-2 (R254): a word that issues does the work of its row, a register word is its two halves, and the rows
that read an immediate. -/
namespace Sys2Proof.Machine

/-! ### A word that issues -/

section
variable {s : State} {b : Nat} {fg : Bool} {l : Level} {w : OpWord}

/-- A word that issues with some registers also issues with fewer of them. -/
theorem Issues.mono {regs uses : List Nat} (h : Issues s b fg l w regs) (hsub : uses ⊆ regs) : Issues s b fg l w uses := by
  obtain ⟨hfetch, hmajor, hguard, hlres⟩ := h
  exact ⟨hfetch, hmajor, hguard, fun r hr hmem => hlres r hr (hsub hmem)⟩

/-- A guard that holds is not GUARD_NEVER, so a word without a cause of its own decodes (R249). -/
theorem decodeCause_nil_of_guard (h : l.guard w.guard.toNat w.n = true) : decodeCause w [] = none := by
  have hnever : ¬ (w.guard = 0 ∧ w.n = true) := by
    rintro ⟨hg, hn⟩
    simp [Level.guard, Level.pred, hg, hn] at h
  simp only [decodeCause, if_neg hnever]

/-- A word that issues runs its body, where its decoding refuses nothing. -/
theorem pypRun_of_issues {uses : List Nat} (h : Issues s b fg l w uses) (m : Nat) {causes : List Nat} (hc : causes = [])
    {body : State → Bool → Level → Res} {t : State} (hbody : body s fg l = .ok t) : pypRun s b m w causes uses body = t := by
  obtain ⟨⟨hactive, hlevel, hstop, hawait, hpend, hfetch⟩, hmajor, hguard, hlres⟩ := h
  subst hc
  simp only [pypRun, hactive, hlevel, hstop, hawait, hpend, hfetch, hmajor, decodeCause_nil_of_guard hguard, hguard, hbody, ne_eq,
    not_true_eq_false, Option.isSome_none, Bool.and_false, Bool.false_eq_true, if_true, if_false]
  refine if_neg ?_
  split
  · next r hr => simpa using hlres r hr
  · exact Bool.false_ne_true

/-- A word that issues and works on its level alone leaves that level's work, with the pc moved on. -/
theorem pypLevel_of_issues {uses : List Nat} (h : Issues s b fg l w uses) (m : Nat) {causes : List Nat} (hc : causes = [])
    (f : Level → Level) : pypLevel s b m w causes uses f = putLevel s b fg (f l).adv :=
  pypRun_of_issues h m hc rfl

end

/-- A field that reads 0 breaks no reserved bits (R250). -/
theorem rsvdBits_eq_nil {w : OpWord} {hi lo : Nat} (h : opf w hi lo = 0) : rsvdBits w [(hi, lo)] = [] := by
  simp [rsvdBits, h]

/-! ### The halves of a register word -/

theorem fld_high (v : Word) : fld v 31 16 = v.toNat / 65536 := by
  unfold fld bits; omega

theorem fld_low (v : Word) : fld v 15 0 = v.toNat % 65536 := by
  simp [fld, bits]

/-- A word is put together from its halves. -/
theorem w32_halves (v : Word) : w32 (fld v 31 16 * 65536 + fld v 15 0) = v := by
  rw [fld_high, fld_low, Nat.div_add_mod']
  exact (BitVec.ofNat_toNat 32 v).trans (BitVec.setWidth_eq v)

theorem eq_of_halves {v c : Word} (hhigh : fld v 31 16 = fld c 31 16) (hlow : fld v 15 0 = fld c 15 0) : v = c := by
  rw [← w32_halves v, hhigh, hlow, w32_halves]

theorem w32_mul_eq_shift (n : Nat) : w32 (n * 65536) = w32 n <<< 16 := by
  apply BitVec.eq_of_toNat_eq
  simp [w32, Nat.shiftLeft_eq]

/-- The low half of a number, shifted left by 16, is the high half of the word. -/
theorem fld_high_shift {n : Nat} (h : n < 65536) : fld (w32 n <<< 16) 31 16 = n := by
  rw [← w32_mul_eq_shift, fld_high, w32, BitVec.toNat_ofNat]
  omega

theorem fld_high_lt (v : Word) : fld v 31 16 < 65536 := by
  rw [fld_high]; omega

/-! ### The rows that read an immediate -/

/-- The truth of each condition (R266). -/
theorem condFn_eq_some {k : Nat} {x y : Word} {c : Bool}
    (h : (k = 0 ∧ c = decide (x = y)) ∨ (k = 1 ∧ c = decide (x ≠ y)) ∨ (k = 2 ∧ c = decide (x.toInt < y.toInt))
      ∨ (k = 3 ∧ c = decide (y.toInt ≤ x.toInt)) ∨ (k = 4 ∧ c = decide (x.toNat < y.toNat)) ∨ (k = 5 ∧ c = decide (y.toNat ≤ x.toNat))
      ∨ (k = 6 ∧ c = decide (x &&& y ≠ 0)) ∨ (k = 7 ∧ c = decide (x &&& y = 0))) : condFn k x y = some c := by
  obtain ⟨rfl, rfl⟩ | ⟨rfl, rfl⟩ | ⟨rfl, rfl⟩ | ⟨rfl, rfl⟩ | ⟨rfl, rfl⟩ | ⟨rfl, rfl⟩ | ⟨rfl, rfl⟩ | ⟨rfl, rfl⟩ := h
  case inr.inl => exact congrArg some decide_not.symm
  case inr.inr.inr.inr.inr.inr.inl => exact congrArg some decide_not.symm
  all_goals rfl

/-- CMPI and CMP with combination 0 put the condition itself in the predicate (R266). -/
theorem Level.cmpInto_of_condFn (l : Level) (pd : Nat) {cond : Nat} {x y : Word} {c : Bool} (h : condFn cond x y = some c) :
    l.cmpInto pd 0 cond x y = l.setPred pd c := by
  simp [Level.cmpInto, h, combFn]

section
variable {s : State} {b : Fin 512} {fg : Bool} {l : Level} {w : OpWord}

theorem exec_addi (h : Issues s b fg l w [opRd w, opRa w]) :
    exec (.addi b w) s = .next (putLevel s b fg (l.setReg (opRd w) (l.reg (opRa w) + opImmS w)).adv) :=
  congrArg Host.Outcome.next (pypLevel_of_issues h 0x01 rfl _)

theorem exec_andi (h : Issues s b fg l w [opRd w, opRa w]) :
    exec (.andi b w) s = .next (putLevel s b fg (l.setReg (opRd w) (l.reg (opRa w) &&& opImmZ w)).adv) :=
  congrArg Host.Outcome.next (pypLevel_of_issues h 0x02 rfl _)

theorem exec_ori (h : Issues s b fg l w [opRd w, opRa w]) :
    exec (.ori b w) s = .next (putLevel s b fg (l.setReg (opRd w) (l.reg (opRa w) ||| opImmZ w)).adv) :=
  congrArg Host.Outcome.next (pypLevel_of_issues h 0x03 rfl _)

theorem exec_xori (h : Issues s b fg l w [opRd w, opRa w]) :
    exec (.xori b w) s = .next (putLevel s b fg (l.setReg (opRd w) (l.reg (opRa w) ^^^ opImmZ w)).adv) :=
  congrArg Host.Outcome.next (pypLevel_of_issues h 0x04 rfl _)

theorem exec_movhi (h : Issues s b fg l w [opRd w]) (hr : opf w 16 16 = 0) :
    exec (.movhi b w) s = .next (putLevel s b fg (l.setReg (opRd w) (w32 (opImm16 w) <<< 16)).adv) := by
  rw [← w32_mul_eq_shift]
  exact congrArg Host.Outcome.next (pypLevel_of_issues h 0x05 (rsvdBits_eq_nil hr) _)

/-- MOVLO writes the one word that keeps the high half of rd and has imm16 as its low half. -/
theorem exec_movlo (h : Issues s b fg l w [opRd w]) (hr : opf w 16 16 = 0) {v : Word}
    (hhigh : fld v 31 16 = fld (l.reg (opRd w)) 31 16) (hlow : fld v 15 0 = opImm16 w) :
    exec (.movlo b w) s = .next (putLevel s b fg (l.setReg (opRd w) v).adv) := by
  rw [← w32_halves v, hhigh, hlow]
  exact congrArg Host.Outcome.next (pypLevel_of_issues h 0x06 (rsvdBits_eq_nil hr) _)

theorem exec_cmpi (h : Issues s b fg l w [opRa w]) (hpd : opf w 21 19 ≠ 0) (hcomb : opf w 18 17 = 0) {c : Bool}
    (hc : condFn (opf w 11 9) (l.reg (opRa w)) (opImm9 w) = some c) :
    exec (.cmpi b w) s = .next (putLevel s b fg (l.setPred (opf w 21 19) c).adv) := by
  have hput : l.cmpInto (opf w 21 19) (opf w 18 17) (opf w 11 9) (l.reg (opRa w)) (opImm9 w) = l.setPred (opf w 21 19) c := by
    rw [hcomb, Level.cmpInto_of_condFn l _ hc]
  rw [← hput]
  exact congrArg Host.Outcome.next (pypLevel_of_issues h 0x19 (by simp [hpd, hcomb]) _)

end

/-- Settles O34: each row does its level's work; MOVLO's result and the constant built are the words with the two halves given. -/
theorem immediatesExtend : Obligations.ImmediatesExtend := by
  refine ⟨fun s b fg l w x i h hx => ?rows, fun c v hhigh hlow => ?constant⟩
  case constant => exact eq_of_halves (hhigh.trans (fld_high_shift (fld_high_lt c))) hlow
  case rows =>
    have hrd : Issues s b fg l w [opRd w] := h.mono (by simp)
    have hra : Issues s b fg l w [opRa w] := h.mono (by simp)
    subst hx
    exact ⟨exec_addi h, exec_andi h, exec_ori h, exec_xori h, exec_movhi hrd, fun hr _ => exec_movlo hrd hr,
      fun hpd hcomb (hi : i = opImm9 w) _ hc => exec_cmpi hra hpd hcomb (condFn_eq_some (hi ▸ hc))⟩

end Sys2Proof.Machine
end
